-- ==== Sys2Proof/Word.lean ====
section
/-! DEFINITION. Widths and index types of the Corwade 4816 (00_scope.md section 5.1, Table 0-1, Chapter 11). -/

namespace Sys2Proof

/-- One byte. -/
abbrev Byte := BitVec 8

/-- The 8-bit sequence number of a payload message, which wraps from 255 to 0 (R1). -/
abbrev Seq := BitVec 8

/-- The 16-bit tag of a request, chosen by whoever sends it (Table 1-2). -/
abbrev Tag := BitVec 16

/-- A 46-bit line address: a byte address divided by 64. -/
abbrev LineAddr := BitVec 46

/-- A 52-bit byte address. -/
abbrev ByteAddr := BitVec 52

/-- The 64-bit byte mask of a WRM; bit `k` selects data byte `k` (R176). -/
abbrev ByteMask := BitVec 64

/-- Fabric time: a 48-bit microsecond count that wraps at 2^48 (R169). -/
abbrev Time := BitVec 48

/-- A ring index: counts records without limit, modulo 2^32 (section 7.4). -/
abbrev RingIx := BitVec 32

/-- The 64 bytes of a line; entry `k` is the byte at offset `k` within the line (R176). -/
abbrev LineData := Vector Byte 64

/-- A port, which shares its number with its link unit: 0 to 15. -/
abbrev PortIx := Fin 16

/-- A requester id: 0 to 15. -/
abbrev ReqId := Fin 16

/-- A tenant: 0 to 63; tenant 0 is the fabric tenant. -/
abbrev TenantIx := Fin 64

/-- A window of the window table: 0 to 255. -/
abbrev WindowIx := Fin 256

/-- An entry of the outstanding transaction table: 0 to 1023. -/
abbrev OttIx := Fin 1024

/-- A slot of the copy engine: 0 to 3. -/
abbrev SlotIx := Fin 4

end Sys2Proof
end

