-- ==== Sys2Proof/Syntax.lean ====
section
/-! DEFINITION. The names, messages and commands of the 4816: the enumerations of the chapters, the TML
messages of Table 1-2, and `Instr`, one constructor for every row of spec/opcode_table.json. -/

namespace Sys2Proof

/-- The five port modes of Table 2-1, in the order R176 encodes them (OFF 0 … TRUNK 4). -/
inductive PortMode where
  | off | listen | server | memory | trunk
deriving DecidableEq, Repr

/-- The five link states of Table 1-1, in the order R178 encodes them (DOWN 0 … FAILED 4). -/
inductive LinkState where
  | down | training | active | retrain | failed
deriving DecidableEq, Repr

/-- The health state of a link unit (R20). -/
inductive Health where
  | good | weak
deriving DecidableEq, Repr

/-- Response status values (Table 0-3), in the order R176 encodes them (GOOD 0 … LOST 5). -/
inductive Status where
  | good | poison | fault | noroute | denied | lost
deriving DecidableEq, Repr

/-- What a request asks for, with the data and byte mask its kind carries (Table 1-2). -/
inductive ReqBody where
  | rd
  | wr (data : LineData)
  | wrm (data : LineData) (mask : ByteMask)
deriving DecidableEq, Repr

/-- A request message's contents besides sequence number and CRC (Table 1-2). -/
structure Request where
  reqId : ReqId
  tag : Tag
  line : LineAddr
  body : ReqBody
deriving DecidableEq, Repr

/-- The two response kinds: a read response and a write acknowledgement. -/
inductive RespKind where
  | rdata | wack
deriving DecidableEq, Repr

/-- A response message's contents besides sequence number and CRC (Table 1-2); data only on an RDATA with GOOD. -/
structure Response where
  kind : RespKind
  reqId : ReqId
  tag : Tag
  status : Status
  data : Option LineData
deriving DecidableEq, Repr

/-- A payload message's contents: a request or a response. -/
inductive Payload where
  | request (r : Request)
  | response (r : Response)
deriving DecidableEq, Repr

/-- A TML message, as Table 1-2 lists the ten kinds (R1). -/
inductive Message where
  | payload (seq : Seq) (p : Payload)
  | lack (seq : Seq)
  | lnak (seq : Seq)
  | cred (req : ReqId) (count : Nat)
  | trn (mode : PortMode) (seq : Seq) (fresh : Bool)
  | trnr (seq : Seq)
deriving DecidableEq, Repr

/-- The two legs of a window and of an OTT entry. -/
inductive Side where
  | primary | mirror
deriving DecidableEq, Repr

/-- The management response status codes of Table 10-1, in the order R178 encodes them (OK 0 … PENDING 5). -/
inductive MgmtStatus where
  | ok | busy | badArg | conflict | state | pending
deriving DecidableEq, Repr

/-- A command frame as received on MOSI after its first byte 0x01 (R178): command code, argument length and
argument bytes as far as they arrived, and whether CS rose part way through a byte (R163). -/
structure CommandFrame where
  bytes : List Byte
  partialByte : Bool
deriving DecidableEq, Repr

/-- The commands of the block: one constructor per row of spec/opcode_table.json, in the table's order.
Message rows carry the received fields of Table 1-2. Timer and arbiter rows name the unit concerned.
Management rows carry the argument values of their frame (R178), whatever their range. -/
inductive Instr where
  | rdReceived (port : PortIx) (seq : Seq) (req : ReqId) (tag : Tag) (line : LineAddr)
  | wrReceived (port : PortIx) (seq : Seq) (req : ReqId) (tag : Tag) (line : LineAddr) (data : LineData)
  | wrmReceived (port : PortIx) (seq : Seq) (req : ReqId) (tag : Tag) (line : LineAddr) (data : LineData)
      (mask : ByteMask)
  | rdataReceived (port : PortIx) (seq : Seq) (req : ReqId) (tag : Tag) (status : Status)
      (data : Option LineData)
  | wackReceived (port : PortIx) (seq : Seq) (req : ReqId) (tag : Tag) (status : Status)
  | lackReceived (port : PortIx) (seq : Seq)
  | lnakReceived (port : PortIx) (seq : Seq)
  | credReceived (port : PortIx) (req : ReqId) (count : Nat)
  | trnReceived (port : PortIx) (mode : PortMode) (seq : Seq) (fresh : Bool)
  | trnrReceived (port : PortIx) (seq : Seq)
  | crcDiscard (port : PortIx)
  | transmitArbiter (port : PortIx)
  | replayTimerExpiry (port : PortIx)
  | trainTimerExpiry (port : PortIx)
  | decayTimerExpiry (port : PortIx)
  | dispatch (port : PortIx)
  | fabricDispatch
  | reissueSent (entry : OttIx)
  | completionTimeout (entry : OttIx) (side : Side)
  | sweepVisit
  | reliefTimerExpiry (port : PortIx)
  | phaseEnd (tenant : TenantIx)
  | epochTimerExpiry
  | close
  | finalClose
  | recordWriteIssue
  | ringRetryTimerExpiry
  | restoreLinkDeadline
  | commandFrame (frame : CommandFrame)
  | readFrame (count : Nat)
  | malformedCommand (code : Byte)
  | setPortMode (port mode : Nat)
  | setRequester (port req enable tenant grant : Nat)
  | setTenant (tenant card profile ceilingPresent ceiling cap floor : Nat)
  | removeTenant (tenant : Nat)
  | setRateCard (card rr wr surcharge rounding carry : Nat)
  | setProfile (profile level openWidth closedWidth : Nat)
  | setWindow (window tenant base length access primaryPort primaryBase primaryId mirrorPresent mirrorPort
      mirrorBase mirrorId : Nat)
  | setWindowClear (window : Nat)
  | enableWindow (window : Nat)
  | disableWindow (window : Nat)
  | setTiming (retry train completion relief limitPort limit : Nat)
  | setMarks (weak recover backlog latency share : Nat)
  | setEpoch (period : Nat)
  | setBillingRing (base n producer consumer : Nat)
  | adjustTenant (tenant : Nat) (amount : Int)
  | clearSticky (tenant : Nat)
  | closeEpoch
  | restoreLink (port : Nat)
  | linkReset (port : Nat)
  | startRebuild (window : Nat)
  | abortRebuild
  | readPort (port : Nat)
  | readLink (port : Nat)
  | readRequester (port req : Nat)
  | readWindow (window : Nat)
  | readTenant (tenant : Nat)
  | readRateCard (card : Nat)
  | readProfile (profile : Nat)
  | readCongestion (port tenant : Nat)
  | readRing
  | readTime
  | readJob (slot : Nat)
  | readCause
  | setCauseEnable (cause : Nat)
  | clearCauseEnable (cause : Nat)
  | holdAlert
  | releaseAlert
  | powerOnReset
  | resetRelease
  | fabricTimeTick
deriving DecidableEq, Repr

end Sys2Proof
end

