-- ==== Sys2Proof/Decode.lean ====
section
/-! DEFINITION. Management command frames (R178, R163): the command a frame carries, and the frame of a command.
The rows of spec/opcode_table.json give no bits, so no word spells a command. -/

namespace Sys2Proof

/-- The command that a word spells by the table's bits: no row of the table gives bits, so no word spells one. -/
def decodeTableWord (_nbits _w : Nat) : Option Instr := none

/-- `width` bytes of `v`, most significant byte first (R178). -/
def beBytes : Nat → Nat → List Byte
  | 0, _ => []
  | k + 1, v => BitVec.ofNat 8 (v / 256 ^ k) :: beBytes k v

/-- `width` bytes of `v`, least significant byte first (R177). -/
def leBytes : Nat → Nat → List Byte
  | 0, _ => []
  | k + 1, v => BitVec.ofNat 8 v :: leBytes k (v / 256)

/-- The value of bytes sent most significant byte first. -/
def ofBe (bs : List Byte) : Nat := bs.foldl (fun acc b => acc * 256 + b.toNat) 0

/-- The value of bytes stored least significant byte first. -/
def ofLe (bs : List Byte) : Nat := bs.foldr (fun b acc => b.toNat + 256 * acc) 0

/-- A signed value of `bits` bits in two's complement, as an unsigned number. -/
def twos (bits : Nat) (v : Int) : Nat := (v % (2 ^ bits : Nat)).toNat

/-- The signed value that an unsigned number of `bits` bits stands for in two's complement. -/
def ofTwos (bits v : Nat) : Int := if v < 2 ^ (bits - 1) then v else (v : Int) - (2 ^ bits : Nat)

/-- The code of a management command and its arguments, each with its width in bytes, in the order the command's rule
lists them (R178, Table 10-2). The clear form of SET_WINDOW is a SET_WINDOW of length 0 whose other arguments are sent
as 0 (R46). Rows that are no management command have none. -/
def Instr.command : Instr → Option (Nat × List (Nat × Nat))
  | .setPortMode port mode => some (1, [(1, port), (1, mode)])
  | .setRequester port req enable tenant grant => some (2, [(1, port), (1, req), (1, enable), (1, tenant), (1, grant)])
  | .setTenant tenant card profile ceilingPresent ceiling cap floor =>
      some (3, [(1, tenant), (1, card), (1, profile), (1, ceilingPresent), (6, ceiling), (1, cap), (1, floor)])
  | .removeTenant tenant => some (4, [(1, tenant)])
  | .setRateCard card rr wr s rounding carry => some (5, [(1, card), (4, rr), (4, wr), (1, s), (1, rounding), (1, carry)])
  | .setProfile profile level openWidth closedWidth => some (6, [(1, profile), (1, level), (2, openWidth), (2, closedWidth)])
  | .setWindow window tenant base length access primaryPort primaryBase primaryId mirrorPresent mirrorPort mirrorBase
      mirrorId =>
      some (7, [(1, window), (1, tenant), (4, base), (4, length), (1, access), (1, primaryPort), (4, primaryBase),
        (1, primaryId), (1, mirrorPresent), (1, mirrorPort), (4, mirrorBase), (1, mirrorId)])
  | .setWindowClear window =>
      some (7, [(1, window), (1, 0), (4, 0), (4, 0), (1, 0), (1, 0), (4, 0), (1, 0), (1, 0), (1, 0), (4, 0), (1, 0)])
  | .enableWindow window => some (8, [(1, window)])
  | .disableWindow window => some (9, [(1, window)])
  | .setTiming retry train completion relief limitPort limit =>
      some (10, [(1, retry), (2, train), (2, completion), (2, relief), (1, limitPort), (2, limit)])
  | .setMarks weak recover backlog latency share =>
      some (11, [(2, weak), (2, recover), (2, backlog), (2, latency), (2, share)])
  | .setEpoch period => some (12, [(2, period)])
  | .setBillingRing base n producer consumer => some (13, [(7, base), (3, n), (7, producer), (7, consumer)])
  | .adjustTenant tenant amount => some (14, [(1, tenant), (4, twos 32 amount)])
  | .clearSticky tenant => some (15, [(1, tenant)])
  | .closeEpoch => some (16, [])
  | .restoreLink port => some (17, [(1, port)])
  | .linkReset port => some (18, [(1, port)])
  | .startRebuild window => some (19, [(1, window)])
  | .abortRebuild => some (20, [])
  | .readPort port => some (21, [(1, port)])
  | .readLink port => some (22, [(1, port)])
  | .readRequester port req => some (23, [(1, port), (1, req)])
  | .readWindow window => some (24, [(1, window)])
  | .readTenant tenant => some (25, [(1, tenant)])
  | .readRateCard card => some (26, [(1, card)])
  | .readProfile profile => some (27, [(1, profile)])
  | .readCongestion port tenant => some (28, [(1, port), (1, tenant)])
  | .readRing => some (29, [])
  | .readTime => some (30, [])
  | .readJob slot => some (31, [(1, slot)])
  | .readCause => some (32, [])
  | .setCauseEnable cause => some (33, [(1, cause)])
  | .clearCauseEnable cause => some (34, [(1, cause)])
  | .holdAlert => some (35, [])
  | .releaseAlert => some (36, [])
  | .rdReceived .. | .wrReceived .. | .wrmReceived .. | .rdataReceived .. | .wackReceived .. | .lackReceived ..
  | .lnakReceived .. | .credReceived .. | .trnReceived .. | .trnrReceived .. | .crcDiscard .. | .transmitArbiter ..
  | .replayTimerExpiry .. | .trainTimerExpiry .. | .decayTimerExpiry .. | .dispatch .. | .fabricDispatch
  | .reissueSent .. | .completionTimeout .. | .sweepVisit | .reliefTimerExpiry .. | .phaseEnd .. | .epochTimerExpiry
  | .close | .finalClose | .recordWriteIssue | .ringRetryTimerExpiry | .restoreLinkDeadline | .commandFrame ..
  | .readFrame .. | .malformedCommand .. | .powerOnReset | .resetRelease | .fabricTimeTick => none

/-- The code that a response to the command carries: its command code; the code a malformed frame carried (R163). -/
def Instr.code : Instr → Byte
  | .malformedCommand code => code
  | i => match i.command with
    | some (code, _) => BitVec.ofNat 8 code
    | none => 0

/-- The frame of a management command after its first byte: code, argument length and arguments (R178). -/
def encodeFrame (i : Instr) : Option CommandFrame :=
  i.command.map fun c =>
    let args := c.2.flatMap fun a => beBytes a.1 a.2
    ⟨BitVec.ofNat 8 c.1 :: BitVec.ofNat 8 args.length :: args, false⟩

/-- The widths in bytes of a command's arguments, by command code: each argument occupies the fewest whole bytes that
hold its range (R178). Code 0 and codes 37 to 255 name no command. -/
def argWidths : Nat → Option (List Nat)
  | 1 => some [1, 1]
  | 2 => some [1, 1, 1, 1, 1]
  | 3 => some [1, 1, 1, 1, 6, 1, 1]
  | 4 => some [1]
  | 5 => some [1, 4, 4, 1, 1, 1]
  | 6 => some [1, 1, 2, 2]
  | 7 => some [1, 1, 4, 4, 1, 1, 4, 1, 1, 1, 4, 1]
  | 8 => some [1]
  | 9 => some [1]
  | 10 => some [1, 2, 2, 2, 1, 2]
  | 11 => some [2, 2, 2, 2, 2]
  | 12 => some [2]
  | 13 => some [7, 3, 7, 7]
  | 14 => some [1, 4]
  | 15 => some [1]
  | 16 => some []
  | 17 => some [1]
  | 18 => some [1]
  | 19 => some [1]
  | 20 => some []
  | 21 => some [1]
  | 22 => some [1]
  | 23 => some [1, 1]
  | 24 => some [1]
  | 25 => some [1]
  | 26 => some [1]
  | 27 => some [1]
  | 28 => some [1, 1]
  | 29 => some []
  | 30 => some []
  | 31 => some [1]
  | 32 => some []
  | 33 => some [1]
  | 34 => some [1]
  | 35 => some []
  | 36 => some []
  | _ => none

/-- The argument values of the given widths, read from the argument bytes. -/
def splitArgs : List Nat → List Byte → List Nat
  | [], _ => []
  | w :: ws, bs => ofBe (bs.take w) :: splitArgs ws (bs.drop w)

/-- The command of a code with its argument values (Table 10-2). -/
def buildCommand : Nat → List Nat → Option Instr
  | 1, [port, mode] => some (.setPortMode port mode)
  | 2, [port, req, enable, tenant, grant] => some (.setRequester port req enable tenant grant)
  | 3, [tenant, card, profile, present, ceiling, cap, floor] => some (.setTenant tenant card profile present ceiling cap floor)
  | 4, [tenant] => some (.removeTenant tenant)
  | 5, [card, rr, wr, s, rounding, carry] => some (.setRateCard card rr wr s rounding carry)
  | 6, [profile, level, o, c] => some (.setProfile profile level o c)
  | 7, [window, tenant, base, length, access, pp, pb, pi, present, mp, mb, mi] =>
      if length = 0 then some (.setWindowClear window)
      else some (.setWindow window tenant base length access pp pb pi present mp mb mi)
  | 8, [window] => some (.enableWindow window)
  | 9, [window] => some (.disableWindow window)
  | 10, [retry, train, completion, relief, port, limit] => some (.setTiming retry train completion relief port limit)
  | 11, [weak, recover, backlog, latency, share] => some (.setMarks weak recover backlog latency share)
  | 12, [period] => some (.setEpoch period)
  | 13, [base, n, producer, consumer] => some (.setBillingRing base n producer consumer)
  | 14, [tenant, amount] => some (.adjustTenant tenant (ofTwos 32 amount))
  | 15, [tenant] => some (.clearSticky tenant)
  | 16, [] => some .closeEpoch
  | 17, [port] => some (.restoreLink port)
  | 18, [port] => some (.linkReset port)
  | 19, [window] => some (.startRebuild window)
  | 20, [] => some .abortRebuild
  | 21, [port] => some (.readPort port)
  | 22, [port] => some (.readLink port)
  | 23, [port, req] => some (.readRequester port req)
  | 24, [window] => some (.readWindow window)
  | 25, [tenant] => some (.readTenant tenant)
  | 26, [card] => some (.readRateCard card)
  | 27, [profile] => some (.readProfile profile)
  | 28, [port, tenant] => some (.readCongestion port tenant)
  | 29, [] => some .readRing
  | 30, [] => some .readTime
  | 31, [slot] => some (.readJob slot)
  | 32, [] => some .readCause
  | 33, [cause] => some (.setCauseEnable cause)
  | 34, [cause] => some (.clearCauseEnable cause)
  | 35, [] => some .holdAlert
  | 36, [] => some .releaseAlert
  | _, _ => none

/-- The command that a command frame carries. A frame is malformed when its code names no command, when it holds fewer
or more argument bytes than its length field gives, when its length does not match the command's argument list, or when
CS rises part way through a byte; its code is then the one it carried, or 0 when the frame ended before its code was
complete (R163). -/
def decodeFrame (f : CommandFrame) : Instr :=
  match f.bytes with
  | [] => .malformedCommand 0
  | [code] => .malformedCommand code
  | code :: len :: args =>
    match argWidths code.toNat with
    | none => .malformedCommand code
    | some widths =>
      if f.partialByte ∨ args.length ≠ len.toNat ∨ widths.sum ≠ len.toNat then .malformedCommand code
      else (buildCommand code.toNat (splitArgs widths args)).getD (.malformedCommand code)

end Sys2Proof
end

