-- ==== Sys2Proof/Config.lean ====
section
/-! DEFINITION. What this part fixes (Table 0-1 and the limits its chapters state), and the one value the manual
leaves open. -/

namespace Sys2Proof.Config

/-- The retry buffer holds 0 to 48 messages (Table 1-1). -/
def retryBufferSize : Nat := 48

/-- The health score's upper limit (R19). -/
def healthMax : Nat := 1023

/-- The upper limit of a send credit count (R14). -/
def sendCreditMax : Nat := 1023

/-- The count of accepted messages at which a LACK goes ahead of credit and payload, and K's limit (R4, R10). -/
def ackBatch : Nat := 16

/-- Health increase of a receive-side discard (Table 1-6). -/
def discardHealth : Nat := 16

/-- Health increase of a replay-timer expiry (Table 1-6). -/
def expiryHealth : Nat := 64

/-- Health increase of a completion timeout (Table 1-6). -/
def timeoutHealth : Nat := 128

/-- The decay timer's fixed period in µs (R19, R21). -/
def decayPeriod : Nat := 1000

/-- The number of replays without progress that leads to RETRAIN in place of the next one (R9). -/
def replayLimit : Nat := 3

/-- The last attempt of a retrain (R16). -/
def retrainAttempts : Nat := 3

/-- Limit of a 32-bit saturating counter (Table 1-4). -/
def counterMax : Nat := 2 ^ 32 - 1

/-- Credits the requesters of one port may hold together: the slots of its ingress stage (R28, R34). -/
def ingressSlots : Nat := 64

/-- Entries 0 to 991 form the server and trunk pool (R64). -/
def serverPool : Nat := 992

/-- Entries 992 to 1023 form the fabric pool (R64). -/
def fabricPool : Nat := 32

/-- Lines in one 2 MiB unit (R43). -/
def linesPerUnit : Nat := 32768

/-- A 16-bit counter's limit: NR, DN, the late count and a latency sample (Tables 6-1, 7-1, 5-1). -/
def count16Max : Nat := 65535

/-- A line meter's limit (R110). -/
def meterMax : Nat := 2 ^ 40 - 1

/-- The accumulator's limit in magnitude (R109). -/
def accumulatorMax : Int := 2 ^ 95 - 1

/-- The pending adjustment's limit in magnitude (R112). -/
def adjustmentMax : Int := 2 ^ 47 - 1

/-- The charge's and the balance's upper limit; the lower one is −2^47 (R115, R116). -/
def moneyMax : Int := 2 ^ 47 - 1

/-- The charge's and the balance's lower limit (R115, R116). -/
def moneyMin : Int := -2 ^ 47

/-- One billing unit in the accumulator's units of 2^-24 BU (R108). -/
def unitScale : Int := 2 ^ 24

/-- The hold list holds up to 8 built records (R128). -/
def holdListSize : Nat := 8

/-- The ring writer's retry period in µs (R132). -/
def ringRetryPeriod : Nat := 1000

/-- The frontier never exceeds the cursor by more than this many lines (R150). -/
def copySpan : Nat := 4

/-- The redo count at which a copy slot is pinned (R155). -/
def redoLimit : Nat := 4

/-- The alert hold depth's limit (R173). -/
def holdDepthMax : Nat := 15

/-- RESTORE_LINK's deadline in train timeouts (R144). -/
def restoreFactor : Nat := 3

/-- FREE VALUE. Bit 0 of the flags byte in the PENDING response frame, as a function of the port's overlap flag:
R162 gives that frame's code, status and data and says nothing of this bit (assumption 9). -/
opaque pendingOverlap : Bool → Bool

end Sys2Proof.Config
end

