-- ==== Sys2Proof/Machine/State.lean ====
section
/-! DEFINITION. Every piece of state the spec gives the 4816, block by block (Table 0-1), the values after
power-on reset, and the reasons a step may stop. -/

namespace Sys2Proof.Machine

/-- A running timer: the fabric time at which it was started and the period it was started with (R169). -/
structure Timer where
  start : Time
  period : Nat
deriving DecidableEq, Repr

/-! ### Link unit (Table 1-1) -/

/-- Link counters (Table 1-4), each saturating at 2^32 − 1. -/
structure LinkCounters where
  crcDiscards : Nat
  seqDiscards : Nat
  overruns : Nat
  replays : Nat
  replayExpiries : Nat
  retrains : Nat
  failures : Nat
  lateResponses : Nat
deriving DecidableEq, Repr

/-- The state of one link unit (Table 1-1). The retry buffer holds its messages oldest first; the oldest one's
sequence number O is `sendSeq` less the number held. -/
structure LinkUnit where
  /-- Port mode, written by SET_PORT_MODE. -/
  mode : PortMode
  state : LinkState
  /-- S: the sequence number the next new payload message will carry. -/
  sendSeq : Seq
  /-- Sent, unacknowledged payload messages, oldest first. -/
  retry : List Payload
  /-- Replay position: absent, or the sequence number of the next buffered message to be resent. -/
  replayPos : Option Seq
  replayTimer : Option Timer
  /-- Q: replays since the last acknowledgement progress. -/
  replayCount : Nat
  /-- E: the sequence number the next accepted payload message must carry. -/
  expSeq : Seq
  /-- K: payload messages accepted since the last LACK was sent. -/
  ackOwed : Nat
  /-- Discard episode open. -/
  episode : Bool
  /-- Training flag: TRN sent. -/
  trnSent : Bool
  /-- Training flag: partner heard. -/
  heard : Bool
  trainTimer : Option Timer
  /-- Retrain attempt 1 to 3, present in RETRAIN. -/
  attempt : Option Nat
  partnerMode : Option PortMode
  sendCredit : Vector Nat 16
  recvCredit : Vector Nat 16
  /-- Payload messages offered for sending and not yet sent for the first time. -/
  txQueue : List Payload
  health : Nat
  healthState : Health
  decayTimer : Timer
  counters : LinkCounters
  /-- TRNR owed to the partner, with the sequence number it carries (R4 class 1). -/
  trnrOwed : Option Seq
  /-- TRN owed under R15 or R16, with its fresh flag (R4 class 1). -/
  trnOwed : Option Bool
  /-- LNAK owed under R12. -/
  lnakOwed : Bool
  /-- The link's output: the message the latest arbiter event put on the link, if it had one to send (R4). -/
  output : Option Message
deriving DecidableEq, Repr

/-! ### Ingress stage and requester map (Table 2-2) -/

/-- A requester entry with its sub-queue, head first; the queued count is the sub-queue's length. -/
structure Requester where
  enabled : Bool
  tenant : TenantIx
  grant : Nat
  inForce : Nat
  owed : Nat
  queue : List Request
deriving DecidableEq, Repr

/-- One port's requester map, ingress stage and dispatcher, with the OTT's count for that ingress port. -/
structure IngressStage where
  requesters : Vector Requester 16
  /-- Round-robin position: the requester last dispatched from (R37). -/
  lastDispatched : ReqId
  /-- OTT limit of the port (R38). -/
  ottLimit : Nat
  /-- LIVE and ORPHAN entries of server or trunk origin whose ingress port is this port (R64). -/
  ottCount : Nat
deriving DecidableEq, Repr

/-! ### Window table (Table 3-1) -/

/-- Leg states (Table 3-2). -/
inductive LegState where
  | inService | lost | rebuilding | absent
deriving DecidableEq, Repr

/-- Whether a window allows writes. -/
inductive Access where
  | readWrite | readOnly
deriving DecidableEq, Repr

/-- One leg of a window: port, target base in 2 MiB units, trunk requester id and leg state. -/
structure WindowLeg where
  port : PortIx
  base : Nat
  trunkId : ReqId
  state : LegState
deriving DecidableEq, Repr

/-- A window of the window table. -/
structure Window where
  configured : Bool
  enabled : Bool
  tenant : TenantIx
  base : Nat
  length : Nat
  access : Access
  primary : WindowLeg
  mirror : WindowLeg
  outstanding : Nat
deriving DecidableEq, Repr

/-! ### Outstanding transaction table (Tables 4-1, 4-2) -/

/-- The fabric requester's jobs, which a fabric entry's origin names (Table 4-1). -/
inductive FabricJob where
  | ringRecord
  | ringIndex
  | copySlot (slot : SlotIx)
deriving DecidableEq, Repr

/-- Where a transaction came from (Table 4-1). -/
inductive Origin where
  | ingress (port : PortIx) (req : ReqId) (tag : Tag)
  | fabric (job : FabricJob)
deriving DecidableEq, Repr

/-- Entry states (R65). -/
inductive EntryState where
  | free | live | orphan
deriving DecidableEq, Repr

/-- Leg progress (Table 4-2). -/
inductive LegProgress where
  | none | waiting | sent | doneGood | doneFailed | abandoned
deriving DecidableEq, Repr

/-- A leg of an OTT entry. The deadline is `sentTime` plus `timeout` (R77). -/
structure OttLeg where
  progress : LegProgress
  port : PortIx
  reqId : ReqId
  congested : Bool
  stale : Bool
  sentTime : Time
  /-- Completion timeout in force when the leg became SENT, or when its reissue was decided. -/
  timeout : Nat
  sample : Bool
  /-- Failure status: the taken status a failed leg was answered with (R72). -/
  failStatus : Option Status
deriving DecidableEq, Repr

/-- An OTT entry. -/
structure OttEntry where
  state : EntryState
  gen : BitVec 4
  origin : Origin
  tenant : TenantIx
  window : WindowIx
  body : ReqBody
  line : LineAddr
  reissued : Bool
  readData : Option LineData
  primary : OttLeg
  mirror : OttLeg
deriving DecidableEq, Repr

/-- The table, its two free lists and the counts of its pools (R64). -/
structure Ott where
  entries : Vector OttEntry 1024
  serverFree : List OttIx
  fabricFree : List OttIx
  serverCount : Nat
  fabricCount : Nat
deriving DecidableEq, Repr

/-! ### Congestion relief and pacing (Tables 5-1, 5-2) -/

/-- Port state of a congestion monitor. -/
inductive PortState where
  | clear | congested
deriving DecidableEq, Repr

/-- Sample state of a congestion monitor. -/
inductive SampleState where
  | idle | armed | outstanding
deriving DecidableEq, Repr

/-- A congestion monitor; its backlog is kept by the dispatchers (R41) and computed from their state. -/
structure Monitor where
  portState : PortState
  inFlight : Nat
  reliefTimer : Timer
  sample : SampleState
  sampleStart : Time
  lastSample : Option Nat
  fresh : Bool
deriving DecidableEq, Repr

/-- One entry of the contribution table: in-flight(t,p) and level(t,p) (R85). -/
structure Contribution where
  inFlight : Nat
  level : Nat
deriving DecidableEq, Repr

/-- Pacer phases. -/
inductive Phase where
  | opened | closed
deriving DecidableEq, Repr

/-- A tenant's pacer. The congestion level is the largest of the tenant's levels in the contribution table (R94);
the phase length is the running timer's period. -/
structure Pacer where
  level : Nat
  phase : Phase
  timer : Option Timer
deriving DecidableEq, Repr

/-- Open and closed width of a relief profile entry, in µs (R95). -/
structure Widths where
  openUs : Nat
  closedUs : Nat
deriving DecidableEq, Repr

/-- A relief profile: one entry for each of the levels 1, 2 and 3. -/
structure Profile where
  level1 : Widths
  level2 : Widths
  level3 : Widths
deriving DecidableEq, Repr

/-! ### Tenants and rate cards (Tables 6-1, 6-2) -/

/-- Tenant states (R104). -/
inductive TenantState where
  | unused | active | retiring
deriving DecidableEq, Repr

/-- A tenant record. -/
structure Tenant where
  state : TenantState
  card : Fin 16
  profile : Fin 4
  ceiling : Option Nat
  cap : Nat
  floor : Nat
  epoch : BitVec 32
  rl : Nat
  wl : Nat
  rlc : Nat
  wlc : Nat
  msat : Bool
  nr : Nat
  dn : Nat
  /-- Accumulator A, in 2^-24 BU. -/
  acc : Int
  /-- Pending adjustment J, in BU. -/
  adj : Int
  /-- Balance B, in BU. -/
  balance : Int
  os : Bool
  capped : Bool
  cappedInEpoch : Bool
  highest : Nat
deriving DecidableEq, Repr

/-- Rounding modes (Table 6-4), in the order R177 encodes them. -/
inductive Rounding where
  | nearest | up | down | trunc
deriving DecidableEq, Repr

/-- A rate card. -/
structure RateCard where
  rr : Nat
  wr : Nat
  surcharge : Nat
  rounding : Rounding
  carry : Bool
deriving DecidableEq, Repr

/-! ### Epoch closer, hold list and billing ring (Tables 7-1, 7-2) -/

/-- Closer states. -/
inductive CloserState where
  | idle | walking | waiting
deriving DecidableEq, Repr

/-- Walk kinds. -/
inductive WalkKind where
  | full | retire
deriving DecidableEq, Repr

/-- The epoch closer. -/
structure Closer where
  state : CloserState
  kind : WalkKind
  position : TenantIx
  walkJob : Bool
  built : Nat
  /-- Epoch period in seconds; 0 means the timer is stopped. -/
  period : Nat
  timer : Option Timer
  pendingFlag : Bool
  lateCount : Nat
deriving DecidableEq, Repr

/-- A billing record (Table 7-2). -/
structure BillingRecord where
  tenant : TenantIx
  ov : Bool
  os : Bool
  cappedInEpoch : Bool
  msat : Bool
  final : Bool
  carry : Bool
  card : Fin 16
  rounding : Rounding
  profile : Fin 4
  highest : Nat
  epoch : BitVec 32
  rl : Nat
  wl : Nat
  rlc : Nat
  wlc : Nat
  charge : Int
  balance : Int
  nr : Nat
  dn : Nat
  closeTime : Time
deriving DecidableEq, Repr

/-- Ring writer states (R130). -/
inductive WriterState where
  | idle | writingRecord | writingIndex | stalled
deriving DecidableEq, Repr

/-- The ring writer's two kinds of write. -/
inductive RingWrite where
  | record | index
deriving DecidableEq, Repr

/-- A watched leg: OTT index, generation and leg, and the value the write carries at the location (R133). -/
structure WatchEntry where
  entry : OttIx
  gen : BitVec 4
  side : Side
  value : RingIx
deriving DecidableEq, Repr

/-- Ring geometry, indexes, writer and watch list. -/
structure Ring where
  configured : Bool
  base : ByteAddr
  /-- N, the number of record slots. -/
  slots : Nat
  producerLoc : ByteAddr
  consumerLoc : ByteAddr
  /-- Producer index P. -/
  prod : RingIx
  /-- Consumer index C. -/
  cons : RingIx
  writer : WriterState
  stalled : Option RingWrite
  retryTimer : Option Timer
  watch : List WatchEntry
deriving DecidableEq, Repr

/-- A pending request of the fabric requester (R40). -/
structure FabricReq where
  job : FabricJob
  line : LineAddr
  body : ReqBody
deriving DecidableEq, Repr

/-! ### Failover sweep (Table 8-1) -/

/-- The failover sweep: the port being swept while SWEEPING (none while IDLE), the position and the queue. -/
structure Sweep where
  port : Option PortIx
  position : OttIx
  queue : List PortIx
deriving DecidableEq, Repr

/-! ### Copy engine (Tables 9-1, 9-2) -/

/-- Engine states. -/
inductive EngineState where
  | idle | copying | draining
deriving DecidableEq, Repr

/-- Failure reasons, in the order R178 encodes them (none 0 … ABORTED 4). -/
inductive FailReason where
  | none | copyReadFailed | rebuildLegLost | survivorLost | aborted
deriving DecidableEq, Repr

/-- Copy slot states. -/
inductive SlotState where
  | free | reading | writing
deriving DecidableEq, Repr

/-- A copy slot. -/
structure CopySlot where
  state : SlotState
  line : Nat
  sent : Bool
  redo : Bool
  redoCount : Nat
  pinned : Bool
  data : Option LineData
deriving DecidableEq, Repr

/-- The copy engine. -/
structure CopyEngine where
  state : EngineState
  window : Option WindowIx
  /-- The rebuilding leg; the survivor is the window's other leg. -/
  rebuilding : Side
  firstLine : Nat
  endLine : Nat
  cursor : Nat
  frontier : Nat
  redoTotal : Nat
  reason : FailReason
  slots : Vector CopySlot 4
deriving DecidableEq, Repr

/-! ### Job slots, causes, management port, settings (Chapter 10) -/

/-- Job states, in the order R178 encodes them. -/
inductive JobState where
  | idle | active | done | failed
deriving DecidableEq, Repr

/-- A job slot's state and result. -/
structure Job where
  state : JobState
  result : Nat
deriving DecidableEq, Repr

/-- The three job slots, the LINK slot's port and the RESTORE_LINK deadline. -/
structure Jobs where
  close : Job
  link : Job
  rebuild : Job
  linkPort : PortIx
  deadline : Option Timer
deriving DecidableEq, Repr

/-- One cause's pending flag, detail and enable flag. -/
structure CauseEntry where
  pending : Bool
  detail : BitVec 16
  enabled : Bool
deriving DecidableEq, Repr

/-- The cause register: entry `n − 1` is cause `n` of Table 10-4; and the alert hold depth. -/
structure CauseRegister where
  entries : Vector CauseEntry 14
  holdDepth : Nat
deriving DecidableEq, Repr

/-- A response frame (R162). -/
structure ResponseFrame where
  code : Byte
  status : MgmtStatus
  overlap : Bool
  data : List Byte
deriving DecidableEq, Repr

/-- The management port: the command in hand, the overlap flag, the current response frame, and what the latest
frame drove on MISO. -/
structure Mgmt where
  inHand : Option CommandFrame
  overlap : Bool
  response : ResponseFrame
  miso : List Byte
deriving DecidableEq, Repr

/-- The settings that SET_TIMING and SET_MARKS write for the whole part (R165, R20, R92). -/
structure Settings where
  retryTimeout : Nat
  trainTimeout : Nat
  completionTimeout : Nat
  reliefInterval : Nat
  weakMark : Nat
  recoverMark : Nat
  backlogMark : Nat
  latencyMark : Nat
  share : Nat
deriving DecidableEq, Repr

/-! ### The whole part -/

/-- The state of the 4816, and the queue of commands waiting to be taken, first in, first out. -/
structure State where
  links : Vector LinkUnit 16
  stages : Vector IngressStage 16
  windows : Vector Window 256
  ott : Ott
  monitors : Vector Monitor 16
  /-- Contribution table: by tenant, then by port. -/
  contrib : Vector (Vector Contribution 16) 64
  pacers : Vector Pacer 64
  profiles : Vector Profile 4
  tenants : Vector Tenant 64
  cards : Vector RateCard 16
  closer : Closer
  /-- Built billing records awaiting the ring, oldest first. -/
  holdList : List BillingRecord
  ring : Ring
  /-- The fabric requester's pending requests, earliest issued first. -/
  fabric : List FabricReq
  sweep : Sweep
  copy : CopyEngine
  jobs : Jobs
  causes : CauseRegister
  mgmt : Mgmt
  settings : Settings
  /-- Fabric time. -/
  time : Time
  /-- The RESET pin: asserted. -/
  resetAsserted : Bool
  /-- The model's own field: commands waiting, first in, first out. -/
  pending : List Instr
deriving DecidableEq, Repr

/-- Reasons the part stops with a fault: there are none. Every event of the 4816 that the spec describes leaves the
part running, so no meaning raises a fault (safe: nothing is cut off). -/
inductive Fault where
deriving DecidableEq, Repr

/-- Reasons the model gives no next state. -/
inductive Refusal where
  /-- Raised by an arm of `exec` for a row without a meaning; no arm of this model raises it (safe). -/
  | notModelled (mnemonic : String)
deriving DecidableEq, Repr

/-! ### Values after power-on reset -/

/-- A timer started at fabric time 0. -/
def Timer.fromZero (period : Nat) : Timer := ⟨0, period⟩

/-- Every counter of Table 1-4 at 0 (R23). -/
def LinkCounters.zero : LinkCounters := ⟨0, 0, 0, 0, 0, 0, 0, 0⟩

/-- A link unit while RESET is asserted: the values of R23, and the link held DOWN so that it sends and takes nothing
(R174). DESIGN CHOICE (assumption 3): the link state while RESET is asserted. -/
def LinkUnit.held : LinkUnit where
  mode := .listen
  state := .down
  sendSeq := 0
  retry := []
  replayPos := none
  replayTimer := none
  replayCount := 0
  expSeq := 0
  ackOwed := 0
  episode := false
  trnSent := false
  heard := false
  trainTimer := none
  attempt := none
  partnerMode := none
  sendCredit := Vector.replicate 16 0
  recvCredit := Vector.replicate 16 0
  txQueue := []
  health := 0
  healthState := .good
  decayTimer := .fromZero Config.decayPeriod
  counters := .zero
  trnrOwed := none
  trnOwed := none
  lnakOwed := false
  output := none

/-- A link unit at the release of RESET: fresh TRAINING under R15 with the train timeout of 200 µs (R23). -/
def LinkUnit.released : LinkUnit :=
  { LinkUnit.held with
    state := .training
    trnSent := true
    trnOwed := some true
    trainTimer := some (.fromZero 200) }

/-- A requester entry after power-on reset (R28). -/
def Requester.reset : Requester := ⟨false, 0, 0, 0, 0, []⟩

/-- An ingress stage after power-on reset: round-robin position 15, OTT limit 128 (R37, R38). -/
def IngressStage.reset : IngressStage := ⟨Vector.replicate 16 .reset, 15, 128, 0⟩

/-- A window in its power-on state (R63). -/
def Window.reset : Window where
  configured := false
  enabled := false
  tenant := 0
  base := 0
  length := 0
  access := .readWrite
  primary := ⟨0, 0, 0, .inService⟩
  mirror := ⟨0, 0, 0, .absent⟩
  outstanding := 0

/-- A leg of progress NONE with its flags clear (R84). -/
def OttLeg.none : OttLeg := ⟨.none, 0, 0, false, false, 0, 0, false, Option.none⟩

/-- A FREE entry of the given generation: it holds no transaction (R65). -/
def OttEntry.freed (gen : BitVec 4) : OttEntry where
  state := .free
  gen := gen
  origin := .fabric .ringRecord
  tenant := 0
  window := 0
  body := .rd
  line := 0
  reissued := false
  readData := Option.none
  primary := .none
  mirror := .none

/-- The OTT after power-on reset: both free lists in ascending order, every count 0 (R64, R84). -/
def Ott.reset : Ott where
  entries := Vector.replicate 1024 (.freed 0)
  serverFree := (List.finRange 1024).take Config.serverPool
  fabricFree := (List.finRange 1024).drop Config.serverPool
  serverCount := 0
  fabricCount := 0

/-- A congestion monitor after power-on reset, its relief timer in a first period of 100 µs (R102). -/
def Monitor.reset : Monitor := ⟨.clear, 0, .fromZero 100, .idle, 0, none, false⟩

/-- A pacer after power-on reset (R102). -/
def Pacer.reset : Pacer := ⟨0, .opened, none⟩

/-- A profile entry of widths 0 (R95). -/
def Widths.zero : Widths := ⟨0, 0⟩

/-- The record of an UNUSED tenant: every field 0 and the ceiling absent (R104). -/
def Tenant.unused : Tenant where
  state := .unused
  card := 0
  profile := 0
  ceiling := none
  cap := 0
  floor := 0
  epoch := 0
  rl := 0
  wl := 0
  rlc := 0
  wlc := 0
  msat := false
  nr := 0
  dn := 0
  acc := 0
  adj := 0
  balance := 0
  os := false
  capped := false
  cappedInEpoch := false
  highest := 0

/-- A rate card after power-on reset (R120). -/
def RateCard.reset : RateCard := ⟨0, 0, 0, .nearest, false⟩

/-- The closer after power-on reset (R136). DESIGN CHOICE (assumption 2): the walk kind. -/
def Closer.reset : Closer := ⟨.idle, .full, 0, false, 0, 0, none, false, 0⟩

/-- The ring after power-on reset (R136). -/
def Ring.reset : Ring := ⟨false, 0, 0, 0, 0, 0, 0, .idle, none, none, []⟩

/-- A FREE copy slot with every field clear or 0 (R161). -/
def CopySlot.freed : CopySlot := ⟨.free, 0, false, false, 0, false, none⟩

/-- The copy engine after power-on reset (R161). DESIGN CHOICE (assumption 2): which leg is named as rebuilding. -/
def CopyEngine.reset : CopyEngine where
  state := .idle
  window := Option.none
  rebuilding := .primary
  firstLine := 0
  endLine := 0
  cursor := 0
  frontier := 0
  redoTotal := 0
  reason := .none
  slots := Vector.replicate 4 .freed

/-- A job slot after power-on reset (R167). -/
def Job.reset : Job := ⟨.idle, 0⟩

/-- The empty response frame (R162). -/
def ResponseFrame.empty : ResponseFrame := ⟨0, .ok, false, []⟩

/-- The settings after power-on reset (R175). -/
def Settings.reset : Settings where
  retryTimeout := 16
  trainTimeout := 200
  completionTimeout := 2000
  reliefInterval := 100
  weakMark := 256
  recoverMark := 128
  backlogMark := 8
  latencyMark := 50
  share := 64

/-- The part while RESET is asserted: every block at its power-on values, every link held DOWN, fabric time 0
(R174). -/
def State.held : State where
  links := Vector.replicate 16 .held
  stages := Vector.replicate 16 .reset
  windows := Vector.replicate 256 .reset
  ott := .reset
  monitors := Vector.replicate 16 .reset
  contrib := Vector.replicate 64 (Vector.replicate 16 ⟨0, 0⟩)
  pacers := Vector.replicate 64 .reset
  profiles := Vector.replicate 4 ⟨.zero, .zero, .zero⟩
  tenants := (Vector.replicate 64 .unused).set 0 { Tenant.unused with state := .active }
  cards := Vector.replicate 16 .reset
  closer := .reset
  holdList := []
  ring := .reset
  fabric := []
  sweep := ⟨none, 0, []⟩
  copy := .reset
  jobs := ⟨.reset, .reset, .reset, 0, none⟩
  causes := ⟨Vector.replicate 14 ⟨false, 0, false⟩, 0⟩
  mgmt := ⟨none, false, .empty, []⟩
  settings := .reset
  time := 0
  resetAsserted := true
  pending := []

/-- The part right after reset: RESET released, every block at its power-on values, fabric time 0 and every link unit
in fresh training in LISTEN mode (R23, R174). -/
def State.reset : State :=
  { State.held with
    links := Vector.replicate 16 .released
    resetAsserted := false }

end Sys2Proof.Machine
end

