-- ==== Sys2Proof/Machine/Ops.lean ====
section
/-! DEFINITION. The named operations over the tables of `State`, timers and saturating counts, on which every meaning
is built. -/

namespace Sys2Proof.Machine

/-! ### Tables -/

/-- The table with entry `i` replaced by `f` of it. -/
def mapAt {α : Type} {n : Nat} (v : Vector α n) (i : Fin n) (f : α → α) : Vector α n := v.set i.1 (f v[i]) i.2

/-- The numbers below `n` for which `f` holds, in ascending order. -/
def indicesWhere (n : Nat) (f : Fin n → Bool) : List (Fin n) := (List.finRange n).filter f

/-- A number as an index of a table of `n` entries, when it is in range. -/
def toIx (n v : Nat) : Option (Fin n) := if h : v < n then some ⟨v, h⟩ else none

/-- One more, but never past `limit`: a saturating counter (00_scope.md section 5.2). -/
def satInc (limit v : Nat) : Nat := if v < limit then v + 1 else limit

/-! ### Timers (R169) -/

/-- Microseconds since the timer's start, modulo 2^48. -/
def Timer.elapsed (t : Timer) (now : Time) : Nat := (now - t.start).toNat

/-- The timer's period has run: it expires at the n-th tick after its start, n being its period, and is due from that tick until its expiry
is taken, which is before the next tick raises fabric time (assumption 4). -/
def Timer.due (t : Timer) (now : Time) : Bool := t.period ≤ t.elapsed now

/-- A running timer whose period has run; a stopped timer never expires. -/
def timerDue (t : Option Timer) (now : Time) : Bool :=
  match t with
  | some t => t.due now
  | none => false

/-- The time a timer has left. -/
def Timer.remaining (t : Timer) (now : Time) : Nat := t.period - t.elapsed now

/-! ### Updates of one entry of a table -/

namespace State

variable (s : State)

/-- Changes one link unit. -/
def modLink (p : PortIx) (f : LinkUnit → LinkUnit) : State := { s with links := mapAt s.links p f }

/-- Changes one port's ingress stage. -/
def modStage (p : PortIx) (f : IngressStage → IngressStage) : State := { s with stages := mapAt s.stages p f }

/-- Changes one requester entry of a port. -/
def modRequester (p : PortIx) (r : ReqId) (f : Requester → Requester) : State :=
  s.modStage p fun g => { g with requesters := mapAt g.requesters r f }

/-- Changes one window. -/
def modWindow (w : WindowIx) (f : Window → Window) : State := { s with windows := mapAt s.windows w f }

/-- Changes one OTT entry. -/
def modEntry (i : OttIx) (f : OttEntry → OttEntry) : State :=
  { s with ott := { s.ott with entries := mapAt s.ott.entries i f } }

/-- Changes one congestion monitor. -/
def modMonitor (p : PortIx) (f : Monitor → Monitor) : State := { s with monitors := mapAt s.monitors p f }

/-- Changes one entry of the contribution table. -/
def modContrib (t : TenantIx) (p : PortIx) (f : Contribution → Contribution) : State :=
  { s with contrib := mapAt s.contrib t fun row => mapAt row p f }

/-- Changes one pacer. -/
def modPacer (t : TenantIx) (f : Pacer → Pacer) : State := { s with pacers := mapAt s.pacers t f }

/-- Changes one tenant record. -/
def modTenant (t : TenantIx) (f : Tenant → Tenant) : State := { s with tenants := mapAt s.tenants t f }

/-- Changes one copy slot. -/
def modSlot (k : SlotIx) (f : CopySlot → CopySlot) : State :=
  { s with copy := { s.copy with slots := mapAt s.copy.slots k f } }

/-- Changes the counters of one link unit. -/
def modCounters (p : PortIx) (f : LinkCounters → LinkCounters) : State :=
  s.modLink p fun u => { u with counters := f u.counters }

/-- A timer started now. -/
def timer (period : Nat) : Timer := ⟨s.time, period⟩

end State

/-! ### Legs by side -/

/-- The other leg. -/
def otherSide : Side → Side
  | .primary => .mirror
  | .mirror => .primary

/-- The leg of a window on the given side. -/
def Window.leg (w : Window) : Side → WindowLeg
  | .primary => w.primary
  | .mirror => w.mirror

/-- Changes one leg of a window. -/
def Window.modLeg (w : Window) (side : Side) (f : WindowLeg → WindowLeg) : Window :=
  match side with
  | .primary => { w with primary := f w.primary }
  | .mirror => { w with mirror := f w.mirror }

/-- The leg of an OTT entry on the given side. -/
def OttEntry.leg (e : OttEntry) : Side → OttLeg
  | .primary => e.primary
  | .mirror => e.mirror

/-- Changes one leg of an OTT entry. -/
def OttEntry.modLeg (e : OttEntry) (side : Side) (f : OttLeg → OttLeg) : OttEntry :=
  match side with
  | .primary => { e with primary := f e.primary }
  | .mirror => { e with mirror := f e.mirror }

/-- The two sides, primary first. -/
def bothSides : List Side := [.primary, .mirror]

/-- The request is a read. -/
def isRead : ReqBody → Bool
  | .rd => true
  | .wr _ => false
  | .wrm _ _ => false

/-- The response kind that answers a request: RDATA for an RD, WACK for a WR or WRM (R52). -/
def respKind (b : ReqBody) : RespKind := if isRead b then .rdata else .wack

/-- The port takes requests in: its mode is SERVER or TRUNK (R24). -/
def takesRequests (m : PortMode) : Bool := m == .server || m == .trunk

/-- Legs of windows may use the port: its mode is MEMORY or TRUNK (Table 2-1). -/
def carriesLegs (m : PortMode) : Bool := m == .memory || m == .trunk

/-! ### Events while the part is out of reset -/

/-- An event taken by the part. While RESET is asserted the part takes none (R174). -/
def State.event (s : State) (f : State → State) : Host.Outcome State Fault Refusal :=
  .next (if s.resetAsserted then s else f s)

end Sys2Proof.Machine
end

