-- ==== Sys2Proof/Machine/Operands.lean ====
section
/-! DEFINITION. Encodings of enumerated values (R176 to R178), addresses and their translation (R43, R47, R55), the
forwarded tag (R177), and the four bytes of an index location (R131, R133). -/

namespace Sys2Proof.Machine

/-! ### Encodings of enumerated values -/

/-- A flag's byte: 0 for clear or DISABLED, 1 for set or ENABLED (R178). -/
def flagCode (b : Bool) : Nat := if b then 1 else 0

/-- A flag or enable argument: one of its two values, or none (R178). -/
def toFlag : Nat → Option Bool
  | 0 => some false
  | 1 => some true
  | _ => none

/-- Port modes are encoded OFF 0, LISTEN 1, SERVER 2, MEMORY 3, TRUNK 4 (R176). -/
def modeCode : PortMode → Nat
  | .off => 0
  | .listen => 1
  | .server => 2
  | .memory => 3
  | .trunk => 4

/-- The port mode of an encoding; a value above 4 is none of the five (R176). -/
def toMode : Nat → Option PortMode
  | 0 => some .off
  | 1 => some .listen
  | 2 => some .server
  | 3 => some .memory
  | 4 => some .trunk
  | _ => none

/-- Link states are encoded DOWN 0, TRAINING 1, ACTIVE 2, RETRAIN 3, FAILED 4 (R178). -/
def linkStateCode : LinkState → Nat
  | .down => 0
  | .training => 1
  | .active => 2
  | .retrain => 3
  | .failed => 4

/-- Health states, by position in Table 1-1. -/
def healthCode : Health → Nat
  | .good => 0
  | .weak => 1

/-- Statuses are encoded GOOD 0 to LOST 5 (R176). -/
def statusCode : Status → Nat
  | .good => 0
  | .poison => 1
  | .fault => 2
  | .noroute => 3
  | .denied => 4
  | .lost => 5

/-- The status of an encoding; a received status above 5 is taken as FAULT (R176). -/
def toStatus : Nat → Status
  | 0 => .good
  | 1 => .poison
  | 2 => .fault
  | 3 => .noroute
  | 4 => .denied
  | 5 => .lost
  | _ => .fault

/-- Management statuses are encoded OK 0 to PENDING 5 (Table 11-4). -/
def mgmtStatusCode : MgmtStatus → Nat
  | .ok => 0
  | .busy => 1
  | .badArg => 2
  | .conflict => 3
  | .state => 4
  | .pending => 5

/-- Accesses, by position in Table 3-1. -/
def accessCode : Access → Nat
  | .readWrite => 0
  | .readOnly => 1

/-- The access of an encoding. -/
def toAccess : Nat → Option Access
  | 0 => some .readWrite
  | 1 => some .readOnly
  | _ => none

/-- Leg states, by position in Table 3-2. -/
def legStateCode : LegState → Nat
  | .inService => 0
  | .lost => 1
  | .rebuilding => 2
  | .absent => 3

/-- Tenant states, by position in Table 6-1. -/
def tenantStateCode : TenantState → Nat
  | .unused => 0
  | .active => 1
  | .retiring => 2

/-- Rounding modes are encoded NEAREST 0, UP 1, DOWN 2, TRUNC 3 (Table 11-3). -/
def roundingCode : Rounding → Nat
  | .nearest => 0
  | .up => 1
  | .down => 2
  | .trunc => 3

/-- The rounding mode of an encoding. -/
def toRounding : Nat → Option Rounding
  | 0 => some .nearest
  | 1 => some .up
  | 2 => some .down
  | 3 => some .trunc
  | _ => none

/-- Port states of a monitor, by position in Table 5-1. -/
def portStateCode : PortState → Nat
  | .clear => 0
  | .congested => 1

/-- Sample states, by position in Table 5-1. -/
def sampleCode : SampleState → Nat
  | .idle => 0
  | .armed => 1
  | .outstanding => 2

/-- Pacer phases, by position in Table 5-2. -/
def phaseCode : Phase → Nat
  | .opened => 0
  | .closed => 1

/-- Closer states, by position in Table 7-1. -/
def closerCode : CloserState → Nat
  | .idle => 0
  | .walking => 1
  | .waiting => 2

/-- Walk kinds, by position in Table 7-1. -/
def walkKindCode : WalkKind → Nat
  | .full => 0
  | .retire => 1

/-- Ring writer states, by position in R130. -/
def writerCode : WriterState → Nat
  | .idle => 0
  | .writingRecord => 1
  | .writingIndex => 2
  | .stalled => 3

/-- The ring writer's two writes, record write first. -/
def ringWriteCode : RingWrite → Nat
  | .record => 0
  | .index => 1

/-- The two legs, primary first. -/
def sideCode : Side → Nat
  | .primary => 0
  | .mirror => 1

/-- Copy engine states, by position in Table 9-1. -/
def engineCode : EngineState → Nat
  | .idle => 0
  | .copying => 1
  | .draining => 2

/-- Failure reasons are encoded by position in Table 9-1, none 0 and ABORTED 4 (R178). -/
def reasonCode : FailReason → Nat
  | .none => 0
  | .copyReadFailed => 1
  | .rebuildLegLost => 2
  | .survivorLost => 3
  | .aborted => 4

/-- Copy slot states, by position in Table 9-2. -/
def slotStateCode : SlotState → Nat
  | .free => 0
  | .reading => 1
  | .writing => 2

/-- Job states are encoded IDLE 0, ACTIVE 1, DONE 2, FAILED 3 (R178). -/
def jobStateCode : JobState → Nat
  | .idle => 0
  | .active => 1
  | .done => 2
  | .failed => 3

/-! ### Addresses -/

/-- A window's first line, base × 32,768 (R43). -/
def Window.firstLine (w : Window) : Nat := w.base * Config.linesPerUnit

/-- The first line after a window's range (R43). -/
def Window.endLine (w : Window) : Nat := (w.base + w.length) * Config.linesPerUnit

/-- The window's range covers the line (R43). -/
def Window.covers (w : Window) (line : Nat) : Bool := w.firstLine ≤ line && line < w.endLine

/-- Two ranges share a unit when each one's base is below the other's base plus length (R47). -/
def rangesOverlap (base1 length1 base2 length2 : Nat) : Bool := base1 < base2 + length2 && base2 < base1 + length1

/-- The target line on a leg: target base × 32,768 plus the offset in the window (R55). -/
def Window.targetLine (w : Window) (side : Side) (line : Nat) : LineAddr :=
  BitVec.ofNat 46 ((w.leg side).base * Config.linesPerUnit + (line - w.firstLine))

/-- The line that holds a byte address: the address divided by 64. -/
def lineOf (addr : Nat) : Nat := addr / 64

/-- A byte address's offset within its line. -/
def lineOffset (addr : Nat) : Nat := addr % 64

/-! ### The forwarded tag (Table 11-2) -/

/-- The tag of a forwarded request: bit 15 is 0, bit 14 the leg bit, bits 13–10 the generation, bits 9–0 the index. -/
def forwardTag (i : OttIx) (gen : BitVec 4) (side : Side) : Tag :=
  BitVec.ofNat 16 (sideCode side * 2 ^ 14 + gen.toNat * 2 ^ 10 + i.1)

/-- The tag's remaining bit, bit 15, is 0 (R68). -/
def tagSpareClear (t : Tag) : Bool := t.toNat / 2 ^ 15 = 0

/-- The leg that a tag's leg bit names. -/
def tagSide (t : Tag) : Side := if t.toNat / 2 ^ 14 % 2 = 0 then .primary else .mirror

/-- The generation in a tag. -/
def tagGen (t : Tag) : BitVec 4 := BitVec.ofNat 4 (t.toNat / 2 ^ 10)

/-- The OTT index in a tag. -/
def tagIndex (t : Tag) : OttIx := ⟨t.toNat % 1024, Nat.mod_lt _ (by decide)⟩

/-! ### The four bytes of an index location (R131, R133, R177) -/

/-- The mask that selects the four data bytes from offset `j` (R177). -/
def locationMask (j : Nat) : ByteMask := BitVec.ofNat 64 (15 * 2 ^ j)

/-- A line whose four bytes from offset `j` carry a ring index, least significant byte first, the others 0 (R131). -/
def indexLine (j : Nat) (v : RingIx) : LineData :=
  Vector.ofFn fun k => if j ≤ k.1 && k.1 < j + 4 then BitVec.ofNat 8 (v.toNat / 256 ^ (k.1 - j)) else 0

/-- The ring index that the four bytes from offset `j` of a line hold, least significant byte first (R177). -/
def indexAt (j : Nat) (d : LineData) : RingIx :=
  BitVec.ofNat 32 (ofLe ((d.toList.drop j).take 4))

/-- The value a write carries at a location's four bytes, when it covers them: a WR always, a WRM when its byte mask
selects all four (R133). -/
def watchedValue (j : Nat) : ReqBody → Option RingIx
  | .rd => none
  | .wr d => some (indexAt j d)
  | .wrm d mask => if mask &&& locationMask j = locationMask j then some (indexAt j d) else none

end Sys2Proof.Machine
end

