-- ==== Sys2Proof/Machine/Flags.lean ====
section
/-! DEFINITION. The flags the part computes: the cause register and ALERT (Chapter 10), the health state of a link
(R19, R20), job ends (R167), and a window's condition (R44). -/

namespace Sys2Proof.Machine

/-! ### Causes (Table 10-4) -/

/-- The fourteen causes, in the order of their priority (Table 10-4). -/
inductive Cause where
  | linkFailed | windowUnavailable | legLost | ringStalled | walkLate | balanceSaturated | tenantCapped | linkWeak
  | portCongested | ringIndexBad | overrun | rebuildDone | jobDone | norouteSeen
deriving DecidableEq, Repr

/-- How a raised detail merges into a pending one (Table 10-4). -/
inductive MergeRule where
  | orBits | lowest | latest | unchanged
deriving DecidableEq, Repr

/-- The place of a cause in the register: its number in Table 10-4, less 1. -/
def causeIx : Cause → Fin 14
  | .linkFailed => 0
  | .windowUnavailable => 1
  | .legLost => 2
  | .ringStalled => 3
  | .walkLate => 4
  | .balanceSaturated => 5
  | .tenantCapped => 6
  | .linkWeak => 7
  | .portCongested => 8
  | .ringIndexBad => 9
  | .overrun => 10
  | .rebuildDone => 11
  | .jobDone => 12
  | .norouteSeen => 13

/-- A cause's merge rule (Table 10-4). -/
def mergeRule : Cause → MergeRule
  | .linkFailed => .orBits
  | .windowUnavailable => .lowest
  | .legLost => .lowest
  | .ringStalled => .unchanged
  | .walkLate => .latest
  | .balanceSaturated => .lowest
  | .tenantCapped => .lowest
  | .linkWeak => .orBits
  | .portCongested => .orBits
  | .ringIndexBad => .unchanged
  | .overrun => .orBits
  | .rebuildDone => .latest
  | .jobDone => .orBits
  | .norouteSeen => .lowest

/-- The merge of a raised detail into a held one (R170). -/
def mergeDetail (rule : MergeRule) (held raised : BitVec 16) : BitVec 16 :=
  match rule with
  | .orBits => held ||| raised
  | .lowest => if raised.toNat < held.toNat then raised else held
  | .latest => raised
  | .unchanged => held

/-- Raises a cause: pending with the raised detail, or merged into the held one (R170). The enable flag plays no part. -/
def State.raise (s : State) (c : Cause) (detail : BitVec 16) : State :=
  { s with causes := { s.causes with entries := mapAt s.causes.entries (causeIx c) fun e =>
      if e.pending then { e with detail := mergeDetail (mergeRule c) e.detail detail }
      else { e with pending := true, detail := detail } } }

/-- A detail that is a bitmask with one bit set (R178). -/
def bitDetail (n : Nat) : BitVec 16 := BitVec.ofNat 16 (2 ^ n)

/-- A detail that is a number (R178). -/
def numDetail (n : Nat) : BitVec 16 := BitVec.ofNat 16 n

/-- The ALERT output: asserted while some cause is both pending and enabled and the hold depth is 0, and never while
RESET is asserted (R173). -/
def State.alert (s : State) : Bool :=
  !s.resetAsserted && s.causes.holdDepth == 0 && s.causes.entries.toList.any fun e => e.pending && e.enabled

/-! ### Link health (R19, R20) -/

/-- The health-state test of one link unit: GOOD at or above the weak mark turns WEAK and raises LINK_WEAK, WEAK below
the recover mark turns GOOD (R20). -/
def State.testHealth (s : State) (p : PortIx) : State :=
  let u := s.links[p]
  match u.healthState with
  | .good =>
    if s.settings.weakMark ≤ u.health then
      (s.modLink p fun u => { u with healthState := .weak }).raise .linkWeak (bitDetail p.1)
    else s
  | .weak =>
    if u.health < s.settings.recoverMark then s.modLink p fun u => { u with healthState := .good } else s

/-- Raises a link's health score by `n`, to no more than 1023, and tests its health state (R19). -/
def State.addHealth (s : State) (p : PortIx) (n : Nat) : State :=
  (s.modLink p fun u => { u with health := min Config.healthMax (u.health + n) }).testHealth p

/-! ### Jobs (R167) -/

/-- The three job slots. -/
inductive JobSlot where
  | close | link | rebuild
deriving DecidableEq, Repr

/-- Job slots are encoded CLOSE 0, LINK 1, REBUILD 2 (R178). -/
def jobSlotCode : JobSlot → Nat
  | .close => 0
  | .link => 1
  | .rebuild => 2

/-- A job slot. -/
def Jobs.slot (j : Jobs) : JobSlot → Job
  | .close => j.close
  | .link => j.link
  | .rebuild => j.rebuild

/-- Writes a job slot. -/
def State.setJob (s : State) (slot : JobSlot) (job : Job) : State :=
  match slot with
  | .close => { s with jobs := { s.jobs with close := job } }
  | .link => { s with jobs := { s.jobs with link := job } }
  | .rebuild => { s with jobs := { s.jobs with rebuild := job } }

/-- A job starts: its slot becomes ACTIVE and its result is cleared (R167). -/
def State.startJob (s : State) (slot : JobSlot) : State := s.setJob slot ⟨.active, 0⟩

/-- A job ends DONE or FAILED with its result, and JOB_DONE is raised with the slot's bit (R167). -/
def State.endJob (s : State) (slot : JobSlot) (how : JobState) (result : Nat) : State :=
  (s.setJob slot ⟨how, result⟩).raise .jobDone (bitDetail (jobSlotCode slot))

/-! ### A window's condition (R44) -/

/-- The conditions of a window, in the order R44 gives them. -/
inductive Condition where
  | disabled | active | degraded | unavailable
deriving DecidableEq, Repr

/-- The condition that leg states give, as if the window were enabled (R44, R138). -/
def Window.legCondition (w : Window) : Condition :=
  let primaryIn := w.primary.state == .inService
  let mirrorIn := w.mirror.state == .inService
  if primaryIn && (mirrorIn || w.mirror.state == .absent) then .active
  else if primaryIn || mirrorIn then .degraded
  else .unavailable

/-- A window's condition (R44). -/
def Window.condition (w : Window) : Condition := if w.enabled then w.legCondition else .disabled

/-- Conditions, by position in R44. -/
def conditionCode : Condition → Nat
  | .disabled => 0
  | .active => 1
  | .degraded => 2
  | .unavailable => 3

end Sys2Proof.Machine
end

