-- ==== Sys2Proof/Machine/Link.lean ====
section
/-! DEFINITION. The link layer (Chapter 1): the retry buffer, replays, acknowledgement, the transmit arbiter, health
decay, and the meanings of the commands that concern one link unit alone. -/

namespace Sys2Proof.Machine

/-! ### The retry buffer (section 1.1) -/

/-- O: the sequence number of the oldest buffered message, S less the number held modulo 256; S when empty. -/
def LinkUnit.oldest (u : LinkUnit) : Seq := u.sendSeq - BitVec.ofNat 8 u.retry.length

/-- d = (s − O) modulo 256 for a sequence number s that the partner names (R5, R6, R16). -/
def LinkUnit.ahead (u : LinkUnit) (s : Seq) : Nat := (s - u.oldest).toNat

/-- Removes the `d` oldest buffered messages. A replay whose position was among them goes on from the new oldest
message, and ends if the buffer is now empty (R5). -/
def LinkUnit.dropAcked (u : LinkUnit) (d : Nat) : LinkUnit :=
  let rest := u.retry.drop d
  { u with
    retry := rest
    replayPos := match u.replayPos with
      | none => none
      | some q =>
        if rest.isEmpty then none
        else if u.ahead q < d then some (u.oldest + BitVec.ofNat 8 d)
        else some q }

/-- The link state is one in which messages offered to the unit join its transmit queue (R3). -/
def takesOffers : LinkState → Bool
  | .training => true
  | .active => true
  | .retrain => true
  | .down => false
  | .failed => false

namespace State

/-- Offers a payload message to a link unit: it joins the tail of the transmit queue in TRAINING, ACTIVE and RETRAIN,
a request taking one send credit of its requester id, and is dropped in DOWN and FAILED (R3). -/
def offer (s : State) (p : PortIx) (m : Payload) : State :=
  s.modLink p fun u =>
    if takesOffers u.state then
      { u with
        txQueue := u.txQueue ++ [m]
        sendCredit := match m with
          | .request r => mapAt u.sendCredit r.reqId fun c => c - 1
          | .response _ => u.sendCredit }
    else u

/-! ### Acknowledgement progress and replays (R5 to R9) -/

/-- An acknowledgement taken in ACTIVE removes the `d` oldest messages: Q becomes 0, and the replay timer restarts at the
full retry timeout, or stops when the buffer is now empty (R5, R8). -/
def ackProgress (s : State) (p : PortIx) (d : Nat) : State :=
  s.modLink p fun u =>
    let v := u.dropAcked d
    { v with
      replayCount := 0
      replayTimer := if v.retry.isEmpty then none else some (s.timer s.settings.retryTimeout) }

/-- A replay begins at a sequence number inside the buffer, and the replay timer restarts (R7, R8). -/
def startReplay (s : State) (p : PortIx) (pos : Seq) : State :=
  s.modLink p fun u =>
    { u with replayPos := some pos, replayTimer := some (s.timer s.settings.retryTimeout) }

/-- Entry to RETRAIN from ACTIVE (R16): one retrain is counted, the replay is abandoned, the replay timer stops, the
discard episode closes, a TRN with the fresh flag clear is owed, and the train timer starts attempt 1. The retry
buffer, S and E are kept. -/
def enterRetrain (s : State) (p : PortIx) : State :=
  (s.modLink p fun u =>
    { u with
      state := .retrain
      replayPos := none
      replayTimer := none
      episode := false
      trnOwed := some false
      trainTimer := some (s.timer s.settings.trainTimeout)
      attempt := some 1 }).modCounters p fun c => { c with retrains := satInc Config.counterMax c.retrains }

/-- A replay that counts (R9): below 3, Q rises by 1, the replay starts and is counted; at 3 it is not started, and the
link enters RETRAIN. -/
def countedReplay (s : State) (p : PortIx) (pos : Seq) : State :=
  if s.links[p].replayCount < Config.replayLimit then
    (((s.modLink p fun u => { u with replayCount := u.replayCount + 1 }).modCounters p fun c =>
      { c with replays := satInc Config.counterMax c.replays }).startReplay p pos)
  else s.enterRetrain p

/-- The removal and replay that an LNAK(s) or a TRN of a retraining partner asks for, once s lies inside the buffer's
span: the messages before s are removed as acknowledged, and if messages remain a counted replay starts at s
(R6, R18). -/
def replayFrom (s : State) (p : PortIx) (pos : Seq) : State :=
  let d := s.links[p].ahead pos
  let s1 := if d = 0 then s else s.ackProgress p d
  if s1.links[p].retry.isEmpty then s1 else s1.countedReplay p pos

/-- Success of a retrain whose partner expects `pos` (R16): the messages before it are removed, Q and K become 0, the link
is ACTIVE, the train timer stops, and what remains is replayed without counting. A TRN still owed is no longer owed
(assumption 5). -/
def retrainSuccess (s : State) (p : PortIx) (pos : Seq) : State :=
  let s1 := s.modLink p fun u =>
    { u.dropAcked (u.ahead pos) with
      state := .active
      replayCount := 0
      ackOwed := 0
      trainTimer := none
      attempt := none
      trnOwed := none }
  if s1.links[p].retry.isEmpty then s1 else s1.startReplay p pos

/-! ### Receive side (R10 to R13) -/

/-- Acceptance of a payload message: E advances, K rises to at most 16, and an open discard episode closes (R10). -/
def acceptPayload (s : State) (p : PortIx) : State :=
  s.modLink p fun u =>
    { u with expSeq := u.expSeq + 1, ackOwed := min Config.ackBatch (u.ackOwed + 1), episode := false }

/-- A discard in ACTIVE while no episode is open opens one and owes one LNAK (R12). When the LNAK of an earlier episode is still
unsent, one LNAK is sent for the two (assumption 6). -/
def openEpisode (s : State) (p : PortIx) : State :=
  s.modLink p fun u => if u.episode then u else { u with episode := true, lnakOwed := true }

/-- The handling of every receive-side discard in ACTIVE: the health score rises by 16 and the discard takes part in
a discard episode (Table 1-3). -/
def discardHandling (s : State) (p : PortIx) : State := (s.addHealth p Config.discardHealth).openEpisode p

/-- A message that failed the CRC or is malformed (R2): counted and handled in ACTIVE; in every other state it is
discarded uncounted (R10, R17). -/
def damaged (s : State) (p : PortIx) : State :=
  if s.links[p].state = .active then
    (s.modCounters p fun c => { c with crcDiscards := satInc Config.counterMax c.crcDiscards }).discardHandling p
  else s

/-- A payload message out of sequence in ACTIVE (Table 1-3). -/
def outOfSequence (s : State) (p : PortIx) : State :=
  (s.modCounters p fun c => { c with seqDiscards := satInc Config.counterMax c.seqDiscards }).discardHandling p

/-- A credit overrun (R11): counted, OVERRUN raised with the port's bit, and handled as a discard. -/
def overrun (s : State) (p : PortIx) : State :=
  ((s.modCounters p fun c => { c with overruns := satInc Config.counterMax c.overruns }).raise .overrun
    (bitDetail p.1)).discardHandling p

/-! ### Transmit arbiter (R4) -/

end State

/-- What the transmit arbiter sends next. -/
inductive SendChoice where
  | trnr (seq : Seq)
  | trn (fresh : Bool)
  | lnak
  | lack
  | cred (req : ReqId)
  | replay (seq : Seq)
  | payload (m : Payload)
  | nothing
deriving DecidableEq, Repr

/-- The requester of the lowest id with credit owed, on a SERVER or TRUNK port (R32, R24). -/
def State.credOwed (s : State) (p : PortIx) : Option ReqId :=
  if takesRequests s.links[p].mode then
    (List.finRange 16).find? fun r => decide (1 ≤ (s.stages[p].requesters[r]).owed)
  else none

/-- The arbiter's choice in ACTIVE below class 1: LNAK; LACK once K has reached 16; CRED; the replay in progress; the head
of the transmit queue while the retry buffer holds fewer than 48 messages; LACK (R4). -/
def State.chooseActive (s : State) (p : PortIx) : SendChoice :=
  let u := s.links[p]
  if u.lnakOwed then .lnak
  else if Config.ackBatch ≤ u.ackOwed then .lack
  else match s.credOwed p with
    | some r => .cred r
    | none => match u.replayPos with
      | some q => .replay q
      | none => match u.txQueue with
        | m :: _ => if u.retry.length < Config.retryBufferSize then .payload m
                    else if 1 ≤ u.ackOwed then .lack else .nothing
        | [] => if 1 ≤ u.ackOwed then .lack else .nothing

/-- The arbiter's choice: the first class ready in the order of R4. In TRAINING and RETRAIN only class 1 is sent; in DOWN
and FAILED nothing is. -/
def State.chooseSend (s : State) (p : PortIx) : SendChoice :=
  let u := s.links[p]
  if takesOffers u.state then
    match u.trnrOwed with
    | some v => .trnr v
    | none => match u.trnOwed with
      | some fresh => .trn fresh
      | none => if u.state = .active then s.chooseActive p else .nothing
  else .nothing

/-- Puts a message on a link's output. -/
def LinkUnit.emit (u : LinkUnit) (m : Message) : LinkUnit := { u with output := some m }

/-- Sends what the arbiter chose, with the effects of the sending: an LNAK or LACK sets K to 0 (R13); a CRED moves the
requester's whole owed count to its receive credit (R32, R14); a resent message keeps its sequence number and stays
buffered (R7); a new payload message takes sequence number S and a copy joins the retry buffer, the replay timer
starting if it was empty (R3). -/
def State.send (s : State) (p : PortIx) : SendChoice → State
  | .trnr v => s.modLink p fun u => { u.emit (.trnr v) with trnrOwed := none }
  | .trn fresh => s.modLink p fun u => { u.emit (.trn u.mode u.expSeq fresh) with trnOwed := none }
  | .lnak => s.modLink p fun u => { u.emit (.lnak u.expSeq) with lnakOwed := false, ackOwed := 0 }
  | .lack => s.modLink p fun u => { u.emit (.lack (u.expSeq - 1)) with ackOwed := 0 }
  | .cred r =>
    let n := (s.stages[p].requesters[r]).owed
    (s.modRequester p r fun e => { e with owed := 0 }).modLink p fun u =>
      { u.emit (.cred r n) with recvCredit := mapAt u.recvCredit r fun c => c + n }
  | .replay q => s.modLink p fun u =>
      match u.retry[u.ahead q]? with
      | some m => { u.emit (.payload q m) with replayPos := if q + 1 = u.sendSeq then none else some (q + 1) }
      | none => { u with replayPos := none, output := none }
  | .payload m => s.modLink p fun u =>
      { u.emit (.payload u.sendSeq m) with
        sendSeq := u.sendSeq + 1
        txQueue := u.txQueue.tail
        retry := u.retry ++ [m]
        replayTimer := if u.retry.isEmpty then some (s.timer s.settings.retryTimeout) else u.replayTimer }
  | .nothing => s.modLink p fun u => { u with output := none }

/-! ### Meanings -/

/-- LACK_RECEIVED (R5): taken in ACTIVE and RETRAIN; d below n removes d + 1 messages, in ACTIVE as acknowledgement
progress and in RETRAIN without more; a stale one is ignored. -/
def execLackReceived (p : PortIx) (seq : Seq) (s : State) : Host.Outcome State Fault Refusal :=
  s.event fun s =>
    let u := s.links[p]
    let d := u.ahead seq
    if d < u.retry.length then
      match u.state with
      | .active => s.ackProgress p (d + 1)
      | .retrain => s.modLink p fun u => u.dropAcked (d + 1)
      | .down | .training | .failed => s
    else s

/-- LNAK_RECEIVED (R6): in ACTIVE, unless s lies outside the buffer's span. -/
def execLnakReceived (p : PortIx) (seq : Seq) (s : State) : Host.Outcome State Fault Refusal :=
  s.event fun s =>
    let u := s.links[p]
    if u.state = .active ∧ u.ahead seq ≤ u.retry.length then s.replayFrom p seq else s

/-- CRED_RECEIVED (R14): adds to the send credit in TRAINING, ACTIVE and RETRAIN, to at most 1023. A count of 0 or above
64 makes the message malformed (R2). -/
def execCredReceived (p : PortIx) (r : ReqId) (count : Nat) (s : State) : Host.Outcome State Fault Refusal :=
  s.event fun s =>
    if 1 ≤ count ∧ count ≤ 64 then
      s.modLink p fun u =>
        if takesOffers u.state then
          { u with sendCredit := mapAt u.sendCredit r fun c => min Config.sendCreditMax (c + count) }
        else u
    else s.damaged p

/-- CRC_DISCARD (R2): a received message failed the CRC check or is malformed. -/
def execCrcDiscard (p : PortIx) (s : State) : Host.Outcome State Fault Refusal := s.event fun s => s.damaged p

/-- TRANSMIT_ARBITER (R4): the link's output is free and the arbiter sends the first ready class. -/
def execTransmitArbiter (p : PortIx) (s : State) : Host.Outcome State Fault Refusal :=
  s.event fun s => s.send p (s.chooseSend p)

/-- REPLAY_TIMER_EXPIRY (R8): the expiry is counted, health rises by 64, and a counted replay from the oldest message
starts, or RETRAIN is entered (R9). -/
def execReplayTimerExpiry (p : PortIx) (s : State) : Host.Outcome State Fault Refusal :=
  s.event fun s =>
    if timerDue s.links[p].replayTimer s.time then
      let s1 := (s.modCounters p fun c =>
        { c with replayExpiries := satInc Config.counterMax c.replayExpiries }).addHealth p Config.expiryHealth
      s1.countedReplay p s1.links[p].oldest
    else s

/-- DECAY_TIMER_EXPIRY (R19): in every link state the score falls by 1 unless it is 0, and the health state is tested. -/
def execDecayTimerExpiry (p : PortIx) (s : State) : Host.Outcome State Fault Refusal :=
  s.event fun s =>
    if s.links[p].decayTimer.due s.time then
      (s.modLink p fun u =>
        { u with health := u.health - 1, decayTimer := s.timer Config.decayPeriod }).testHealth p
    else s

end Sys2Proof.Machine
end

