-- ==== Sys2Proof/Machine/Pacer.lean ====
section
/-! DEFINITION. The pacers and relief profiles (section 5.5): effective levels and phases. -/

namespace Sys2Proof.Machine

/-- A profile's entry for a level; level 0 has none (R95). -/
def Profile.entry (p : Profile) : Nat → Widths
  | 1 => p.level1
  | 2 => p.level2
  | 3 => p.level3
  | _ => .zero

/-- Writes a profile's entry for a level of 1, 2 or 3 (R95). -/
def Profile.setEntry (p : Profile) (level : Nat) (w : Widths) : Profile :=
  match level with
  | 1 => { p with level1 := w }
  | 2 => { p with level2 := w }
  | 3 => { p with level3 := w }
  | _ => p

/-- An open width of 0 is used as 1 µs (R95). -/
def Widths.openUsed (w : Widths) : Nat := max 1 w.openUs

namespace State

/-- A tenant's congestion level: the largest of its sixteen levels (R94). -/
def congestionLevel (s : State) (t : TenantIx) : Nat := (s.contrib[t]).toList.foldl (fun m c => max m c.level) 0

/-- A tenant's effective pacer level: the largest of its congestion level, its cap level while CAPPED, and its floor
level (R94). -/
def effectiveLevel (s : State) (t : TenantIx) : Nat :=
  let r := s.tenants[t]
  max (s.congestionLevel t) (max (if r.capped then r.cap else 0) r.floor)

/-- The profile entry for a tenant at a level (R95). -/
def widthsAt (s : State) (t : TenantIx) (level : Nat) : Widths := (s.profiles[(s.tenants[t]).profile]).entry level

/-- The record's highest level rises to the pacer's level (R94). The record of an UNUSED tenant keeps every field at 0
(R104, assumption 12). -/
def raiseHighest (s : State) (t : TenantIx) : State :=
  s.modTenant t fun r =>
    if r.state = .unused then r else { r with highest := max r.highest (s.pacers[t]).level }

/-- An OPEN phase begins, its length fixed from the entry in force (R96). -/
def beginOpen (s : State) (t : TenantIx) : State :=
  (s.modPacer t fun p =>
    { p with phase := .opened, timer := some (s.timer (s.widthsAt t p.level).openUsed) }).raiseHighest t

/-- A CLOSED phase begins, or, when its width would be 0, the pacer is OPEN with its timer stopped (R95, R96). -/
def beginClosed (s : State) (t : TenantIx) : State :=
  let w := s.widthsAt t (s.pacers[t]).level
  if 0 < w.closedUs then
    (s.modPacer t fun p => { p with phase := .closed, timer := some (s.timer w.closedUs) }).raiseHighest t
  else s.modPacer t fun p => { p with phase := .opened, timer := none }

/-- A pacer at a level of 1 or more with its timer stopped, whose entry in force closes, begins an OPEN phase at once
(R98, R99); any other pacer goes on as it is. -/
def resumePacing (s : State) (t : TenantIx) : State :=
  let p := s.pacers[t]
  if 1 ≤ p.level ∧ p.timer = none ∧ 0 < (s.widthsAt t p.level).closedUs then s.beginOpen t else s

/-- The effective level changes to `level`: a rise restarts the pacer in CLOSED (R97); a fall to 0 opens it and stops its
timer, and a fall to 1 or more lets the running phase run out (R98). The highest level follows either change (R94). -/
def changeLevel (s : State) (t : TenantIx) (level : Nat) : State :=
  let old := (s.pacers[t]).level
  let s1 := (s.modPacer t fun p => { p with level := level }).raiseHighest t
  if old < level then s1.beginClosed t
  else if level = 0 then s1.modPacer t fun p => { p with phase := .opened, timer := none }
  else s1.resumePacing t

/-- An input of a tenant's effective level changed: the pacer recomputes it, and is unchanged when it is the same
(R94). -/
def repace (s : State) (t : TenantIx) : State :=
  let level := s.effectiveLevel t
  if level = (s.pacers[t]).level then s else s.changeLevel t level

/-- A tenant's settings changed, its profile among them: a change of level is taken under R97 or R98, and otherwise a
change of the entry in force under R99. -/
def retune (s : State) (t : TenantIx) : State :=
  if s.effectiveLevel t = (s.pacers[t]).level then s.resumePacing t else s.changeLevel t (s.effectiveLevel t)

end State

/-- PHASE_END (R96): the phase timer of a tenant's pacer expires. A CLOSED phase is followed by an OPEN one; an OPEN phase
by a CLOSED one, unless the closed width of the entry in force is 0. -/
def execPhaseEnd (t : TenantIx) (s : State) : Host.Outcome State Fault Refusal :=
  s.event fun s =>
    if timerDue (s.pacers[t]).timer s.time then
      match (s.pacers[t]).phase with
      | .opened => s.beginClosed t
      | .closed => s.beginOpen t
    else s

end Sys2Proof.Machine
end

