-- ==== Sys2Proof/Machine/Meter.lean ====
section
/-! DEFINITION. Tenant metering, the ceiling test and the arithmetic of a close (Chapter 6). -/

namespace Sys2Proof.Machine

/-- The whole BU in an amount of 2^-24 BU, rounded toward minus infinity (R111). -/
def wholeUnits (a : Int) : Int := a / Config.unitScale

/-- The increment of one transaction, in 2^-24 BU: rate times factor (R108). -/
def increment (card : RateCard) (read congested : Bool) : Int :=
  (((if read then card.rr else card.wr) * (if congested then 256 + card.surcharge else 256) : Nat) : Int)

/-- A sum kept within `lo` to `hi`: the nearer limit when it lies outside. -/
def clampInt (lo hi v : Int) : Int := if hi < v then hi else if v < lo then lo else v

/-- The count of one line in the meter Table 6-3 names; a meter at 2^40 − 1 stays and MSAT is set (R110). -/
def Tenant.countLine (r : Tenant) (read congested : Bool) : Tenant :=
  match read, congested with
  | true, false => if r.rl < Config.meterMax then { r with rl := r.rl + 1 } else { r with msat := true }
  | true, true => if r.rlc < Config.meterMax then { r with rlc := r.rlc + 1 } else { r with msat := true }
  | false, false => if r.wl < Config.meterMax then { r with wl := r.wl + 1 } else { r with msat := true }
  | false, true => if r.wlc < Config.meterMax then { r with wlc := r.wlc + 1 } else { r with msat := true }

/-- The accumulated charge has reached the tenant's ceiling (R111). -/
def Tenant.atCeiling (r : Tenant) : Bool :=
  match r.ceiling with
  | some c => (c : Int) ≤ wholeUnits r.acc
  | none => false

namespace State

/-- An event cut one of a tenant's money quantities short: OS is set and BALANCE_SATURATED raised (R113). -/
def markOverflow (s : State) (t : TenantIx) : State :=
  (s.modTenant t fun r => { r with os := true }).raise .balanceSaturated (numDetail t.1)

/-- CAPPED and capped in epoch are set and TENANT_CAPPED is raised (R111). -/
def capTenant (s : State) (t : TenantIx) : State :=
  (s.modTenant t fun r => { r with capped := true, cappedInEpoch := true }).raise .tenantCapped (numDetail t.1)

/-- The ceiling test after an addition: only while CAPPED is clear (R111). Setting CAPPED passes to the pacer (R94). -/
def ceilingAfterMetering (s : State) (t : TenantIx) : State :=
  if !(s.tenants[t]).capped && (s.tenants[t]).atCeiling then (s.capTenant t).repace t else s

/-- The meter block is told of one finished transaction: the increment joins the accumulator (R108, R109), the line is
counted (R110), and the ceiling is tested (R111). -/
def meter (s : State) (t : TenantIx) (read congested : Bool) : State :=
  let r := s.tenants[t]
  let sum := r.acc + increment (s.cards[r.card]) read congested
  let acc := clampInt (-Config.accumulatorMax) Config.accumulatorMax sum
  let s1 := s.modTenant t fun r => { r with acc := acc }
  let s2 := if acc = sum then s1 else s1.markOverflow t
  (s2.modTenant t fun r => r.countLine read congested).ceilingAfterMetering t

/-- The ceiling test of a SET_TENANT: CAPPED is set when the ceiling is present and reached, and cleared in every other
case; a change of CAPPED passes to the pacer (R111, R105). -/
def ceilingAfterSetting (s : State) (t : TenantIx) : State :=
  if (s.tenants[t]).atCeiling then
    if (s.tenants[t]).capped then s else (s.capTenant t).repace t
  else (s.modTenant t fun r => { r with capped := false }).repace t

end State

/-! ### The charge at close (R114, R115) -/

/-- The total T = A + J × 2^24 (R114). -/
def closeTotal (r : Tenant) : Int := r.acc + r.adj * Config.unitScale

/-- The quotient T / 2^24 rounded to a whole number by a rounding mode (Table 6-4): NEAREST rounds a half away from zero,
UP and DOWN round toward the larger and the smaller whole number, TRUNC toward zero. -/
def roundUnits (mode : Rounding) (total : Int) : Int :=
  match mode with
  | .nearest =>
    if 0 ≤ total then (total + Config.unitScale / 2) / Config.unitScale
    else -((-total + Config.unitScale / 2) / Config.unitScale)
  | .up => -((-total) / Config.unitScale)
  | .down => total / Config.unitScale
  | .trunc => if 0 ≤ total then total / Config.unitScale else -((-total) / Config.unitScale)

/-- What a close computes from a tenant record and its rate card. -/
structure ChargeResult where
  charge : Int
  clamped : Bool
  acc : Int
  carried : Bool
  balance : Int
  balanceCut : Bool
deriving DecidableEq, Repr

/-- The charge, new accumulator and balance of a close (R114 to R116). A clamp discards the residue; a FINAL close does
not carry it. -/
def chargeAtClose (r : Tenant) (card : RateCard) (final : Bool) : ChargeResult :=
  let total := closeTotal r
  let q := roundUnits card.rounding total
  let charge := clampInt Config.moneyMin Config.moneyMax q
  let clamped := charge != q
  let carried := card.carry && !clamped && !final
  let balance := clampInt Config.moneyMin Config.moneyMax (r.balance + charge)
  { charge := charge
    clamped := clamped
    acc := if carried then total - q * Config.unitScale else 0
    carried := carried
    balance := balance
    balanceCut := balance != r.balance + charge }

/-- The billing record of a close, from the record before it and what the close computed (Table 7-2, R113, R116). -/
def buildRecord (t : TenantIx) (r : Tenant) (card : RateCard) (c : ChargeResult) (final : Bool) (now : Time) :
    BillingRecord where
  tenant := t
  ov := c.clamped
  os := r.os || c.clamped || c.balanceCut
  cappedInEpoch := r.cappedInEpoch
  msat := r.msat
  final := final
  carry := c.carried
  card := r.card
  rounding := card.rounding
  profile := r.profile
  highest := r.highest
  epoch := r.epoch
  rl := r.rl
  wl := r.wl
  rlc := r.rlc
  wlc := r.wlc
  charge := c.charge
  balance := c.balance
  nr := r.nr
  dn := r.dn
  closeTime := now

/-- The tenant record after a close: J, the meters, NR, DN, MSAT and both CAPPED flags start again, the highest level at
`level`, and the epoch number rises by 1 (R116). -/
def Tenant.afterClose (r : Tenant) (c : ChargeResult) (level : Nat) : Tenant :=
  { r with
    adj := 0
    balance := c.balance
    acc := c.acc
    os := r.os || c.clamped || c.balanceCut
    rl := 0
    wl := 0
    rlc := 0
    wlc := 0
    nr := 0
    dn := 0
    msat := false
    capped := false
    cappedInEpoch := false
    highest := level
    epoch := r.epoch + 1 }

/-- One close step at a tenant: its record is built and appended to the hold list, and its next epoch opens, or, for a
FINAL close, the tenant returns to UNUSED (R114 to R116, R126, R128). A FINAL close clears CAPPED and returns the cap level, the
floor level and the profile to 0 (R116, R104): that the pacer takes these as one change, recomputed once, and not as one after
another, is the model's choice (assumption 27). -/
def State.closeTenant (s : State) (t : TenantIx) (final : Bool) : State :=
  let r := s.tenants[t]
  let card := s.cards[r.card]
  let c := chargeAtClose r card final
  let s1 := { s with holdList := s.holdList ++ [buildRecord t r card c final s.time] }
  let s2 := if c.clamped || c.balanceCut then s1.markOverflow t else s1
  if final then (s2.modTenant t fun _ => .unused).retune t
  else (s2.modTenant t fun _ => r.afterClose c (max (s.congestionLevel t) r.floor)).repace t

end Sys2Proof.Machine
end

