-- ==== Sys2Proof/Machine/Ring.lean ====
section
/-! DEFINITION. The ring writer, the billing record's layout and the consumer watch's test (Chapter 7, R177). -/

namespace Sys2Proof.Machine

/-! ### The billing record's layout (Table 11-3) -/

/-- A record's flags byte: bit 0 OV, bit 1 OS, bit 2 CAPPED during epoch, bit 3 MSAT, bit 4 FINAL, bit 5 CARRY. -/
def BillingRecord.flags (r : BillingRecord) : Nat :=
  flagCode r.ov + 2 * flagCode r.os + 4 * flagCode r.cappedInEpoch + 8 * flagCode r.msat + 16 * flagCode r.final
    + 32 * flagCode r.carry

/-- A record's 64 bytes, each field least significant byte first (Table 11-3). -/
def BillingRecord.bytes (r : BillingRecord) : List Byte :=
  leBytes 1 r.tenant.1 ++ leBytes 1 r.flags ++ leBytes 1 r.card.1 ++ leBytes 1 (roundingCode r.rounding)
    ++ leBytes 1 r.profile.1 ++ leBytes 1 r.highest ++ leBytes 2 r.nr ++ leBytes 4 r.epoch.toNat ++ leBytes 2 r.dn
    ++ leBytes 2 0 ++ leBytes 5 r.rl ++ leBytes 5 r.wl ++ leBytes 5 r.rlc ++ leBytes 5 r.wlc
    ++ leBytes 6 (twos 48 r.charge) ++ leBytes 6 (twos 48 r.balance) ++ leBytes 6 r.closeTime.toNat ++ leBytes 10 0

/-- A record as the line the ring writer writes. -/
def BillingRecord.toLine (r : BillingRecord) : LineData := Vector.ofFn fun k => r.bytes.getD k.1 0

/-! ### The ring (section 7.4) -/

/-- The room in the ring: N − (P − C) modulo 2^32 (R130). -/
def Ring.room (r : Ring) : RingIx := BitVec.ofNat 32 r.slots - (r.prod - r.cons)

/-- The line of the slot the next record goes to: (ring base + (P modulo N) × 64) ÷ 64 (R130). -/
def Ring.recordLine (r : Ring) : LineAddr :=
  BitVec.ofNat 46 (lineOf (r.base.toNat + r.prod.toNat % r.slots * 64))

namespace State

/-- A request becomes pending in the fabric requester, behind those issued before it (R40). -/
def issueFabric (s : State) (q : FabricReq) : State := { s with fabric := s.fabric ++ [q] }

/-- The record write of the oldest held record is issued, and the writer is WRITING_RECORD (R130). -/
def issueRecord (s : State) : State :=
  match s.holdList with
  | [] => s
  | r :: _ =>
    ({ s with ring := { s.ring with writer := .writingRecord, stalled := none, retryTimer := none } }).issueFabric
      ⟨.ringRecord, s.ring.recordLine, .wr r.toLine⟩

/-- The index write of P as it stands is issued, and the writer is WRITING_INDEX (R131). -/
def issueIndex (s : State) : State :=
  let loc := s.ring.producerLoc.toNat
  let j := lineOffset loc
  ({ s with ring := { s.ring with writer := .writingIndex, stalled := none, retryTimer := none } }).issueFabric
    ⟨.ringIndex, BitVec.ofNat 46 (lineOf loc), .wrm (indexLine j s.ring.prod) (locationMask j)⟩

/-- A ring write finished with a status other than GOOD: the writer is STALLED, remembers which write stalled, raises
RING_STALLED and starts its retry timer (R132). -/
def stallRing (s : State) (which : RingWrite) : State :=
  ({ s with ring := { s.ring with
      writer := .stalled, stalled := some which, retryTimer := some (s.timer Config.ringRetryPeriod) } }).raise
    .ringStalled 0

/-- The oldest record leaves the hold list (R128). A closer that is WAITING stays so until its close step, as section 7.7 shows at
its steps 4 and 8. -/
def dropHeld (s : State) : State := { s with holdList := s.holdList.tail }

/-- A record write reports: GOOD removes the record from the head of the hold list, raises P and issues the index write
(R130); anything else stalls the writer (R132). -/
def recordReport (s : State) (status : Status) : State :=
  if status = .good then
    let s1 := s.dropHeld
    ({ s1 with ring := { s1.ring with prod := s1.ring.prod + 1 } }).issueIndex
  else s.stallRing .record

/-- An index write reports: GOOD makes the writer IDLE (R131); anything else stalls it (R132). -/
def indexReport (s : State) (status : Status) : State :=
  if status = .good then { s with ring := { s.ring with writer := .idle } } else s.stallRing .index

/-- The writer may take its next record: IDLE, a ring configured, a record held, and room in the ring (R130). -/
def recordReady (s : State) : Bool :=
  s.ring.configured && s.ring.writer == .idle && !s.holdList.isEmpty && s.ring.room != 0

/-- A value taken by the consumer watch is accepted into C when P − V is at most N and V − C is at most P − C, modulo
2^32, and otherwise rejected with RING_INDEX_BAD (R134). -/
def takeConsumerValue (s : State) (v : RingIx) : State :=
  let r := s.ring
  if (r.prod - v).toNat ≤ r.slots ∧ (v - r.cons).toNat ≤ (r.prod - r.cons).toNat then
    { s with ring := { r with cons := v } }
  else s.raise .ringIndexBad 0

end State

/-- RECORD_WRITE_ISSUE (R130): the writer takes the oldest record when it may. -/
def execRecordWriteIssue (s : State) : Host.Outcome State Fault Refusal :=
  s.event fun s => if s.recordReady then s.issueRecord else s

/-- RING_RETRY_TIMER_EXPIRY (R132): the stalled writer issues the same write again. -/
def execRingRetryTimerExpiry (s : State) : Host.Outcome State Fault Refusal :=
  s.event fun s =>
    if timerDue s.ring.retryTimer s.time then
      match s.ring.stalled with
      | some .record => s.issueRecord
      | some .index => s.issueIndex
      | none => s
    else s

end Sys2Proof.Machine
end

