-- ==== Sys2Proof/Machine/Closer.lean ====
section
/-! DEFINITION. The epoch closer (sections 7.1 and 7.2): the epoch timer, walks, and the two close steps. -/

namespace Sys2Proof.Machine

/-- The epoch period in µs: one second is 1,000,000 µs (R121). -/
def epochMicros (seconds : Nat) : Nat := seconds * 1000000

/-- The first ACTIVE tenant at or above a position: UNUSED tenants are passed by (R124). -/
def State.nextActive (s : State) (from_ : Nat) : Option TenantIx :=
  (List.finRange 64).find? fun t => decide (from_ ≤ t.1) && (s.tenants[t]).state == .active

/-- The closer's state as it comes to a tenant: WALKING with a free place in the hold list, WAITING when it holds 8 records (R124). A
WAITING closer stays so until the close step that a free place allows (assumption 15). -/
def State.walkState (s : State) : CloserState := if s.holdList.length < Config.holdListSize then .walking else .waiting

namespace State

/-- The closer becomes IDLE with its position at 0 (R124). The records-built count keeps its value until the next walk
(assumption 13). -/
def closerIdle (s : State) : State := { s with closer := { s.closer with state := .idle, position := 0, walkJob := false } }

/-- A FULL walk starts at tenant 0, as a job's walk or without one (R124). -/
def startFullWalk (s : State) (job : Bool) : State :=
  match s.nextActive 0 with
  | some t => { s with closer := { s.closer with
      state := s.walkState, kind := .full, position := t, walkJob := job, built := 0 } }
  | none => if job then s.closerIdle.endJob .close .done 0 else s.closerIdle

/-- A RETIRE walk starts for one tenant, with the walk job set (R126). -/
def startRetireWalk (s : State) (t : TenantIx) : State :=
  { s with closer := { s.closer with
      state := s.walkState, kind := .retire, position := t, walkJob := true, built := 0 } }

/-- A walk ends: the job that started it becomes DONE with `result`, and a pended FULL walk starts without a job, or the
closer becomes IDLE (R123, R124). -/
def endWalk (s : State) (result : Nat) : State :=
  let s1 := if s.closer.walkJob then s.endJob .close .done result else s
  if s1.closer.pendingFlag then
    ({ s1 with closer := { s1.closer with pendingFlag := false } }).startFullWalk false
  else s1.closerIdle

/-- The closer may take its close step at the walk position (R124, R126). -/
def closeReady (s : State) (kind : WalkKind) (st : TenantState) : Bool :=
  s.closer.state != .idle && s.closer.kind == kind && decide (s.holdList.length < Config.holdListSize)
    && (s.tenants[s.closer.position]).state == st

/-- One more record is built by the walk in progress. -/
def countBuilt (s : State) : State := { s with closer := { s.closer with built := s.closer.built + 1 } }

/-- A FULL walk moves on from its position, passing by tenants that are not ACTIVE; past tenant 63 it ends (R124). -/
def moveWalk (s : State) : State :=
  match s.nextActive (s.closer.position.1 + 1) with
  | some t => { s with closer := { s.closer with state := s.walkState, position := t } }
  | none => s.endWalk s.closer.built

end State

/-- EPOCH_TIMER_EXPIRY (R121, R122): the timer restarts with the period in force; an IDLE closer starts a FULL walk, and
during a walk the expiry sets the pending flag, or is counted late with WALK_LATE raised. -/
def execEpochTimerExpiry (s : State) : Host.Outcome State Fault Refusal :=
  s.event fun s =>
    if timerDue s.closer.timer s.time then
      let s1 := { s with closer := { s.closer with
        timer := if s.closer.period = 0 then none else some (s.timer (epochMicros s.closer.period)) } }
      if s.closer.state = .idle then s1.startFullWalk false
      else if s.closer.pendingFlag then
        let late := satInc Config.count16Max s.closer.lateCount
        ({ s1 with closer := { s1.closer with lateCount := late } }).raise .walkLate (numDetail late)
      else { s1 with closer := { s1.closer with pendingFlag := true } }
    else s

/-- CLOSE (R124): with room in the hold list, a FULL walk closes the ACTIVE tenant at its position and moves on. -/
def execClose (s : State) : Host.Outcome State Fault Refusal :=
  s.event fun s =>
    if s.closeReady .full .active then ((s.closeTenant s.closer.position false).countBuilt).moveWalk else s

/-- FINAL_CLOSE (R126): with room in the hold list, a RETIRE walk closes its tenant with the FINAL flag, the tenant
returns to UNUSED, and the walk ends with the tenant as the job's result. -/
def execFinalClose (s : State) : Host.Outcome State Fault Refusal :=
  s.event fun s =>
    if s.closeReady .retire .retiring then
      ((s.closeTenant s.closer.position true).countBuilt).endWalk s.closer.position.1
    else s

end Sys2Proof.Machine
end

