-- ==== Sys2Proof/Machine/Rebuild.lean ====
section
/-! DEFINITION. The copy engine (Chapter 9): filling slots, redos, reports, completion and failure of a rebuild. -/

namespace Sys2Proof.Machine

/-- The lowest line held by a slot, or the frontier when every slot is FREE (R152). -/
def CopyEngine.lowestHeld (c : CopyEngine) : Nat :=
  c.slots.toList.foldl (fun m k => if k.state = .free then m else min m k.line) c.frontier

/-- The lowest-numbered FREE slot (R150). -/
def CopyEngine.freeSlot (c : CopyEngine) : Option SlotIx :=
  (List.finRange 4).find? fun k => (c.slots[k]).state == .free

/-- Every slot is FREE. -/
def CopyEngine.allFree (c : CopyEngine) : Bool := c.slots.toList.all fun k => k.state == .free

/-- The slot that holds a line (Table 9-3). -/
def CopyEngine.slotHolding (c : CopyEngine) (line : Nat) : Option SlotIx :=
  (List.finRange 4).find? fun k => (c.slots[k]).state != .free && (c.slots[k]).line == line

namespace State

/-- The copy read of a slot's line becomes pending (R150). -/
def issueCopyRead (s : State) (k : SlotIx) (line : Nat) : State :=
  s.issueFabric ⟨.copySlot k, BitVec.ofNat 46 line, .rd⟩

/-- The pending request of a slot is withdrawn from the fabric requester. -/
def withdraw (s : State) (k : SlotIx) : State :=
  { s with fabric := s.fabric.filter fun q => q.job != .copySlot k }

/-- One filling: while COPYING with the frontier below the end and below the cursor + 4, the lowest-numbered FREE slot takes
the line at the frontier, the frontier rises by 1, and its copy read becomes pending (R150). -/
def fillOne (s : State) : State :=
  let c := s.copy
  if c.state = .copying ∧ c.frontier < c.endLine ∧ c.frontier < c.cursor + Config.copySpan then
    match c.freeSlot with
    | some k =>
      ((({ s with copy := { c with frontier := c.frontier + 1 } }).modSlot k fun _ =>
        { CopySlot.freed with state := .reading, line := c.frontier }).issueCopyRead k c.frontier)
    | none => s
  else s

/-- Slots are filled as long as the condition of R150 holds: at most four times. -/
def fillSlots (s : State) : State := s.fillOne.fillOne.fillOne.fillOne

/-- A redo (R155): the slot's data is discarded and its redo flag cleared, the redo count and total rise, the slot is
READING with a new copy read pending, and the fourth redo pins it. -/
def redo (s : State) (k : SlotIx) : State :=
  let line := (s.copy.slots[k]).line
  let s1 := s.modSlot k fun slot =>
    { slot with
      state := .reading
      sent := false
      redo := false
      data := none
      redoCount := satInc Config.redoLimit slot.redoCount
      pinned := slot.pinned || decide (Config.redoLimit ≤ slot.redoCount + 1) }
  (({ s1 with copy := { s1.copy with redoTotal := satInc Config.counterMax s1.copy.redoTotal } }).issueCopyRead k line)

/-- The drain's end (R159): when every slot is FREE, a DRAINING engine becomes IDLE with no window, and the REBUILD job is
FAILED with the failure reason. -/
def drainEnd (s : State) : State :=
  if s.copy.state = .draining ∧ s.copy.allFree then
    ({ s with copy := { s.copy with state := .idle, window := none } }).endJob .rebuild .failed (reasonCode s.copy.reason)
  else s

/-- A leg's state in the window table changes. -/
def setLeg (s : State) (w : WindowIx) (side : Side) (st : LegState) : State :=
  s.modWindow w fun win => win.modLeg side fun l => { l with state := st }

/-- Slots whose request is still pending in the fabric requester become FREE, and the copy engine's pending requests are
withdrawn (R157). -/
def withdrawPending (s : State) : State :=
  { s with
    fabric := s.fabric.filter fun q => match q.job with | .copySlot _ => false | _ => true
    copy := { s.copy with slots := s.copy.slots.map fun k => if k.sent then k else .freed } }

/-- The rebuild fails (R157): the reason is recorded, the engine is DRAINING, the rebuilding leg becomes LOST if it is not,
and pending requests are withdrawn. Only while COPYING. -/
def failRebuild (s : State) (reason : FailReason) : State :=
  match s.copy.state, s.copy.window with
  | .copying, some w =>
    (({ s with copy := { s.copy with state := .draining, reason := reason } }).setLeg w s.copy.rebuilding
      .lost).withdrawPending.drainEnd
  | _, _ => s

/-- The rebuild completes when the cursor reaches the window's end (R153): the rebuilding leg is IN_SERVICE, the engine is
IDLE with no window, the REBUILD job is DONE with the redo total, and REBUILD_DONE and JOB_DONE are raised. -/
def completeRebuild (s : State) : State :=
  match s.copy.state, s.copy.window with
  | .copying, some w =>
    if s.copy.cursor = s.copy.endLine then
      ((({ s with copy := { s.copy with state := .idle, window := none } }).setLeg w s.copy.rebuilding .inService).raise
        .rebuildDone (numDetail w.1)).endJob .rebuild .done s.copy.redoTotal
    else s
  | _, _ => s

/-- A slot becomes FREE with its line, flags, count and data cleared (R152). -/
def freeSlot (s : State) (k : SlotIx) : State := s.modSlot k fun _ => .freed

/-- A GOOD copy write frees its slot; the cursor moves to the lowest line still held, slots are filled, and the completion
test follows (R152, R150, R153). -/
def copyWriteDone (s : State) (k : SlotIx) : State :=
  let s1 := s.freeSlot k
  (({ s1 with copy := { s1.copy with cursor := s1.copy.lowestHeld } }).fillSlots).completeRebuild

/-- A GOOD copy read with the redo flag clear: the slot keeps the data and becomes WRITING, its copy write pending
(R151). -/
def copyReadDone (s : State) (k : SlotIx) (data : LineData) : State :=
  (s.modSlot k fun slot => { slot with state := .writing, sent := false, data := some data }).issueFabric
    ⟨.copySlot k, BitVec.ofNat 46 (s.copy.slots[k]).line, .wr data⟩

/-- A copy slot's request reports (R151, R152, R159). While DRAINING every report frees its slot. -/
def copyReport (s : State) (k : SlotIx) (status : Status) (data : Option LineData) : State :=
  match s.copy.state with
  | .idle => s
  | .draining => (s.freeSlot k).drainEnd
  | .copying =>
    match (s.copy.slots[k]).state with
    | .free => s
    | .reading =>
      match status, data with
      | .good, some d => if (s.copy.slots[k]).redo then s.redo k else s.copyReadDone k d
      | _, _ => (s.freeSlot k).failRebuild .copyReadFailed
    | .writing =>
      if status = .good then s.copyWriteDone k else (s.freeSlot k).failRebuild .rebuildLegLost

/-- A fabric request reports to its job (R81): a ring write to the ring writer, a copy slot's request to its slot. -/
def report (s : State) (job : FabricJob) (status : Status) (data : Option LineData) : State :=
  match job with
  | .ringRecord => s.recordReport status
  | .ringIndex => s.indexReport status
  | .copySlot k => s.copyReport k status data

/-- A write of the window under rebuild is dispatched to a line (Table 9-3): it sets the redo flag of a slot whose copy read
is out, withdraws a pending copy write and takes a redo, and otherwise does nothing to the engine (R154). R154 names no engine
state: that a write dispatched while the engine is DRAINING leaves its slots alone is the model's reading (assumption 14). -/
def engineSeesWrite (s : State) (w : WindowIx) (line : Nat) : State :=
  if s.copy.state = .copying ∧ s.copy.window = some w then
    match s.copy.slotHolding line with
    | none => s
    | some k =>
      let slot := s.copy.slots[k]
      match slot.state, slot.sent with
      | .reading, true => s.modSlot k fun slot => { slot with redo := true }
      | .writing, false => (s.withdraw k).redo k
      | _, _ => s
  else s

/-- A slot's request has been dispatched by the fabric requester (R151, R152). -/
def markSent (s : State) (job : FabricJob) : State :=
  match job with
  | .copySlot k => s.modSlot k fun slot => { slot with sent := true }
  | .ringRecord => s
  | .ringIndex => s

end State

end Sys2Proof.Machine
end

