-- ==== Sys2Proof/Machine/Ott.lean ====
section
/-! DEFINITION. The outstanding transaction table: allocation, freeing, finishing and delivering a transaction
(sections 4.1, 4.4, 4.5, 4.7, 4.8). -/

namespace Sys2Proof.Machine

/-- The origin is of the server and trunk pool. -/
def Origin.isIngress : Origin → Bool
  | .ingress _ _ _ => true
  | .fabric _ => false

/-- The number of legs that are part of an entry's transaction. -/
def OttEntry.legCount (e : OttEntry) : Nat := (bothSides.filter fun x => (e.leg x).progress != .none).length

/-- Some leg of the entry is SENT. -/
def OttEntry.anySent (e : OttEntry) : Bool := bothSides.any fun x => (e.leg x).progress == .sent

/-- The congested indication of a finished transaction: the flag of a DONE_GOOD leg (R80). A read has one such leg. -/
def OttEntry.congestedGood (e : OttEntry) : Bool :=
  bothSides.any fun x => (e.leg x).progress == .doneGood && (e.leg x).congested

/-- The status that passes through a read which finishes without data: an answered failure status of NOROUTE, DENIED or
LOST, which only a leg on a TRUNK port takes (R69, R74); in every other case POISON. -/
def readFailStatus : Option Status → Status
  | some .noroute => .noroute
  | some .denied => .denied
  | some .lost => .lost
  | _ => .poison

/-- The status a read finishes with when it has no data, `last` being the leg whose end finished it (R74). The last leg to
fail is the reissued leg when it was answered, and otherwise the first leg. -/
def OttEntry.readFailure (e : OttEntry) (last : Side) : Status :=
  let l := e.leg last
  if e.reissued && l.failStatus.isNone then readFailStatus (e.leg (otherSide last)).failStatus
  else readFailStatus l.failStatus

/-- The final status of a write with no leg left SENT (Table 4-4); `trunk` says whether a port is in TRUNK mode. -/
def OttEntry.writeStatus (e : OttEntry) (trunk : PortIx → Bool) : Status :=
  if bothSides.any fun x => (e.leg x).progress == .doneGood then .good
  else match bothSides.find? fun x => (e.leg x).progress == .doneFailed with
    | none => .lost
    | some side =>
      let l := e.leg side
      if e.legCount = 1 ∧ trunk l.port then
        match l.failStatus with
        | some .poison => .poison
        | some .noroute => .noroute
        | some .denied => .denied
        | some .lost => .lost
        | _ => .lost
      else .lost

namespace State

/-- The counts of R64 and the window's outstanding count (R43) rise or fall with an entry of the given origin. -/
def countEntry (s : State) (origin : Origin) (w : WindowIx) (f : Nat → Nat) : State :=
  let s1 := s.modWindow w fun win => { win with outstanding := f win.outstanding }
  match origin with
  | .ingress p _ _ =>
    ({ s1 with ott := { s1.ott with serverCount := f s1.ott.serverCount } }).modStage p fun g =>
      { g with ottCount := f g.ottCount }
  | .fabric _ => { s1 with ott := { s1.ott with fabricCount := f s1.ott.fabricCount } }

/-- An entry becomes FREE: it joins the tail of its pool's free list, and its counts fall by 1 (R79, R81, R83). Its
generation is kept (R66). -/
def freeEntry (s : State) (i : OttIx) : State :=
  let e := s.ott.entries[i]
  let s1 := (s.modEntry i fun e => .freed e.gen).countEntry e.origin e.window fun n => n - 1
  if i.1 < Config.serverPool then { s1 with ott := { s1.ott with serverFree := s1.ott.serverFree ++ [i] } }
  else { s1 with ott := { s1.ott with fabricFree := s1.ott.fabricFree ++ [i] } }

/-- The response that answers a request (R52, R79): of its kind, with its requester id and tag. -/
def respond (s : State) (p : PortIx) (read : Bool) (r : ReqId) (tag : Tag) (status : Status) (data : Option LineData) :
    State :=
  s.offer p (.response ⟨if read then .rdata else .wack, r, tag, status, data⟩)

/-- A transaction finishes with its final status (R79 to R83). A LIVE entry of server or trunk origin answers on its ingress
link and is metered when GOOD and its port is in SERVER mode; a LIVE fabric entry reports to its job and is metered to
its tenant when GOOD; an ORPHAN entry does neither. The entry then becomes FREE. -/
def finish (s : State) (i : OttIx) (status : Status) : State :=
  let e := s.ott.entries[i]
  let read := isRead e.body
  let data := if read && status == .good then e.readData else none
  match e.state, e.origin with
  | .live, .ingress p r tag =>
    let s1 := s.respond p read r tag status data
    let s2 := if status = .good ∧ s.links[p].mode = .server then s1.meter e.tenant read e.congestedGood else s1
    s2.freeEntry i
  | .live, .fabric job =>
    let s1 := s.report job status data
    let s2 := if status = .good then s1.meter e.tenant read e.congestedGood else s1
    s2.freeEntry i
  | .orphan, _ => s.freeEntry i
  | .free, _ => s

/-- A read finishes without data, `last` being the leg whose end finished it (R74). -/
def finishReadFailed (s : State) (i : OttIx) (last : Side) : State :=
  s.finish i ((s.ott.entries[i]).readFailure last)

/-- A write with no leg left SENT finishes (R76). -/
def finishWrite (s : State) (i : OttIx) : State :=
  s.finish i ((s.ott.entries[i]).writeStatus fun p => s.links[p].mode == .trunk)

/-- Changes one leg of an entry. -/
def modOttLeg (s : State) (i : OttIx) (side : Side) (f : OttLeg → OttLeg) : State := s.modEntry i fun e => e.modLeg side f

/-- A leg in WAITING returns to NONE and its read finishes (R73). -/
def cancelWaiting (s : State) (i : OttIx) (side : Side) : State :=
  (s.modOttLeg i side fun _ => .none).finishReadFailed i side

/-- Cancels the WAITING legs of one entry for which `f` holds. -/
def cancelWaitingOf (s : State) (i : OttIx) (f : State → Side → Bool) : State :=
  bothSides.foldl (fun s side =>
    if ((s.ott.entries[i]).leg side).progress = .waiting ∧ f s side then s.cancelWaiting i side else s) s

/-- Every LIVE entry of server or trunk origin whose ingress port is `p` becomes ORPHAN; a leg in WAITING returns to NONE and
its read finishes (R82), in ascending order of OTT index when there are several (assumption 20). -/
def orphanPort (s : State) (p : PortIx) : State :=
  (indicesWhere 1024 fun i =>
    let e := s.ott.entries[i]
    e.state == .live && (match e.origin with | .ingress q _ _ => q == p | .fabric _ => false)).foldl
    (fun s i => (s.modEntry i fun e => { e with state := .orphan }).cancelWaitingOf i fun _ _ => true) s

/-- Every SENT leg on port `p` of a LIVE or ORPHAN entry has its stale flag set (R67). -/
def markStale (s : State) (p : PortIx) : State :=
  { s with ott := { s.ott with entries := s.ott.entries.map fun e =>
      if e.state = .free then e
      else
        let mark := fun (l : OttLeg) => if l.progress = .sent ∧ l.port = p then { l with stale := true } else l
        { e with primary := mark e.primary, mirror := mark e.mirror } } }

/-- WAITING legs whose window leg is no longer IN_SERVICE return to NONE, and their reads finish (R73, R138). A port-wide loss comes
here once, after its whole window step, and several reads finish in ascending order of OTT index (assumption 20). -/
def cancelLostWaiting (s : State) : State :=
  (indicesWhere 1024 fun i => bothSides.any fun x => ((s.ott.entries[i]).leg x).progress == .waiting).foldl
    (fun s i => s.cancelWaitingOf i fun s side =>
      let w := (s.ott.entries[i]).window
      ((s.windows[w]).leg side).state != .inService) s

end State

end Sys2Proof.Machine
end

