-- ==== Sys2Proof/Machine/LegLoss.lean ====
section
/-! DEFINITION. Leg loss (section 8.1): the window step, port-wide and single-leg losses, and the sweep's queue (R141). -/

namespace Sys2Proof.Machine

/-- The leg state is one that a loss changes (R138, R139). -/
def LegState.losable : LegState → Bool
  | .inService => true
  | .rebuilding => true
  | .lost => false
  | .absent => false

namespace State

/-- The window is the one the copy engine is rebuilding. -/
def underRebuild (s : State) (w : WindowIx) : Bool := s.copy.state == .copying && s.copy.window == some w

/-- The window step at one window: each leg that `hit` names and that is IN_SERVICE or REBUILDING becomes LOST; the loss of
the survivor of a window under rebuild makes its REBUILDING leg LOST too. LEG_LOST or WINDOW_UNAVAILABLE is raised by the
condition that the leg states then give, and the copy engine is told (R138, R139, R157). Nothing is raised when no leg
changed. -/
def loseLegs (s : State) (w : WindowIx) (hit : Side → Bool) : State :=
  let win := s.windows[w]
  let lose := fun side => hit side && (win.leg side).state.losable
  if bothSides.any lose then
    let rebuilding := s.underRebuild w
    let survivorLost := rebuilding && lose (otherSide s.copy.rebuilding)
    let rebuildLost := rebuilding && lose s.copy.rebuilding
    let s1 := bothSides.foldl (fun s side =>
      if lose side || (survivorLost && side == s.copy.rebuilding) then s.setLeg w side .lost else s) s
    let s2 := match (s1.windows[w]).legCondition with
      | .unavailable => s1.raise .windowUnavailable (numDetail w.1)
      | _ => s1.raise .legLost (numDetail w.1)
    if survivorLost then s2.failRebuild .survivorLost
    else if rebuildLost then s2.failRebuild .rebuildLegLost
    else s2
  else s

/-- A single-leg loss of cause WRITE (R139). -/
def singleLegLoss (s : State) (w : WindowIx) (side : Side) : State := (s.loseLegs w fun x => x == side).cancelLostWaiting

/-- The windows a port-wide loss takes: every ENABLED window, every DISABLED one with transactions outstanding, and, at a
change of mode, every other configured one (R138). -/
def takenByLoss (s : State) (modeChange : Bool) (w : WindowIx) : Bool :=
  let win := s.windows[w]
  win.enabled || decide (0 < win.outstanding) || (modeChange && win.configured)

/-- The window step of a port-wide loss, in ascending order of window number (R138). -/
def windowStep (s : State) (p : PortIx) (modeChange : Bool) : State :=
  ((indicesWhere 256 (s.takenByLoss modeChange)).foldl
    (fun s w => s.loseLegs w fun side => ((s.windows[w]).leg side).port == p) s).cancelLostWaiting

/-- An IDLE sweep takes the port at the head of its queue and starts at entry 0 (R141). -/
def startSweep (s : State) : State :=
  match s.sweep.port, s.sweep.queue with
  | none, p :: rest => { s with sweep := ⟨some p, 0, rest⟩ }
  | _, _ => s

/-- A port-wide loss queues a sweep of its port, unless the port already stands in the queue (R141). -/
def queueSweep (s : State) (p : PortIx) : State :=
  (if s.sweep.queue.contains p then s else { s with sweep := { s.sweep with queue := s.sweep.queue ++ [p] } }).startSweep

/-- A port-wide leg loss at port `p` (R137): LINK_FAILED is raised, the window step is taken, and a sweep is queued. -/
def portLoss (s : State) (p : PortIx) (modeChange : Bool) : State :=
  ((s.raise .linkFailed (bitDetail p.1)).windowStep p modeChange).queueSweep p

end State

end Sys2Proof.Machine
end

