-- ==== Sys2Proof/Machine/Settle.lean ====
section
/-! DEFINITION. Settling legs (sections 4.2 to 4.6): matching of responses, completion timeouts, reissues, and the
failover sweep's visits (section 8.2). -/

namespace Sys2Proof.Machine

/-- The ways a leg settles (R70), a response with its taken status and data. -/
inductive SettleWay where
  | response (status : Status) (data : Option LineData)
  | timeout
  | abandoned
deriving DecidableEq, Repr

/-- The progress a leg settles to (R71, R72, R75). -/
def SettleWay.progress : SettleWay → LegProgress
  | .response .good _ => .doneGood
  | .response _ _ => .doneFailed
  | .timeout => .doneFailed
  | .abandoned => .abandoned

/-- The failure status a leg keeps: the status it was answered with, none when it timed out or was abandoned (R72). -/
def SettleWay.failStatus : SettleWay → Option Status
  | .response .good _ => none
  | .response st _ => some st
  | .timeout => none
  | .abandoned => none

/-- A response's status as the OTT takes it, by the mode of the port it arrived on (Table 4-3). -/
def takenStatus (mode : PortMode) (st : Status) : Status :=
  match mode, st with
  | .memory, .noroute => .fault
  | .memory, .denied => .fault
  | .memory, .lost => .fault
  | .trunk, .fault => .lost
  | _, st => st

namespace State

/-- The monitor of port `p` is told that its sample settled (R87): a response or a timeout gives a latency of at most 65,535 µs
and sets the fresh flag, the sweep gives none; the sample state becomes IDLE in each case. -/
def sampleSettled (s : State) (p : PortIx) (way : SettleWay) : State :=
  s.modMonitor p fun m =>
    match way with
    | .abandoned => { m with sample := .idle }
    | _ => { m with
        sample := .idle
        lastSample := some (min Config.count16Max (s.time - m.sampleStart).toNat)
        fresh := true }

/-- The consumer watch at the settling of a leg: a watched leg leaves the list, and one that settles DONE_GOOD gives its
value (R133, R134). -/
def settleWatch (s : State) (i : OttIx) (side : Side) (good : Bool) : State :=
  let gen := (s.ott.entries[i]).gen
  let hit := fun (w : WatchEntry) => w.entry == i && w.gen == gen && w.side == side
  let values := (s.ring.watch.filter hit).map (·.value)
  let s1 := { s with ring := { s.ring with watch := s.ring.watch.filter fun w => !hit w } }
  if good then values.foldl (fun s v => s.takeConsumerValue v) s1 else s1

/-- What every settling does to the blocks around the OTT (R70): the in-flight counts fall by 1, a sample mark is reported
and cleared, the consumer watch is served, and a completion timeout adds 128 to the health score of the leg's link. -/
def settleCounts (s : State) (i : OttIx) (side : Side) (way : SettleWay) : State :=
  let e := s.ott.entries[i]
  let l := e.leg side
  let s1 := (s.modContrib e.tenant l.port fun c => { c with inFlight := c.inFlight - 1 }).modMonitor l.port fun m =>
    { m with inFlight := m.inFlight - 1 }
  let s2 := if l.sample then (s1.sampleSettled l.port way).modOttLeg i side fun l => { l with sample := false } else s1
  let s3 := s2.settleWatch i side (way.progress == .doneGood)
  if way = .timeout then s3.addHealth l.port Config.timeoutHealth else s3

/-- The requester id a leg carries: 0 on a MEMORY port, the leg's trunk requester id on a TRUNK port (R58). -/
def carriedId (s : State) (l : WindowLeg) : ReqId := if s.links[l.port].mode = .trunk then l.trunkId else 0

/-- The read is reissued at the end of its SENT leg `side`: the entry is LIVE, it was not reissued before, and the window's
other leg is IN_SERVICE (R72). -/
def mayReissue (s : State) (i : OttIx) (side : Side) : Bool :=
  let e := s.ott.entries[i]
  e.state == .live && !e.reissued && ((s.windows[e.window]).leg (otherSide side)).state == .inService

/-- The reissue's decision: the reissued flag is set and the other leg becomes WAITING, its completion timeout running from
now (R72, R73). -/
def decideReissue (s : State) (i : OttIx) (side : Side) : State :=
  let l := (s.windows[(s.ott.entries[i]).window]).leg (otherSide side)
  s.modEntry i fun e =>
    ({ e with reissued := true }).modLeg (otherSide side) fun _ =>
      { OttLeg.none with
        progress := .waiting
        port := l.port
        reqId := s.carriedId l
        sentTime := s.time
        timeout := s.settings.completionTimeout }

/-- The SENT leg of a read settled other than GOOD: a reissue or the end of the read (R72, R74). -/
def readLegFailed (s : State) (i : OttIx) (side : Side) : State :=
  if s.mayReissue i side then s.decideReissue i side else s.finishReadFailed i side

/-- A write leg settled: a DONE_FAILED leg is reported as a single-leg loss first, and a write with no leg left SENT finishes
(R75, R76). -/
def writeLegSettled (s : State) (i : OttIx) (side : Side) (way : SettleWay) : State :=
  let s1 := if way.progress = .doneFailed then s.singleLegLoss (s.ott.entries[i]).window side else s
  if (s1.ott.entries[i]).anySent then s1 else s1.finishWrite i

/-- A SENT leg settles (R70 to R76). The watch takes a watched value, against P as it stands, before the transaction finishes and
reports to its job, which may raise P in the same event (R134, assumption 20). -/
def settle (s : State) (i : OttIx) (side : Side) (way : SettleWay) : State :=
  let s1 := (s.settleCounts i side way).modOttLeg i side fun l =>
    { l with progress := way.progress, failStatus := way.failStatus }
  if isRead (s.ott.entries[i]).body then
    match way with
    | .response .good data => (s1.modEntry i fun e => { e with readData := data }).finish i .good
    | _ => s1.readLegFailed i side
  else s1.writeLegSettled i side way

/-! ### Responses (R68) -/

/-- A response accepted on port `p` matches the leg its tag names (R68). -/
def matches_ (s : State) (p : PortIx) (r : Response) : Bool :=
  let e := s.ott.entries[tagIndex r.tag]
  let l := e.leg (tagSide r.tag)
  tagSpareClear r.tag && e.state != .free && e.gen == tagGen r.tag && l.progress == .sent && !l.stale && l.port == p
    && l.reqId == r.reqId && respKind e.body == r.kind

/-- A late response: only the port's counter rises (R68). -/
def lateResponse (s : State) (p : PortIx) : State :=
  s.modCounters p fun c => { c with lateResponses := satInc Config.counterMax c.lateResponses }

/-- A response accepted by a link unit reaches the OTT (R68): a matched one settles its leg with its taken status (R69),
every other one is late. -/
def takeResponse (s : State) (p : PortIx) (r : Response) : State :=
  if s.matches_ p r then
    s.settle (tagIndex r.tag) (tagSide r.tag) (.response (takenStatus s.links[p].mode r.status) r.data)
  else s.lateResponse p

/-- A well-formed response received on a link: in ACTIVE with sequence number E it is accepted and handed to the OTT, out of
sequence it is discarded (R10); in every other state it is discarded uncounted. -/
def receiveResponse (s : State) (p : PortIx) (seq : Seq) (r : Response) : State :=
  if s.links[p].state = .active then
    if seq = s.links[p].expSeq then (s.acceptPayload p).takeResponse p r else s.outOfSequence p
  else s

end State

/-- RDATA_RECEIVED (R10, R68): data with a status other than GOOD, or GOOD without data, is malformed (R2). -/
def execRdataReceived (p : PortIx) (seq : Seq) (req : ReqId) (tag : Tag) (status : Status) (data : Option LineData)
    (s : State) : Host.Outcome State Fault Refusal :=
  s.event fun s =>
    if data.isSome = (status == .good) then s.receiveResponse p seq ⟨.rdata, req, tag, status, data⟩ else s.damaged p

/-- WACK_RECEIVED (R10, R68). -/
def execWackReceived (p : PortIx) (seq : Seq) (req : ReqId) (tag : Tag) (status : Status) (s : State) :
    Host.Outcome State Fault Refusal :=
  s.event fun s => s.receiveResponse p seq ⟨.wack, req, tag, status, none⟩

/-- A leg's completion timeout has run (R77). -/
def OttLeg.timedOut (l : OttLeg) (now : Time) : Bool := l.timeout ≤ (now - l.sentTime).toNat

/-- COMPLETION_TIMEOUT (R77): a SENT leg at its deadline settles by timeout; a WAITING one becomes DONE_FAILED and its read
finishes, with no count falling and no health score rising (R73). -/
def execCompletionTimeout (i : OttIx) (side : Side) (s : State) : Host.Outcome State Fault Refusal :=
  s.event fun s =>
    let l := (s.ott.entries[i]).leg side
    if l.timedOut s.time then
      match l.progress with
      | .sent => s.settle i side .timeout
      | .waiting => (s.modOttLeg i side fun l => { l with progress := .doneFailed }).finishReadFailed i side
      | .none | .doneGood | .doneFailed | .abandoned => s
    else s

/-! ### Sending a leg (R58, R73, R85, R93) -/

/-- The request a leg carries to its link unit: the target line, the requester id the leg carries and the forwarded tag
(R55, R58, R66). -/
def State.legRequest (s : State) (i : OttIx) (side : Side) : Request :=
  let e := s.ott.entries[i]
  { reqId := (e.leg side).reqId
    tag := forwardTag i e.gen side
    line := (s.windows[e.window]).targetLine side e.line.toNat
    body := e.body }

/-- A leg that has become SENT is offered to its link unit and counted in flight (R58, R73, R85). -/
def State.sendLeg (s : State) (i : OttIx) (side : Side) : State :=
  let e := s.ott.entries[i]
  let p := (e.leg side).port
  ((s.offer p (.request (s.legRequest i side))).modContrib e.tenant p fun c => { c with inFlight := c.inFlight + 1 }).modMonitor
    p fun m => { m with inFlight := m.inFlight + 1 }

/-- The congested flag of a leg sent now: the tenant's level at the port is at least 1 (R93). -/
def State.flagCongested (s : State) (t : TenantIx) (p : PortIx) : Bool := decide (1 ≤ ((s.contrib[t])[p]).level)

/-- The side of an entry's WAITING leg. -/
def OttEntry.waitingSide (e : OttEntry) : Option Side := bothSides.find? fun x => (e.leg x).progress == .waiting

/-- REISSUE_SENT (R73): the WAITING leg of a read takes its send credit as soon as the credit is there and is sent; its deadline
stays the one fixed at the decision. -/
def execReissueSent (i : OttIx) (s : State) : Host.Outcome State Fault Refusal :=
  s.event fun s =>
    let e := s.ott.entries[i]
    match e.waitingSide with
    | none => s
    | some side =>
      let l := (s.windows[e.window]).leg side
      let r := s.carriedId l
      if 1 ≤ (s.links[l.port].sendCredit)[r] then
        (s.modOttLeg i side fun o =>
          { o with
            progress := .sent, port := l.port, reqId := r, congested := s.flagCongested e.tenant l.port }).sendLeg i side
      else s

/-! ### The failover sweep (R142) -/

/-- A leg that a sweep of port `p` settles: SENT on `p`, and stale or on a link that is FAILED (R142). -/
def State.sweepable (s : State) (p : PortIx) (l : OttLeg) : Bool :=
  l.progress == .sent && l.port == p && (l.stale || s.links[p].state == .failed)

/-- A sweep's visit to one entry: each leg the sweep settles becomes ABANDONED (R142). -/
def State.visitEntry (s : State) (p : PortIx) (i : OttIx) : State :=
  bothSides.foldl (fun s side =>
    if s.sweepable p ((s.ott.entries[i]).leg side) then s.settle i side .abandoned else s) s

/-- The sweep moves past the entry at its position; after entry 1023 the sweep of its port ends and the next queued port is
taken (R141, R142). The position of an IDLE sweep is 0 (assumption 25). -/
def State.advanceSweep (s : State) (i : OttIx) : State :=
  if h : i.1 + 1 < 1024 then { s with sweep := { s.sweep with position := ⟨i.1 + 1, h⟩ } }
  else ({ s with sweep := { s.sweep with port := none, position := 0 } }).startSweep

/-- SWEEP_VISIT (R142): the sweep visits the entry at its position. -/
def execSweepVisit (s : State) : Host.Outcome State Fault Refusal :=
  s.event fun s =>
    match s.sweep.port with
    | none => s
    | some p => (s.visitEntry p s.sweep.position).advanceSweep s.sweep.position

end Sys2Proof.Machine
end

