-- ==== Sys2Proof/Machine/Ingress.lean ====
section
/-! DEFINITION. Ingress and forwarding: requester credit (section 2.2), the ingress stage, window lookup and routing
(sections 3.3, 3.4), the dispatchers, the fabric requester, and the backlog (sections 2.4, 2.5). -/

namespace Sys2Proof.Machine

/-! ### Requester credit (R29 to R31) -/

/-- A requester's credit target: its grant when ENABLED on a SERVER or TRUNK port, and 0 otherwise (R29). -/
def Requester.target (e : Requester) (mode : PortMode) : Nat := if e.enabled && takesRequests mode then e.grant else 0

/-- A request leaves the sub-queue: the freed credit is absorbed while the credit in force is above the target, and owed
otherwise (R31). -/
def Requester.freeCredit (e : Requester) (mode : PortMode) : Requester :=
  if e.target mode < e.inForce then { e with inForce := e.inForce - 1 } else { e with owed := e.owed + 1 }

/-- The credit in force follows a change of the target from `old`: in ACTIVE and RETRAIN a rise is owed, and a fall first cancels
credit owed (R30); in every other link state it becomes the target at once. A target that stays the same changes nothing, and a fall
that is still being absorbed goes on (R29). -/
def Requester.follow (e : Requester) (old : Nat) (mode : PortMode) (st : LinkState) : Requester :=
  let target := e.target mode
  if target = old then e
  else if st = .active ∨ st = .retrain then
    if e.inForce < target then { e with owed := e.owed + (target - e.inForce), inForce := target }
    else
      let x := min e.owed (e.inForce - target)
      { e with owed := e.owed - x, inForce := e.inForce - x }
  else { e with inForce := target }

/-! ### Window lookup and routing (R51 to R57) -/

/-- The outcome of a window lookup (Table 3-4): answered, or routed to the legs of a window. -/
inductive Lookup where
  | noroute
  | denied
  | lost
  | routed (w : WindowIx) (sides : List Side)
deriving DecidableEq, Repr

namespace State

/-- The ENABLED window of a tenant whose range covers a line (R51). -/
def findWindow (s : State) (t : TenantIx) (line : Nat) : Option WindowIx :=
  (List.finRange 256).find? fun w =>
    let win := s.windows[w]
    win.enabled && win.tenant == t && win.covers line

/-- Read steering (Table 3-5): the primary, unless it is not IN_SERVICE, or it is on a WEAK link and the mirror is
IN_SERVICE on a GOOD one. -/
def readSide (s : State) (win : Window) : Side :=
  if win.primary.state = .inService then
    if win.mirror.state = .inService ∧ s.links[win.primary.port].healthState = .weak
        ∧ s.links[win.mirror.port].healthState = .good then .mirror
    else .primary
  else .mirror

/-- The legs a write leaves on: every leg IN_SERVICE, and a REBUILDING one when the line is below the frontier (R57). -/
def writeSides (s : State) (win : Window) (line : Nat) : List Side :=
  bothSides.filter fun x =>
    (win.leg x).state == .inService || ((win.leg x).state == .rebuilding && decide (line < s.copy.frontier))

/-- The window lookup for a request of a tenant (Table 3-4, in order from the top). -/
def lookup (s : State) (t : TenantIx) (body : ReqBody) (line : LineAddr) : Lookup :=
  match s.findWindow t line.toNat with
  | none => .noroute
  | some w =>
    let win := s.windows[w]
    if !isRead body && win.access == .readOnly then .denied
    else if win.legCondition = .unavailable then .lost
    else .routed w (if isRead body then [s.readSide win] else s.writeSides win line.toNat)

/-- The lookup of a copy slot's request (R62): the survivor for a copy read, the REBUILDING leg for a copy write, while the leg
is in the state the copy needs; otherwise LOST. -/
def copyLookup (s : State) (body : ReqBody) : Lookup :=
  match s.copy.window with
  | none => .lost
  | some w =>
    let side := if isRead body then otherSide s.copy.rebuilding else s.copy.rebuilding
    let need := if isRead body then LegState.inService else LegState.rebuilding
    if ((s.windows[w]).leg side).state = need then .routed w [side] else .lost

/-! ### Holding conditions (Table 2-3) -/

/-- A leg of a route lacks send credit: its link unit's count for the requester id the request will carry is less than the
number of legs of the route on that port. -/
def legShort (s : State) (win : Window) (sides : List Side) (side : Side) : Bool :=
  let l := win.leg side
  decide ((s.links[l.port].sendCredit)[s.carriedId l] < (sides.filter fun x => (win.leg x).port == l.port).length)

/-- The ports on which some leg of a route lacks send credit. -/
def shortPorts (s : State) (win : Window) (sides : List Side) : List PortIx :=
  (sides.filter fun x => s.legShort win sides x).map fun x => (win.leg x).port

/-- The same-line condition: a LIVE or ORPHAN entry with the same ingress port, requester id and line address. -/
def sameLine (s : State) (p : PortIx) (r : ReqId) (line : LineAddr) : Bool :=
  s.ott.entries.toList.any fun e =>
    e.state != .free && e.line == line && (match e.origin with | .ingress q r' _ => q == p && r' == r | .fabric _ => false)

/-- The pinned copy slot condition: a write routed through the window under rebuild to a line held by a pinned slot whose copy
write has not been sent (R156). -/
def pinnedHold (s : State) (w : WindowIx) (body : ReqBody) (line : LineAddr) : Bool :=
  !isRead body && s.underRebuild w && (match s.copy.slotHolding line.toNat with
    | none => false
    | some k =>
      let slot := s.copy.slots[k]
      slot.pinned && !(slot.state == .writing && slot.sent))

/-- No room in the OTT for another entry of an ingress port: the server and trunk pool is full, or the port is at its
OTT limit. -/
def noRoom (s : State) (p : PortIx) : Bool :=
  decide (Config.serverPool ≤ s.ott.serverCount) || decide ((s.stages[p]).ottLimit ≤ (s.stages[p]).ottCount)
    || s.ott.serverFree.isEmpty

/-- The pacer condition: the tenant's pacer is CLOSED. -/
def pacerHolds (s : State) (t : TenantIx) : Bool := (s.pacers[t]).phase == .closed

end State

/-- The conditions that hold a waiting request, with the ports it lacks send credit on (Table 2-3). -/
structure Holds where
  pacer : Bool
  sameLine : Bool
  pinned : Bool
  room : Bool
  short : List PortIx
deriving DecidableEq, Repr

/-- Some condition holds the request. -/
def Holds.held (h : Holds) : Bool := h.pacer || h.sameLine || h.pinned || h.room || !h.short.isEmpty

/-- The leg credit condition holds the request and no other does (R41). -/
def Holds.onlyCredit (h : Holds) : Bool := !h.pacer && !h.sameLine && !h.pinned && !h.room

namespace State

/-- The head request of a requester's sub-queue. -/
def headRequest (s : State) (p : PortIx) (r : ReqId) : Option Request := (s.stages[p].requesters[r]).queue.head?

/-- The tenant of a requester's requests: the one its requester entry names when the request is considered (R51). -/
def requesterTenant (s : State) (p : PortIx) (r : ReqId) : TenantIx := (s.stages[p].requesters[r]).tenant

/-- The conditions that hold a head request. The last three of Table 2-3 apply only to a head its lookup would forward
(R38). -/
def headHolds (s : State) (p : PortIx) (r : ReqId) (q : Request) : Holds :=
  let t := s.requesterTenant p r
  match s.lookup t q.body q.line with
  | .routed w sides =>
    { pacer := s.pacerHolds t
      sameLine := s.sameLine p r q.line
      pinned := s.pinnedHold w q.body q.line
      room := s.noRoom p
      short := s.shortPorts (s.windows[w]) sides }
  | _ => ⟨s.pacerHolds t, s.sameLine p r q.line, false, false, []⟩

/-- The lookup of a pending fabric request (R51, R62). -/
def fabricLookup (s : State) (q : FabricReq) : Lookup :=
  match q.job with
  | .copySlot _ => s.copyLookup q.body
  | .ringRecord => s.lookup 0 q.body q.line
  | .ringIndex => s.lookup 0 q.body q.line

/-- The conditions that hold a pending fabric request: tenant 0's pacer, leg credit, and the fabric pool (R40). -/
def fabricHolds (s : State) (q : FabricReq) : Holds :=
  { pacer := s.pacerHolds 0
    sameLine := false
    pinned := false
    room := decide (Config.fabricPool ≤ s.ott.fabricCount) || s.ott.fabricFree.isEmpty
    short := match s.fabricLookup q with
      | .routed w sides => s.shortPorts (s.windows[w]) sides
      | _ => [] }

/-- The backlog of a MEMORY or TRUNK port: heads and pending fabric requests held by the leg credit condition on the port
and by no other condition (R41). -/
def backlog (s : State) (p : PortIx) : Nat :=
  let counts := fun (h : Holds) => h.onlyCredit && h.short.contains p
  let heads := (List.finRange 16).flatMap fun q => (List.finRange 16).filterMap fun r =>
    (s.headRequest q r).map fun m => s.headHolds q r m
  if carriesLegs s.links[p].mode then
    (heads.filter counts).length + ((s.fabric.map fun q => s.fabricHolds q).filter counts).length
  else 0

/-! ### Dispatch of a route (R58, R86, R93, R133) -/

/-- The leg of an entry as its dispatch sends it: SENT, with the route's port and requester id, the congested flag, the
sent time, and the sample mark when it is a read and the port's monitor is ARMED (R58, R86, R93). -/
def newLeg (s : State) (w : WindowIx) (t : TenantIx) (read : Bool) (side : Side) : OttLeg :=
  let l := (s.windows[w]).leg side
  { progress := .sent
    port := l.port
    reqId := s.carriedId l
    congested := s.flagCongested t l.port
    stale := false
    sentTime := s.time
    timeout := s.settings.completionTimeout
    sample := read && (s.monitors[l.port]).sample == .armed
    failStatus := none }

/-- The entry a dispatch allocates: LIVE, its generation raised by 1, the legs of the route SENT (R58, R65, R66). -/
def newEntry (s : State) (i : OttIx) (origin : Origin) (t : TenantIx) (w : WindowIx) (body : ReqBody) (line : LineAddr)
    (sides : List Side) : OttEntry :=
  { state := .live
    gen := (s.ott.entries[i]).gen + 1
    origin := origin
    tenant := t
    window := w
    body := body
    line := line
    reissued := false
    readData := none
    primary := if sides.contains .primary then s.newLeg w t (isRead body) .primary else .none
    mirror := if sides.contains .mirror then s.newLeg w t (isRead body) .mirror else .none }

/-- The pair of port and target line of each IN_SERVICE leg of the ENABLED window of tenant 0 that covers the consumer
location; none while no ring is configured (R133). -/
def watchedPlaces (s : State) : List (PortIx × LineAddr) :=
  let line := lineOf s.ring.consumerLoc.toNat
  if s.ring.configured then
    match s.findWindow 0 line with
    | none => []
    | some w =>
      let win := s.windows[w]
      (bothSides.filter fun x => (win.leg x).state == .inService).map fun x => ((win.leg x).port, win.targetLine x line)
  else []

/-- The watch-list entries that the dispatch of a write adds: a leg of the route whose port and target line are watched, with
the value the write carries at the location (R133). -/
def watchEntries (s : State) (i : OttIx) (gen : BitVec 4) (w : WindowIx) (body : ReqBody) (line : LineAddr)
    (sides : List Side) : List WatchEntry :=
  match watchedValue (lineOffset s.ring.consumerLoc.toNat) body with
  | none => []
  | some v =>
    let win := s.windows[w]
    (sides.filter fun x => s.watchedPlaces.contains ((win.leg x).port, win.targetLine x line.toNat)).map fun x =>
      ⟨i, gen, x, v⟩

/-- A dispatched read that carries the sample mark makes its port's monitor OUTSTANDING from now (R86). -/
def takeSample (s : State) (i : OttIx) (side : Side) : State :=
  let l := (s.ott.entries[i]).leg side
  if l.sample then s.modMonitor l.port fun m => { m with sample := .outstanding, sampleStart := s.time } else s

/-- Allocates the entry at the head of a pool's free list for a route, with the counts of R64 and R43, and adds the watched
legs to the watch list. -/
def allocate (s : State) (i : OttIx) (rest : List OttIx) (origin : Origin) (t : TenantIx) (w : WindowIx) (body : ReqBody)
    (line : LineAddr) (sides : List Side) : State :=
  let e := s.newEntry i origin t w body line sides
  let s1 := { s with
    ott := match origin with
      | .ingress _ _ _ => { s.ott with serverFree := rest }
      | .fabric _ => { s.ott with fabricFree := rest }
    ring := { s.ring with watch := s.ring.watch ++ s.watchEntries i e.gen w body line sides } }
  (s1.modEntry i fun _ => e).countEntry origin w fun n => n + 1

/-- The dispatch of a routed request (R58): an entry is allocated, each leg of the route is offered to its link unit and
counted in flight, the sample may be taken, and the copy engine is told of a write of the window under rebuild (R154). When
both legs of a mirrored write lie on one port, the primary's request joins its transmit queue first (assumption 20). -/
def dispatchRoute (s : State) (origin : Origin) (t : TenantIx) (w : WindowIx) (body : ReqBody) (line : LineAddr)
    (sides : List Side) : State :=
  match (match origin with | .ingress _ _ _ => s.ott.serverFree | .fabric _ => s.ott.fabricFree) with
  | [] => s
  | i :: rest =>
    let s1 := s.allocate i rest origin t w body line sides
    let s2 := sides.foldl (fun s side => (s.sendLeg i side).takeSample i side) s1
    match origin with
    | .fabric (.copySlot _) => s2
    | _ => if isRead body then s2 else s2.engineSeesWrite w line.toNat

/-- A request answered at dispatch is counted in its tenant's record: NR and NOROUTE_SEEN for NOROUTE, DN for DENIED, nothing
for LOST (R52 to R54). -/
def countRefused (s : State) (t : TenantIx) (status : Status) : State :=
  match status with
  | .noroute =>
    (s.modTenant t fun r => { r with nr := satInc Config.count16Max r.nr }).raise .norouteSeen (numDetail t.1)
  | .denied => s.modTenant t fun r => { r with dn := satInc Config.count16Max r.dn }
  | _ => s

/-! ### The dispatcher (R37) -/

/-- The order in which a dispatcher considers its requesters: from the one after the last dispatched, wrapping from 15 to 0
(R37). -/
def considerOrder (last : ReqId) : List ReqId := (List.finRange 16).map fun k => last + 1 + k

/-- The requester whose head the dispatcher takes: the first in its order whose head is not held (R37). -/
def nextHead (s : State) (p : PortIx) : Option (ReqId × Request) :=
  (considerOrder (s.stages[p]).lastDispatched).findSome? fun r =>
    match s.headRequest p r with
    | none => none
    | some q => if (s.headHolds p r q).held then none else some (r, q)

/-- The head request leaves its sub-queue, its requester is recorded as the last dispatched, and its credit is freed
(R31, R37). -/
def departHead (s : State) (p : PortIx) (r : ReqId) : State :=
  let mode := s.links[p].mode
  (s.modRequester p r fun e => ({ e with queue := e.queue.tail }).freeCredit mode).modStage p fun g =>
    { g with lastDispatched := r }

/-- A head is answered at dispatch with a status and no data (R35, R52 to R54). -/
def answerHead (s : State) (p : PortIx) (r : ReqId) (q : Request) (status : Status) : State :=
  (((s.departHead p r).respond p (isRead q.body) q.reqId q.tag status none).countRefused (s.requesterTenant p r) status)

/-- A head that is not held leaves: answered, or dispatched along its route (R35). -/
def takeHead (s : State) (p : PortIx) (r : ReqId) (q : Request) : State :=
  let t := s.requesterTenant p r
  match s.lookup t q.body q.line with
  | .noroute => s.answerHead p r q .noroute
  | .denied => s.answerHead p r q .denied
  | .lost => s.answerHead p r q .lost
  | .routed w sides => (s.departHead p r).dispatchRoute (.ingress p r q.tag) t w q.body q.line sides

/-! ### The fabric requester (R40) -/

/-- A pending fabric request that is not held leaves: reported to its job with the status of an answer at dispatch, or
dispatched along its route (R40, R52 to R54, R62). -/
def takeFabric (s : State) (q : FabricReq) : State :=
  let s1 := { s with fabric := s.fabric.erase q }
  match s.fabricLookup q with
  | .noroute => (s1.countRefused 0 .noroute).report q.job .noroute none
  | .denied => (s1.countRefused 0 .denied).report q.job .denied none
  | .lost => s1.report q.job .lost none
  | .routed w sides => (s1.markSent q.job).dispatchRoute (.fabric q.job) 0 w q.body q.line sides

/-! ### Received requests (R10, R11, R33, R34) -/

/-- An accepted request joins the tail of its requester's sub-queue (R34); for a DISABLED requester it is answered DENIED at
once and its credit is freed (R33). -/
def takeRequest (s : State) (p : PortIx) (q : Request) : State :=
  let mode := s.links[p].mode
  if (s.stages[p].requesters[q.reqId]).enabled then
    s.modRequester p q.reqId fun e => { e with queue := e.queue ++ [q] }
  else
    (s.modRequester p q.reqId fun e => e.freeCredit mode).respond p (isRead q.body) q.reqId q.tag .denied none

/-- A well-formed request received on a link (R10): in ACTIVE and in sequence it is accepted against one receive credit of
its requester id, and is an overrun without one or on a port that takes no requests in (R11, R24); out of sequence it
is discarded; in every other link state it is discarded uncounted. -/
def receiveRequest (s : State) (p : PortIx) (seq : Seq) (q : Request) : State :=
  let u := s.links[p]
  if u.state = .active then
    if seq = u.expSeq then
      if takesRequests u.mode && decide (1 ≤ u.recvCredit[q.reqId]) then
        ((s.acceptPayload p).modLink p fun u => { u with recvCredit := mapAt u.recvCredit q.reqId fun c => c - 1 }).takeRequest
          p q
      else s.overrun p
    else s.outOfSequence p
  else s

end State

/-- RD_RECEIVED (R10). -/
def execRdReceived (p : PortIx) (seq : Seq) (req : ReqId) (tag : Tag) (line : LineAddr) (s : State) :
    Host.Outcome State Fault Refusal :=
  s.event fun s => s.receiveRequest p seq ⟨req, tag, line, .rd⟩

/-- WR_RECEIVED (R10). -/
def execWrReceived (p : PortIx) (seq : Seq) (req : ReqId) (tag : Tag) (line : LineAddr) (data : LineData) (s : State) :
    Host.Outcome State Fault Refusal :=
  s.event fun s => s.receiveRequest p seq ⟨req, tag, line, .wr data⟩

/-- WRM_RECEIVED (R10); the mask may select any set of bytes (R1). -/
def execWrmReceived (p : PortIx) (seq : Seq) (req : ReqId) (tag : Tag) (line : LineAddr) (data : LineData)
    (mask : ByteMask) (s : State) : Host.Outcome State Fault Refusal :=
  s.event fun s => s.receiveRequest p seq ⟨req, tag, line, .wrm data mask⟩

/-- DISPATCH (R37): the dispatcher of a SERVER or TRUNK port takes the first head that is not held; when every head is held
or every sub-queue is empty it waits. -/
def execDispatch (p : PortIx) (s : State) : Host.Outcome State Fault Refusal :=
  s.event fun s =>
    if takesRequests s.links[p].mode then
      match s.nextHead p with
      | some (r, q) => s.takeHead p r q
      | none => s
    else s

/-- FABRIC_DISPATCH (R40): the fabric requester dispatches the earliest issued of its pending requests that are not held. -/
def execFabricDispatch (s : State) : Host.Outcome State Fault Refusal :=
  s.event fun s =>
    match s.fabric.find? fun q => !(s.fabricHolds q).held with
    | some q => s.takeFabric q
    | none => s

end Sys2Proof.Machine
end

