-- ==== Sys2Proof/Machine/Failover.lean ====
section
/-! DEFINITION. Training, failure and reset of a link with their consequences (R15 to R18, R22, R26, R27, R137, R145),
and the meanings of the training messages, the train timer and the RESTORE_LINK deadline. -/

namespace Sys2Proof.Machine

/-- The link unit after a link reset, its port mode already in force (R22): DOWN in mode OFF, and fresh TRAINING with its first
TRN owed and the train timer started otherwise (R15). Health score, health state, decay timer and counters are kept. That both training
flags are clear in DOWN is the model's choice (assumption 28). -/
def LinkUnit.restarted (u : LinkUnit) (trainTimer : Timer) : LinkUnit :=
  let off := u.mode == .off
  { u with
    state := if off then .down else .training
    sendSeq := 0
    retry := []
    replayPos := none
    replayTimer := none
    replayCount := 0
    expSeq := 0
    ackOwed := 0
    episode := false
    trnSent := !off
    heard := false
    trainTimer := if off then none else some trainTimer
    attempt := none
    partnerMode := none
    sendCredit := Vector.replicate 16 0
    recvCredit := Vector.replicate 16 0
    txQueue := []
    trnrOwed := none
    trnOwed := if off then none else some true
    lnakOwed := false }

/-- The link unit on entering FAILED (R17): the retry buffer, transmit queue and owed control messages are gone and the replay
and train timers stop; mode, S, E and credits are kept, and one failure is counted. K, Q and the partner mode are kept
too (assumption 21). -/
def LinkUnit.failing (u : LinkUnit) : LinkUnit :=
  { u with
    state := .failed
    retry := []
    replayPos := none
    replayTimer := none
    episode := false
    trainTimer := none
    attempt := none
    txQueue := []
    trnrOwed := none
    trnOwed := none
    lnakOwed := false
    counters := { u.counters with failures := satInc Config.counterMax u.counters.failures } }

/-- The link unit as a fresh session becomes ACTIVE (R15): S, E, Q and K at 0, the retry buffer empty, the discard episode
closed, the train timer stopped. Messages offered during training stay in the transmit queue (R3). A TRN still owed is no
longer owed (assumption 5). -/
def LinkUnit.trained (u : LinkUnit) : LinkUnit :=
  { u with
    state := .active
    sendSeq := 0
    retry := []
    replayPos := none
    replayTimer := none
    replayCount := 0
    expSeq := 0
    ackOwed := 0
    episode := false
    trainTimer := none
    trnOwed := none }

namespace State

/-- Every requester entry of a port changes. -/
def modRequesters (s : State) (p : PortIx) (f : Requester → Requester) : State :=
  s.modStage p fun g => { g with requesters := g.requesters.map f }

/-- The ingress side of a port is given up (R26, R27): every queued request and every owed credit is discarded, and the port's
LIVE entries of server or trunk origin become ORPHAN (R82). -/
def giveUpIngress (s : State) (p : PortIx) : State :=
  (s.modRequesters p fun e => { e with queue := [], owed := 0 }).orphanPort p

/-- The link reset of one link unit itself (R22), with what it resets at the ingress stage: the credit in force becomes the
target, owed becomes 0 (R29), and the round-robin position becomes 15 (R37). -/
def resetUnit (s : State) (p : PortIx) : State :=
  let mode := s.links[p].mode
  ((s.modLink p fun u => u.restarted (s.timer s.settings.trainTimeout)).modRequesters p fun e =>
    { e with inForce := e.target mode, owed := 0 }).modStage p fun g => { g with lastDispatched := 15 }

/-- A link reset from LINK_RESET or RESTORE_LINK, with its consequences by port mode (R146, R27, R67, R137). -/
def linkReset (s : State) (p : PortIx) : State :=
  let mode := s.links[p].mode
  let s1 := if takesRequests mode then s.giveUpIngress p else s
  let s2 := s1.markStale p
  let s3 := if carriesLegs mode then s2.portLoss p false else s2
  s3.resetUnit p

/-- A link enters FAILED (R17), with its consequences by port mode: the ingress side given up (R27), the port-wide loss, or
LINK_FAILED alone (R137). That a TRUNK port gives up its ingress side before its legs are lost is the model's choice of order
(assumption 20). -/
def enterFailed (s : State) (p : PortIx) : State :=
  let mode := s.links[p].mode
  let s1 := s.modLink p LinkUnit.failing
  let s2 := if takesRequests mode then s1.giveUpIngress p else s1
  if carriesLegs mode then s2.portLoss p false else s2.raise .linkFailed (bitDetail p.1)

/-- A port changes mode (R26): what the old mode had is cleared, then a link reset starts the new one. -/
def changeMode (s : State) (p : PortIx) (mode : PortMode) : State :=
  let old := s.links[p].mode
  let s1 := if takesRequests old then s.giveUpIngress p else s
  let s2 := s1.markStale p
  let s3 := if carriesLegs old then s2.portLoss p true else s2
  (s3.modLink p fun u => { u with mode := mode }).resetUnit p

/-- The windows whose primary a RESTORE_LINK of a MEMORY or TRUNK port returns (R145): configured, without a mirror, their
primary on the port and LOST. -/
def returning (s : State) (p : PortIx) : List WindowIx :=
  indicesWhere 256 fun w =>
    let win := s.windows[w]
    carriesLegs s.links[p].mode && win.configured && win.mirror.state == .absent && win.primary.port == p
      && win.primary.state == .lost

/-- The LINK job is ACTIVE for a port. -/
def linkJobOn (s : State) (p : PortIx) : Bool := s.jobs.link.state == .active && s.jobs.linkPort == p

/-- The RESTORE_LINK of a port, if one is ACTIVE, ends DONE at the link's training: its primaries return to IN_SERVICE, and their
number is the result (R145). -/
def restoreDone (s : State) (p : PortIx) : State :=
  if s.linkJobOn p then
    let back := s.returning p
    let s1 := back.foldl (fun s w => s.setLeg w .primary .inService) s
    ({ s1 with jobs := { s1.jobs with deadline := none } }).endJob .link .done back.length
  else s

/-- Fresh training completes (R15): the link is ACTIVE, every requester is owed its credit in force (R29), and a RESTORE_LINK of
the port ends (R145). -/
def trainingComplete (s : State) (p : PortIx) : State :=
  ((s.modLink p LinkUnit.trained).modRequesters p fun e => { e with owed := e.inForce }).restoreDone p

/-- The partner is heard in TRAINING (R15): with both training flags set, training completes. -/
def hearPartner (s : State) (p : PortIx) : State :=
  let s1 := s.modLink p fun u => { u with heard := true }
  if s1.links[p].trnSent then s1.trainingComplete p else s1

/-- The partner's expected sequence number decides a retrain (R16): inside the buffer's span it succeeds, and outside the link
enters FAILED. -/
def decideRetrain (s : State) (p : PortIx) (seq : Seq) : State :=
  let u := s.links[p]
  if u.ahead seq ≤ u.retry.length then s.retrainSuccess p seq else s.enterFailed p

/-- A TRN is answered with TRNR of the given number, and its port mode recorded (R15, R16, R18). -/
def answerTrn (s : State) (p : PortIx) (mode : PortMode) (seq : Seq) : State :=
  s.modLink p fun u => { u with trnrOwed := some seq, partnerMode := some mode }

end State

/-- TRN_RECEIVED: in TRAINING it is answered with TRNR(0) and heard (R15); in ACTIVE and RETRAIN a fresh one brings FAILED, and any
other is answered with TRNR(E) and its sequence number taken (R16, R18). -/
def execTrnReceived (p : PortIx) (mode : PortMode) (seq : Seq) (fresh : Bool) (s : State) :
    Host.Outcome State Fault Refusal :=
  s.event fun s =>
    let u := s.links[p]
    match u.state with
    | .training => (s.answerTrn p mode 0).hearPartner p
    | .active =>
      if fresh then s.enterFailed p
      else if u.ahead seq ≤ u.retry.length then (s.answerTrn p mode u.expSeq).replayFrom p seq
      else (s.answerTrn p mode u.expSeq).enterFailed p
    | .retrain =>
      if fresh then s.enterFailed p else (s.answerTrn p mode u.expSeq).decideRetrain p seq
    | .down | .failed => s

/-- TRNR_RECEIVED: in TRAINING it is heard (R15), in RETRAIN its sequence number decides (R16), in ACTIVE it is discarded (R18). -/
def execTrnrReceived (p : PortIx) (seq : Seq) (s : State) : Host.Outcome State Fault Refusal :=
  s.event fun s =>
    match s.links[p].state with
    | .training => s.hearPartner p
    | .retrain => s.decideRetrain p seq
    | .active | .down | .failed => s

/-- TRAIN_TIMER_EXPIRY: in TRAINING a fresh TRN is owed again (R15); in RETRAIN attempts 1 and 2 are followed by the next, and the
third brings FAILED (R16). When the TRN before it is still unsent, one TRN is sent for the two (assumption 6). -/
def execTrainTimerExpiry (p : PortIx) (s : State) : Host.Outcome State Fault Refusal :=
  s.event fun s =>
    let u := s.links[p]
    if timerDue u.trainTimer s.time then
      let again := some (s.timer s.settings.trainTimeout)
      match u.state with
      | .training => s.modLink p fun u => { u with trnOwed := some true, trainTimer := again }
      | .retrain =>
        match u.attempt with
        | some k =>
          if k < Config.retrainAttempts then
            s.modLink p fun u => { u with trnOwed := some false, trainTimer := again, attempt := some (k + 1) }
          else s.enterFailed p
        | none => s
      | .active | .down | .failed => s
    else s

/-- RESTORE_LINK_DEADLINE (R145): the link enters FAILED with its consequences, and the job is FAILED with the link state before
the failure as its result. -/
def execRestoreLinkDeadline (s : State) : Host.Outcome State Fault Refusal :=
  s.event fun s =>
    if s.jobs.link.state = .active ∧ timerDue s.jobs.deadline s.time then
      let p := s.jobs.linkPort
      let before := linkStateCode s.links[p].state
      let s1 := s.enterFailed p
      ({ s1 with jobs := { s1.jobs with deadline := none } }).endJob .link .failed before
    else s

end Sys2Proof.Machine
end

