-- ==== Sys2Proof/Machine/Monitor.lean ====
section
/-! DEFINITION. The congestion monitor's evaluation (R86 to R91). -/

namespace Sys2Proof.Machine

namespace State

/-- The in-flight count of a tenant at a port (R85). -/
def inFlightAt (s : State) (t : TenantIx) (p : PortIx) : Nat := ((s.contrib[t])[p]).inFlight

/-- The tenant with the largest in-flight count at a port, the lowest tenant number among equals (R90). -/
def largestTenant (s : State) (p : PortIx) : TenantIx :=
  (List.finRange 64).foldl (fun best t => if s.inFlightAt best p < s.inFlightAt t p then t else best) 0

/-- A tenant contributes to a congested port: it has legs there, and passes the share test or has the largest count
(R90). -/
def contributes (s : State) (p : PortIx) (t : TenantIx) : Bool :=
  let n := s.inFlightAt t p
  let total := (s.monitors[p]).inFlight
  decide (0 < total) && decide (0 < n) && (decide (s.settings.share * total ≤ n * 256) || t == s.largestTenant p)

/-- The port is judged CONGESTED (R89): its mode is MEMORY or TRUNK and its backlog has reached the backlog mark, or a fresh last
sample or the age of an outstanding one is above the latency mark. -/
def judgedCongested (s : State) (p : PortIx) : Bool :=
  let m := s.monitors[p]
  carriesLegs s.links[p].mode
    && (decide (s.settings.backlogMark ≤ s.backlog p)
      || (m.fresh && (match m.lastSample with | some v => decide (s.settings.latencyMark < v) | none => false))
      || (m.sample == .outstanding && decide (s.settings.latencyMark < (s.time - m.sampleStart).toNat)))

/-- The level of a tenant at a port after an evaluation: a contributor's rises by 1 to at most 3, every other one's falls by 1
to no less than 0 (R90, R91). -/
def nextLevel (contributor : Bool) (level : Nat) : Nat := if contributor then min 3 (level + 1) else level - 1

/-- The levels at a port are adjusted: `up` names the contributors. Each tenant whose level there changed passes its congestion
level to its pacer (R90, R91, R94). -/
def adjustLevels (s : State) (p : PortIx) (up : TenantIx → Bool) : State :=
  (List.finRange 64).foldl (fun s t =>
    let old := ((s.contrib[t])[p]).level
    let new := nextLevel (up t) old
    if new = old then s else (s.modContrib t p fun c => { c with level := new }).repace t) s

/-- The evaluation of a port judged `congested`: the fresh flag is cleared, an IDLE sample is ARMED (R86), the port state is the
judgement, and a turn from CLEAR to CONGESTED raises PORT_CONGESTED (R89). The relief timer restarts (R88). -/
def recordJudgement (s : State) (p : PortIx) (congested : Bool) : State :=
  let m := s.monitors[p]
  let s1 := s.modMonitor p fun m => { m with
    portState := if congested then .congested else .clear
    fresh := false
    sample := if m.sample = .idle then .armed else m.sample
    reliefTimer := s.timer s.settings.reliefInterval }
  if congested ∧ m.portState = .clear then s1.raise .portCongested (bitDetail p.1) else s1

/-- One evaluation of a port (R89 to R91). -/
def evaluate (s : State) (p : PortIx) : State :=
  let congested := s.judgedCongested p
  let up := s.contributes p
  (s.recordJudgement p congested).adjustLevels p fun t => congested && up t

end State

/-- RELIEF_TIMER_EXPIRY (R86, R88 to R91): the monitor evaluates its port. -/
def execReliefTimerExpiry (p : PortIx) (s : State) : Host.Outcome State Fault Refusal :=
  s.event fun s => if (s.monitors[p]).reliefTimer.due s.time then s.evaluate p else s

end Sys2Proof.Machine
end

