-- ==== Sys2Proof/WellFormed.lean ====
section
/-! DEFINITION. Which commands a partner or a rack manager can send: the checks a term of `Instr` meets when it stands
for a received message or a received command frame. -/

namespace Sys2Proof

/-- Every argument of a management command fits the width its frame gives it (R178). -/
def argsFit (args : List (Nat × Nat)) : Bool := args.all fun a => a.2 < 256 ^ a.1

/-- A CRED count is 1 to 64 (R1, R2). -/
def credCountOk (count : Nat) : Bool := 1 ≤ count && count ≤ 64

/-- An RDATA carries data when its status is GOOD and only then (R1, R2). -/
def rdataOk (status : Status) (data : Option LineData) : Bool := data.isSome == (status == .good)

/-- A signed argument of ADJUST_TENANT lies in −2^31 to 2^31 − 1 (R112). -/
def amountOk (amount : Int) : Bool := -2 ^ 31 ≤ amount && amount < 2 ^ 31

/-- A well-formed command: a message that is not malformed under R2, or a management command that a frame can carry
(a SET_WINDOW of length 0 is the clear form, R46; every argument fits its width, R178). -/
def Instr.WellFormed (i : Instr) : Bool :=
  match i with
  | .credReceived _ _ count => credCountOk count
  | .rdataReceived _ _ _ _ status data => rdataOk status data
  | .adjustTenant tenant amount => decide (tenant < 256) && amountOk amount
  | .setWindow _ _ _ length .. => length != 0 && (match i.command with | some c => argsFit c.2 | none => true)
  | _ => match i.command with | some c => argsFit c.2 | none => true

end Sys2Proof
end

