-- ==== Sys2Proof/Machine/Formats.lean ====
section
/-! DEFINITION. The layouts partners see (Chapter 11): TML messages and their CRC (R2, R176), and what the bytes received on a
link or on the management port stand for. -/

namespace Sys2Proof.Machine

/-! ### The CRC (R2, R176) -/

/-- The CRC register after one bit: polynomial x^16 + x^15 + x^11 + x^9 + x^8 + x^7 + x^5 + x^4 + x^2 + x + 1, not reflected. -/
def crcBit (reg : BitVec 16) (bit : Bool) : BitVec 16 :=
  if (reg.msb ^^ bit) then (reg <<< 1) ^^^ 0x8BB7#16 else reg <<< 1

/-- The CRC register after one byte, taken most significant bit first. -/
def crcByte (reg : BitVec 16) (b : Byte) : BitVec 16 :=
  [7, 6, 5, 4, 3, 2, 1, 0].foldl (fun reg k => crcBit reg (b.getLsbD k)) reg

/-- The CRC-16 of a message's other bytes in the order sent: initial value 0xFFFF, no final value added. -/
def crc16 (bytes : List Byte) : BitVec 16 := bytes.foldl crcByte 0xFFFF#16

/-! ### Messages sent (Table 11-1) -/

/-- The code of a request's kind. -/
def reqKindCode : ReqBody → Nat
  | .rd => 1
  | .wr _ => 2
  | .wrm _ _ => 3

/-- The code of a response's kind. -/
def respKindCode : RespKind → Nat
  | .rdata => 4
  | .wack => 5

/-- The bytes of a request's body: data byte k is the byte at offset k of the line, and the byte mask follows, its bit 0 the
least significant bit of its last byte. -/
def reqBodyBytes : ReqBody → List Byte
  | .rd => []
  | .wr d => d.toList
  | .wrm d mask => d.toList ++ beBytes 8 mask.toNat

/-- The bytes of a message before its CRC, multi-byte fields most significant byte first (R176). -/
def messageBody : Message → List Byte
  | .payload seq (.request r) =>
    beBytes 1 (reqKindCode r.body) ++ [seq] ++ beBytes 1 r.reqId.1 ++ beBytes 2 r.tag.toNat ++ beBytes 6 r.line.toNat
      ++ reqBodyBytes r.body
  | .payload seq (.response r) =>
    beBytes 1 (respKindCode r.kind) ++ [seq] ++ beBytes 1 r.reqId.1 ++ beBytes 2 r.tag.toNat
      ++ beBytes 1 (statusCode r.status) ++ (match r.data with | some d => d.toList | none => [])
  | .lack seq => [8, seq]
  | .lnak seq => [9, seq]
  | .cred req count => [10] ++ beBytes 1 req.1 ++ beBytes 1 count
  | .trn mode seq fresh => [11] ++ beBytes 1 (modeCode mode) ++ [seq] ++ beBytes 1 (flagCode fresh)
  | .trnr seq => [12, seq]

/-- A message as sent: its bytes and their CRC, most significant byte first. -/
def messageBytes (m : Message) : List Byte := messageBody m ++ beBytes 2 (crc16 (messageBody m)).toNat

/-! ### Messages received -/

/-- The number that a field of `width` bytes at an offset holds. -/
def fieldAt (bytes : List Byte) (offset width : Nat) : Nat := ofBe ((bytes.drop offset).take width)

/-- The requester id of a byte: its low four bits (R176). -/
def reqIdOf (v : Nat) : ReqId := ⟨v % 16, Nat.mod_lt _ (by decide)⟩

/-- The 64 data bytes at an offset. -/
def dataAt (bytes : List Byte) (offset : Nat) : LineData := Vector.ofFn fun k => bytes.getD (offset + k.1) 0

/-- The request of a received message: the requester id is the low four bits of its byte and the line address the low 46 bits of
its six bytes; the other bits are ignored. -/
def parseRequest (b : List Byte) (body : ReqBody) : Message :=
  .payload (b.getD 1 0)
    (.request ⟨reqIdOf (fieldAt b 2 1), BitVec.ofNat 16 (fieldAt b 3 2), BitVec.ofNat 46 (fieldAt b 5 6), body⟩)

/-- The response of a received message; a status above 5 is taken as FAULT. -/
def parseResponse (b : List Byte) (kind : RespKind) (data : Option LineData) : Message :=
  .payload (b.getD 1 0)
    (.response ⟨kind, reqIdOf (fieldAt b 2 1), BitVec.ofNat 16 (fieldAt b 3 2), toStatus (fieldAt b 5 1), data⟩)

/-- The message that the bytes before a CRC stand for, none when they are malformed (R2, R176): a kind that is none of the ten, a
length that is not the kind's, a TRN port mode above 4, a CRED count of 0 or above 64, or an RDATA whose data and status
disagree. -/
def parseBody (b : List Byte) : Option Message :=
  match (b.getD 0 0).toNat, b.length with
  | 1, 11 => some (parseRequest b .rd)
  | 2, 75 => some (parseRequest b (.wr (dataAt b 11)))
  | 3, 83 => some (parseRequest b (.wrm (dataAt b 11) (BitVec.ofNat 64 (fieldAt b 75 8))))
  | 4, 70 => if toStatus (fieldAt b 5 1) = .good then some (parseResponse b .rdata (some (dataAt b 6))) else none
  | 4, 6 => if toStatus (fieldAt b 5 1) = .good then none else some (parseResponse b .rdata none)
  | 5, 6 => some (parseResponse b .wack none)
  | 8, 2 => some (.lack (b.getD 1 0))
  | 9, 2 => some (.lnak (b.getD 1 0))
  | 10, 3 => if credCountOk (fieldAt b 2 1) then some (.cred (reqIdOf (fieldAt b 1 1)) (fieldAt b 2 1)) else none
  | 11, 4 => (toMode (fieldAt b 1 1)).map fun mode => .trn mode (b.getD 2 0) (decide (fieldAt b 3 1 % 2 = 1))
  | 12, 2 => some (.trnr (b.getD 1 0))
  | _, _ => none

/-- The bytes pass the CRC check: the last two are the CRC of the others (R2). -/
def passesCrc (bytes : List Byte) : Bool :=
  2 ≤ bytes.length && ofBe (bytes.drop (bytes.length - 2)) == (crc16 (bytes.take (bytes.length - 2))).toNat

/-- The command of a received message. -/
def messageCommand (p : PortIx) : Message → Instr
  | .payload seq (.request ⟨req, tag, line, .rd⟩) => .rdReceived p seq req tag line
  | .payload seq (.request ⟨req, tag, line, .wr d⟩) => .wrReceived p seq req tag line d
  | .payload seq (.request ⟨req, tag, line, .wrm d mask⟩) => .wrmReceived p seq req tag line d mask
  | .payload seq (.response ⟨.rdata, req, tag, status, data⟩) => .rdataReceived p seq req tag status data
  | .payload seq (.response ⟨.wack, req, tag, status, _⟩) => .wackReceived p seq req tag status
  | .lack seq => .lackReceived p seq
  | .lnak seq => .lnakReceived p seq
  | .cred req count => .credReceived p req count
  | .trn mode seq fresh => .trnReceived p mode seq fresh
  | .trnr seq => .trnrReceived p seq

/-- The command that the bytes of one message received on a port stand for: the message's own when it passes the CRC check and
is well formed, and a CRC discard otherwise (R2). -/
def receivedBytes (p : PortIx) (bytes : List Byte) : Instr :=
  if passesCrc bytes then
    match parseBody (bytes.take (bytes.length - 2)) with
    | some m => messageCommand p m
    | none => .crcDiscard p
  else .crcDiscard p

/-- The message is one a sender may send (R1): an RDATA carries data exactly with GOOD, a WACK carries none, a CRED counts 1 to
64. -/
def messageOk : Message → Bool
  | .payload _ (.request _) => true
  | .payload _ (.response ⟨.rdata, _, _, status, data⟩) => rdataOk status data
  | .payload _ (.response ⟨.wack, _, _, _, data⟩) => data.isNone
  | .cred _ count => credCountOk count
  | .lack _ | .lnak _ | .trn _ _ _ | .trnr _ => true

/-! ### Management frames (R162, R178) -/

/-- The bytes of a response frame, as sent from byte 1 of a read frame (Table 11-4). -/
def ResponseFrame.bytes (r : ResponseFrame) : List Byte :=
  [r.code] ++ beBytes 1 (mgmtStatusCode r.status) ++ beBytes 1 (flagCode r.overlap) ++ beBytes 2 r.data.length ++ r.data

/-- The command that one frame of the management port stands for, from its bytes on MOSI: a first byte of 0x01 makes it a command
frame, any other a read frame that clocks the bytes after it (R178). A frame whose first byte is not complete has no byte that
makes it a command frame, and is a read frame of no further bytes (assumption 26). -/
def mgmtFrame (mosi : List Byte) (partialByte : Bool) : Instr :=
  match mosi with
  | b :: rest => if b = 1 then .commandFrame ⟨rest, partialByte⟩ else .readFrame rest.length
  | [] => .readFrame 0

end Sys2Proof.Machine
end

