-- ==== Sys2Proof/Machine/Mgmt.lean ====
section
/-! DEFINITION. The management port (section 10.1): frames, the command in hand, and the taking and answering of commands. -/

namespace Sys2Proof.Machine

/-- What a command's rule gives at its taking: the part afterwards, the answer's status, and the data it returns. -/
structure Reply where
  state : State
  status : MgmtStatus
  data : List Byte
deriving DecidableEq, Repr

namespace State

/-- The command is refused with a status and changes nothing (R164). -/
def refuse (s : State) (status : MgmtStatus) : Reply := ⟨s, status, []⟩

/-- The command answers OK without data. -/
def okay (s : State) : Reply := ⟨s, .ok, []⟩

/-- A reading command answers OK with data and changes nothing else. -/
def returns (s : State) (data : List Byte) : Reply := ⟨s, .ok, data⟩

/-- The command may be taken now: it is the command in hand, or, with no command in hand, it stands for its frame's arrival and
its taking together (assumption 7). -/
def inHandIs (s : State) (i : Instr) : Bool :=
  match s.mgmt.inHand with
  | some f => decodeFrame f == i
  | none => true

/-- The response frame that answers a command becomes the current one; it carries the overlap flag, which is then clear again
(R162, R163). Data is carried only with OK (R164). -/
def answer (r : Reply) (code : Byte) : State :=
  let s := r.state
  { s with mgmt := { s.mgmt with
      inHand := none
      overlap := false
      response := ⟨code, r.status, s.mgmt.overlap, if r.status = .ok then r.data else []⟩ } }

/-- The taking of a command (R162): its effects and its answer are one event, and it drives nothing on MISO. That a row taken with an
empty hand, which stands for its frame's arrival too, also leaves the bytes last driven on MISO, and not the low bytes of that frame, is
the model's choice (assumption 7). -/
def take (s : State) (i : Instr) (cmd : State → Reply) : Host.Outcome State Fault Refusal :=
  s.event fun s => if s.inHandIs i then answer (cmd s) i.code else s

/-- The response frame that a read frame returns: the current one, or, while a command is pending, one with that command's code,
status PENDING and no data (R162). Bit 0 of the latter's flags is open (assumption 9). -/
def readResponse (s : State) : ResponseFrame :=
  match s.mgmt.inHand with
  | some f => ⟨(decodeFrame f).code, .pending, Config.pendingOverlap s.mgmt.overlap, []⟩
  | none => s.mgmt.response

end State

/-- COMMAND_FRAME (R162, R163): a received command frame becomes the command in hand; while another is pending it is discarded
and the overlap flag is set. MISO is low throughout. -/
def execCommandFrame (f : CommandFrame) (s : State) : Host.Outcome State Fault Refusal :=
  s.event fun s =>
    let low := List.replicate (f.bytes.length + 1) 0
    match s.mgmt.inHand with
    | some _ => { s with mgmt := { s.mgmt with overlap := true, miso := low } }
    | none => { s with mgmt := { s.mgmt with inHand := some f, miso := low } }

/-- READ_FRAME (R162, R178): MISO is low during byte 0, and the `count` bytes clocked after it return the response frame followed
by zeros. The response frame itself is not changed. -/
def execReadFrame (count : Nat) (s : State) : Host.Outcome State Fault Refusal :=
  s.event fun s =>
    let bytes := s.readResponse.bytes
    { s with mgmt := { s.mgmt with miso := 0 :: (List.range count).map fun k => bytes.getD k 0 } }

/-- MALFORMED_COMMAND (R163): a malformed frame is answered BAD_ARG with the code it carried, and changes nothing else. -/
def execMalformedCommand (code : Byte) (s : State) : Host.Outcome State Fault Refusal :=
  s.take (.malformedCommand code) fun s => s.refuse .badArg

end Sys2Proof.Machine
end

