-- ==== Sys2Proof/Machine/Settings.lean ====
section
/-! DEFINITION. The commands that write settings: ports and requesters (R25, R28), tenants, rate cards and profiles (R95, R105,
R106, R112, R113), timing and marks (R20, R92, R165), the epoch period and the billing ring (R121, R129). -/

namespace Sys2Proof.Machine

/-- A value lies in a range. -/
def within (lo hi v : Nat) : Bool := lo ≤ v && v ≤ hi

/-! ### Ports and requesters -/

namespace State

/-- SET_PORT_MODE's checks and effect (R25). -/
def setPortMode (s : State) (port mode : Nat) : Reply :=
  match toIx 16 port, toMode mode with
  | some p, some m =>
    if s.linkJobOn p then s.refuse .state
    else if m = s.links[p].mode then s.okay
    else (s.changeMode p m).okay
  | _, _ => s.refuse .badArg

/-- The credit that the other fifteen requesters of a port may hold together: for each the larger of its grant and its credit in
force (R28). -/
def othersGrants (s : State) (p : PortIx) (r : ReqId) : Nat :=
  ((List.finRange 16).map fun k =>
    let e := (s.stages[p]).requesters[k]
    if k = r then 0 else max e.grant e.inForce).sum

/-- The requester entry refuses the change for its state (R28): to be ENABLED for a tenant that is not ACTIVE, or, while ENABLED
with requests queued, to be DISABLED or to change its tenant. -/
def requesterBlocked (s : State) (p : PortIx) (r : ReqId) (enable : Bool) (t : TenantIx) : Bool :=
  let e := (s.stages[p]).requesters[r]
  (enable && (s.tenants[t]).state != .active)
    || (e.enabled && !e.queue.isEmpty && (!enable || e.tenant != t))

/-- SET_REQUESTER's checks and effect (R28): the credit in force follows a change of the target (R29, R30). -/
def setRequester (s : State) (port req enable tenant grant : Nat) : Reply :=
  match toIx 16 port, toIx 16 req, toFlag enable, toIx 64 tenant with
  | some p, some r, some en, some t =>
    if t = 0 ∨ 64 < grant ∨ Config.ingressSlots < grant + s.othersGrants p r then s.refuse .badArg
    else if s.requesterBlocked p r en t then s.refuse .state
    else
      let u := s.links[p]
      (s.modRequester p r fun e =>
        ({ e with enabled := en, tenant := t, grant := grant }).follow (e.target u.mode) u.mode u.state).okay
  | _, _, _, _ => s.refuse .badArg

/-! ### Tenants, rate cards, profiles -/

/-- The ceiling that SET_TENANT's arguments give: unexamined when absent, and 1 to 2^47 − 1 when present (R105). -/
def ceilingArg (present ceiling : Nat) : Option (Option Nat) :=
  match toFlag present with
  | some false => some none
  | some true => if within 1 (2 ^ 47 - 1) ceiling then some (some ceiling) else none
  | none => none

/-- SET_TENANT's checks and effect (R105): the settings are written, an UNUSED tenant becomes ACTIVE, the pacer takes the new
profile, cap and floor, and the ceiling is tested. -/
def setTenant (s : State) (tenant card profile ceilingPresent ceiling cap floor : Nat) : Reply :=
  match toIx 64 tenant, toIx 16 card, toIx 4 profile, ceilingArg ceilingPresent ceiling with
  | some t, some c, some f, some limit =>
    if 3 < cap ∨ 3 < floor then s.refuse .badArg
    else if (s.tenants[t]).state = .retiring then s.refuse .state
    else
      (((s.modTenant t fun r => { r with
          state := .active, card := c, profile := f, ceiling := limit, cap := cap, floor := floor }).retune
        t).ceilingAfterSetting t).okay
  | _, _, _, _ => s.refuse .badArg

/-- SET_RATE_CARD's checks and effect (R106). Carry is a flag, 1 for on (assumption 10). -/
def setRateCard (s : State) (card rr wr surcharge rounding carry : Nat) : Reply :=
  match toIx 16 card, toRounding rounding, toFlag carry with
  | some c, some mode, some keep =>
    if 2 ^ 32 ≤ rr ∨ 2 ^ 32 ≤ wr ∨ 256 ≤ surcharge then s.refuse .badArg
    else ({ s with cards := mapAt s.cards c fun _ => ⟨rr, wr, surcharge, mode, keep⟩ } : State).okay
  | _, _, _ => s.refuse .badArg

/-- The pacers that use one profile entry: those of tenants that name the profile and stand at the level (R99). -/
def pacersOn (s : State) (f : Fin 4) (level : Nat) : List TenantIx :=
  indicesWhere 64 fun t => (s.tenants[t]).profile == f && (s.pacers[t]).level == level

/-- SET_PROFILE's checks and effect (R95): pacers that use the entry take the new widths under R99. -/
def setProfile (s : State) (profile level openWidth closedWidth : Nat) : Reply :=
  match toIx 4 profile with
  | some f =>
    if !within 1 3 level ∨ 65535 < openWidth ∨ 65535 < closedWidth then s.refuse .badArg
    else
      let s1 := { s with profiles := mapAt s.profiles f fun p => p.setEntry level ⟨openWidth, closedWidth⟩ }
      ((s1.pacersOn f level).foldl (fun s t => s.resumePacing t) s1).okay
  | none => s.refuse .badArg

/-- ADJUST_TENANT's checks and effect (R112): the pending adjustment takes the amount, to its limits; a saturation sets OS
(R113). -/
def adjustTenant (s : State) (tenant : Nat) (amount : Int) : Reply :=
  match toIx 64 tenant with
  | some t =>
    if !amountOk amount then s.refuse .badArg
    else if (s.tenants[t]).state = .unused then s.refuse .state
    else
      let sum := (s.tenants[t]).adj + amount
      let adj := clampInt (-Config.adjustmentMax) Config.adjustmentMax sum
      let s1 := s.modTenant t fun r => { r with adj := adj }
      (if adj = sum then s1 else s1.markOverflow t).okay
  | none => s.refuse .badArg

/-- CLEAR_STICKY's checks and effect (R113). -/
def clearSticky (s : State) (tenant : Nat) : Reply :=
  match toIx 64 tenant with
  | some t =>
    if (s.tenants[t]).state = .unused then s.refuse .state
    else (s.modTenant t fun r => { r with os := false }).okay
  | none => s.refuse .badArg

/-! ### Timing and marks -/

/-- The ports that SET_TIMING's limit port names: one port, or every port for 16 (R165). -/
def limitPorts (limitPort : Nat) : Option (List PortIx) :=
  if limitPort = 16 then some (List.finRange 16) else (toIx 16 limitPort).map fun p => [p]

/-- SET_TIMING's checks and effect (R165). Timers already running keep their periods. -/
def setTiming (s : State) (retry train completion relief limitPort limit : Nat) : Reply :=
  match limitPorts limitPort with
  | some ports =>
    if within 1 255 retry && within 10 10000 train && within 10 65535 completion && within 10 10000 relief
        && within 1 992 limit then
      let s1 := { s with settings := { s.settings with
        retryTimeout := retry, trainTimeout := train, completionTimeout := completion, reliefInterval := relief } }
      (ports.foldl (fun s p => s.modStage p fun g => { g with ottLimit := limit }) s1).okay
    else s.refuse .badArg
  | none => s.refuse .badArg

/-- SET_MARKS' checks and effect (R20, R92): a recover mark at or above the weak mark is stored as the weak mark less 1, and every
link's health state is tested. -/
def setMarks (s : State) (weak recover backlog latency share : Nat) : Reply :=
  if within 2 1023 weak && within 1 1023 recover && within 1 256 backlog && within 1 65535 latency
      && within 1 256 share then
    let s1 := { s with settings := { s.settings with
      weakMark := weak
      recoverMark := if weak ≤ recover then weak - 1 else recover
      backlogMark := backlog
      latencyMark := latency
      share := share } }
    ((List.finRange 16).foldl (fun s p => s.testHealth p) s1).okay
  else s.refuse .badArg

/-! ### Epoch period and billing ring -/

/-- SET_EPOCH's check and effect (R121): the timer restarts with the new period, or stops, and the late count becomes 0. -/
def setEpoch (s : State) (period : Nat) : Reply :=
  if 65535 < period then s.refuse .badArg
  else
    ({ s with closer := { s.closer with
        period := period
        timer := if period = 0 then none else some (s.timer (epochMicros period))
        lateCount := 0 } } : State).okay

/-- The number of record slots is a power of two from 16 to 65,536 (R129). -/
def ringSizeOk (n : Nat) : Bool := (List.range 13).any fun k => n == 2 ^ (k + 4)

/-- A location is a multiple of 4 within the 52-bit byte addresses (R129). -/
def locationOk (a : Nat) : Bool := a % 4 == 0 && decide (a < 2 ^ 52)

/-- SET_BILLING_RING's checks and effect (R129): P and C become 0, the watch list empties, and the writer makes an index write of
P = 0. -/
def setBillingRing (s : State) (base n producer consumer : Nat) : Reply :=
  if base % 64 = 0 ∧ ringSizeOk n ∧ base + n * 64 ≤ 2 ^ 52 ∧ locationOk producer ∧ locationOk consumer then
    if s.ring.configured ∧ (s.ring.writer ≠ .idle ∨ s.holdList ≠ []) then s.refuse .busy
    else
      (({ s with ring := { s.ring with
          configured := true
          base := BitVec.ofNat 52 base
          slots := n
          producerLoc := BitVec.ofNat 52 producer
          consumerLoc := BitVec.ofNat 52 consumer
          prod := 0
          cons := 0
          watch := [] } } : State).issueIndex).okay
  else s.refuse .badArg

end State

/-! ### Meanings -/

/-- SET_PORT_MODE (R25, R26). -/
def execSetPortMode (port mode : Nat) (s : State) : Host.Outcome State Fault Refusal :=
  s.take (.setPortMode port mode) fun s => s.setPortMode port mode

/-- SET_REQUESTER (R28). -/
def execSetRequester (port req enable tenant grant : Nat) (s : State) : Host.Outcome State Fault Refusal :=
  s.take (.setRequester port req enable tenant grant) fun s => s.setRequester port req enable tenant grant

/-- SET_TENANT (R105). -/
def execSetTenant (tenant card profile ceilingPresent ceiling cap floor : Nat) (s : State) :
    Host.Outcome State Fault Refusal :=
  s.take (.setTenant tenant card profile ceilingPresent ceiling cap floor) fun s =>
    s.setTenant tenant card profile ceilingPresent ceiling cap floor

/-- SET_RATE_CARD (R106). -/
def execSetRateCard (card rr wr surcharge rounding carry : Nat) (s : State) : Host.Outcome State Fault Refusal :=
  s.take (.setRateCard card rr wr surcharge rounding carry) fun s => s.setRateCard card rr wr surcharge rounding carry

/-- SET_PROFILE (R95). -/
def execSetProfile (profile level openWidth closedWidth : Nat) (s : State) : Host.Outcome State Fault Refusal :=
  s.take (.setProfile profile level openWidth closedWidth) fun s => s.setProfile profile level openWidth closedWidth

/-- SET_TIMING (R165). -/
def execSetTiming (retry train completion relief limitPort limit : Nat) (s : State) :
    Host.Outcome State Fault Refusal :=
  s.take (.setTiming retry train completion relief limitPort limit) fun s =>
    s.setTiming retry train completion relief limitPort limit

/-- SET_MARKS (R20, R92). -/
def execSetMarks (weak recover backlog latency share : Nat) (s : State) : Host.Outcome State Fault Refusal :=
  s.take (.setMarks weak recover backlog latency share) fun s => s.setMarks weak recover backlog latency share

/-- SET_EPOCH (R121). -/
def execSetEpoch (period : Nat) (s : State) : Host.Outcome State Fault Refusal :=
  s.take (.setEpoch period) fun s => s.setEpoch period

/-- SET_BILLING_RING (R129). -/
def execSetBillingRing (base n producer consumer : Nat) (s : State) : Host.Outcome State Fault Refusal :=
  s.take (.setBillingRing base n producer consumer) fun s => s.setBillingRing base n producer consumer

/-- ADJUST_TENANT (R112). -/
def execAdjustTenant (tenant : Nat) (amount : Int) (s : State) : Host.Outcome State Fault Refusal :=
  s.take (.adjustTenant tenant amount) fun s => s.adjustTenant tenant amount

/-- CLEAR_STICKY (R113). -/
def execClearSticky (tenant : Nat) (s : State) : Host.Outcome State Fault Refusal :=
  s.take (.clearSticky tenant) fun s => s.clearSticky tenant

end Sys2Proof.Machine
end

