-- ==== Sys2Proof/Machine/Control.lean ====
section
/-! DEFINITION. The commands that write windows (R45 to R49), start and end jobs (R123, R126, R144, R149, R158), reset links
(R146), and act on causes and ALERT (R171 to R173). -/

namespace Sys2Proof.Machine

namespace State

/-! ### Windows -/

/-- SET_WINDOW's clear form (R46): the window returns to its power-on state. -/
def clearWindow (s : State) (window : Nat) : Reply :=
  match toIx 256 window with
  | some w =>
    let win := s.windows[w]
    if win.enabled ∨ 0 < win.outstanding then s.refuse .state else (s.modWindow w fun _ => .reset).okay
  | none => s.refuse .badArg

/-- A leg as SET_WINDOW's arguments give it, when they lie in their ranges (R45). -/
def legArg (port base id length : Nat) : Option WindowLeg :=
  match toIx 16 port, toIx 16 id with
  | some p, some r => if base + length ≤ 2 ^ 31 then some ⟨p, base, r, .inService⟩ else none
  | _, _ => none

/-- The mirror leg as SET_WINDOW's arguments give it: its fields are read only when mirror present is set, and an absent mirror
holds 0 in them (assumption 24). -/
def mirrorArg (present port base id length : Nat) : Option WindowLeg :=
  match toFlag present with
  | some true => legArg port base id length
  | some false => some ⟨0, 0, 0, .absent⟩
  | none => none

/-- Another window for which `f` holds overlaps a range of a tenant (R47). -/
def overlapsOther (s : State) (w : WindowIx) (t : TenantIx) (base length : Nat) (f : Window → Bool) : Bool :=
  (List.finRange 256).any fun v =>
    let win := s.windows[v]
    v != w && f win && win.tenant == t && rangesOverlap base length win.base win.length

/-- SET_WINDOW's checks and effect (R45): the window is written, configured and DISABLED, with both copies declared current. -/
def setWindow (s : State) (window tenant base length access primaryPort primaryBase primaryId mirrorPresent mirrorPort
    mirrorBase mirrorId : Nat) : Reply :=
  match toIx 256 window, toIx 64 tenant, toAccess access, legArg primaryPort primaryBase primaryId length,
    mirrorArg mirrorPresent mirrorPort mirrorBase mirrorId length with
  | some w, some t, some a, some primary, some mirror =>
    let win := s.windows[w]
    if 2 ^ 24 < length ∨ 2 ^ 31 < base + length then s.refuse .badArg
    else if win.enabled ∨ 0 < win.outstanding ∨ (s.tenants[t]).state ≠ .active then s.refuse .state
    else if s.overlapsOther w t base length fun v => v.configured then s.refuse .conflict
    else
      (s.modWindow w fun win => { win with
        configured := true
        enabled := false
        tenant := t
        base := base
        length := length
        access := a
        primary := primary
        mirror := mirror }).okay
  | _, _, _, _, _ => s.refuse .badArg

/-- A leg of a window is fit for ENABLE_WINDOW: if it is IN_SERVICE, its port is MEMORY or TRUNK and its link neither DOWN nor
FAILED (R48). -/
def legUsable (s : State) (l : WindowLeg) : Bool :=
  l.state != .inService
    || (carriesLegs s.links[l.port].mode && s.links[l.port].state != .down && s.links[l.port].state != .failed)

/-- A DISABLED window passes ENABLE_WINDOW's first check (R48). -/
def windowReady (s : State) (w : WindowIx) : Bool :=
  let win := s.windows[w]
  win.configured && (s.tenants[win.tenant]).state == .active
    && (win.primary.state == .inService || win.mirror.state == .inService)
    && s.legUsable win.primary && s.legUsable win.mirror

/-- ENABLE_WINDOW's checks and effect (R48). -/
def enableWindow (s : State) (window : Nat) : Reply :=
  match toIx 256 window with
  | some w =>
    let win := s.windows[w]
    if win.enabled then s.okay
    else if !s.windowReady w then s.refuse .state
    else if s.overlapsOther w win.tenant win.base win.length fun v => v.enabled then s.refuse .conflict
    else (s.modWindow w fun win => { win with enabled := true }).okay
  | none => s.refuse .badArg

/-- DISABLE_WINDOW's checks and effect (R49). -/
def disableWindow (s : State) (window : Nat) : Reply :=
  match toIx 256 window with
  | some w =>
    if s.copy.state ≠ .idle ∧ s.copy.window = some w then s.refuse .state
    else (s.modWindow w fun win => { win with enabled := false }).okay
  | none => s.refuse .badArg

/-! ### Jobs and link resets -/

/-- CLOSE_EPOCH's check and effect (R123): a FULL walk with the walk job set. -/
def closeEpoch (s : State) : Reply :=
  if s.closer.state = .idle then ((s.startJob .close).startFullWalk true).okay else s.refuse .busy

/-- A tenant is named by a configured window or an ENABLED requester entry, or has legs in flight (R126). -/
def tenantInUse (s : State) (t : TenantIx) : Bool :=
  s.windows.toList.any (fun w => w.configured && w.tenant == t)
    || s.stages.toList.any (fun g => g.requesters.toList.any fun e => e.enabled && e.tenant == t)
    || (s.contrib[t]).toList.any fun c => decide (0 < c.inFlight)

/-- REMOVE_TENANT's checks and effect (R126): the tenant becomes RETIRING and a RETIRE walk starts for it. -/
def removeTenant (s : State) (tenant : Nat) : Reply :=
  match toIx 64 tenant with
  | some t =>
    if t = 0 then s.refuse .badArg
    else if s.closer.state ≠ .idle then s.refuse .busy
    else if (s.tenants[t]).state ≠ .active then s.refuse .state
    else if s.tenantInUse t then s.refuse .conflict
    else (((s.modTenant t fun r => { r with state := .retiring }).startJob .close).startRetireWalk t).okay
  | none => s.refuse .badArg

/-- RESTORE_LINK's checks and effect (R144): the LINK job starts with its deadline of three train timeouts, and the port undergoes a
link reset. -/
def restoreLink (s : State) (port : Nat) : Reply :=
  match toIx 16 port with
  | some p =>
    if s.jobs.link.state = .active then s.refuse .busy
    else if s.links[p].mode = .off then s.refuse .state
    else
      let s1 := s.startJob .link
      (({ s1 with jobs := { s1.jobs with
          linkPort := p
          deadline := some (s.timer (Config.restoreFactor * s.settings.trainTimeout)) } } : State).linkReset p).okay
  | none => s.refuse .badArg

/-- LINK_RESET's checks and effect (R146). -/
def linkResetCommand (s : State) (port : Nat) : Reply :=
  match toIx 16 port with
  | some p => if s.linkJobOn p then s.refuse .state else (s.linkReset p).okay
  | none => s.refuse .badArg

/-- The leg of a window that a rebuild would rewrite: the LOST one, when the other is IN_SERVICE (R149). -/
def rebuildSide (win : Window) : Option Side :=
  match win.primary.state, win.mirror.state with
  | .inService, .lost => some .mirror
  | .lost, .inService => some .primary
  | _, _ => none

/-- A port is queued for or undergoing a failover sweep (R149). -/
def awaitsSweep (s : State) (p : PortIx) : Bool := s.sweep.port == some p || s.sweep.queue.contains p

/-- The copy engine starts COPYING for a window with one leg as the rebuilding leg, and its slots fill (R149, R150). -/
def beginRebuild (s : State) (w : WindowIx) (side : Side) : State :=
  let win := s.windows[w]
  (({ s with copy :=
      { state := .copying
        window := some w
        rebuilding := side
        firstLine := win.firstLine
        endLine := win.endLine
        cursor := win.firstLine
        frontier := win.firstLine
        redoTotal := 0
        reason := .none
        slots := Vector.replicate 4 .freed } } : State).setLeg w side .rebuilding).fillSlots

/-- START_REBUILD's checks and effect (R149). -/
def startRebuild (s : State) (window : Nat) : Reply :=
  match toIx 256 window with
  | some w =>
    if s.jobs.rebuild.state = .active then s.refuse .busy
    else
      let win := s.windows[w]
      match rebuildSide win with
      | some side =>
        let port := (win.leg side).port
        if win.enabled && carriesLegs s.links[port].mode && s.links[port].state == .active && !s.awaitsSweep port then
          ((s.startJob .rebuild).beginRebuild w side).okay
        else s.refuse .state
      | none => s.refuse .state
  | none => s.refuse .badArg

/-- ABORT_REBUILD's checks and effect (R158). -/
def abortRebuild (s : State) : Reply :=
  match s.copy.state with
  | .idle => s.refuse .state
  | .draining => s.okay
  | .copying => (s.failRebuild .aborted).okay

/-! ### Causes and ALERT -/

/-- The pending cause of the lowest number (R171). -/
def firstCause (s : State) : Option (Fin 14) := (List.finRange 14).find? fun c => (s.causes.entries[c]).pending

/-- The causes pending, as a mask in which bit n − 1 stands for cause n (R171, R178). -/
def causeMask (s : State) : Nat :=
  ((List.finRange 14).map fun c => if (s.causes.entries[c]).pending then 2 ^ c.1 else 0).sum

/-- The cause entry changes. -/
def modCause (s : State) (c : Fin 14) (f : CauseEntry → CauseEntry) : State :=
  { s with causes := { s.causes with entries := mapAt s.causes.entries c f } }

/-- READ_CAUSE's effect (R171): the highest pending cause is returned and cleared, with the mask of those still pending. -/
def readCause (s : State) : Reply :=
  match s.firstCause with
  | some c =>
    let s1 := s.modCause c fun e => { e with pending := false, detail := 0 }
    s1.returns (beBytes 1 (c.1 + 1) ++ beBytes 2 (s.causes.entries[c]).detail.toNat ++ beBytes 2 s1.causeMask)
  | none => s.returns (beBytes 1 0 ++ beBytes 2 0 ++ beBytes 2 0)

/-- SET_CAUSE_ENABLE's and CLEAR_CAUSE_ENABLE's check and effect (R172). -/
def writeCauseEnable (s : State) (cause : Nat) (on : Bool) : Reply :=
  match toIx 14 (cause - 1) with
  | some c => if cause = 0 then s.refuse .badArg else (s.modCause c fun e => { e with enabled := on }).okay
  | none => s.refuse .badArg

/-- HOLD_ALERT's check and effect (R173). -/
def holdAlert (s : State) : Reply :=
  if s.causes.holdDepth < Config.holdDepthMax then
    ({ s with causes := { s.causes with holdDepth := s.causes.holdDepth + 1 } } : State).okay
  else s.refuse .state

/-- RELEASE_ALERT's effect (R173). -/
def releaseAlert (s : State) : Reply :=
  ({ s with causes := { s.causes with holdDepth := s.causes.holdDepth - 1 } } : State).okay

end State

/-! ### Meanings -/

/-- REMOVE_TENANT (R126). -/
def execRemoveTenant (tenant : Nat) (s : State) : Host.Outcome State Fault Refusal :=
  s.take (.removeTenant tenant) fun s => s.removeTenant tenant

/-- SET_WINDOW (R45); a length of 0 makes it the clear form (R46). -/
def execSetWindow (window tenant base length access primaryPort primaryBase primaryId mirrorPresent mirrorPort mirrorBase
    mirrorId : Nat) (s : State) : Host.Outcome State Fault Refusal :=
  s.take (.setWindow window tenant base length access primaryPort primaryBase primaryId mirrorPresent mirrorPort mirrorBase
      mirrorId) fun s =>
    if length = 0 then s.clearWindow window
    else s.setWindow window tenant base length access primaryPort primaryBase primaryId mirrorPresent mirrorPort mirrorBase
      mirrorId

/-- SET_WINDOW, clear form (R46). -/
def execSetWindowClear (window : Nat) (s : State) : Host.Outcome State Fault Refusal :=
  s.take (.setWindowClear window) fun s => s.clearWindow window

/-- ENABLE_WINDOW (R48). -/
def execEnableWindow (window : Nat) (s : State) : Host.Outcome State Fault Refusal :=
  s.take (.enableWindow window) fun s => s.enableWindow window

/-- DISABLE_WINDOW (R49). -/
def execDisableWindow (window : Nat) (s : State) : Host.Outcome State Fault Refusal :=
  s.take (.disableWindow window) fun s => s.disableWindow window

/-- CLOSE_EPOCH (R123). -/
def execCloseEpoch (s : State) : Host.Outcome State Fault Refusal := s.take .closeEpoch fun s => s.closeEpoch

/-- RESTORE_LINK (R144). -/
def execRestoreLink (port : Nat) (s : State) : Host.Outcome State Fault Refusal :=
  s.take (.restoreLink port) fun s => s.restoreLink port

/-- LINK_RESET (R146). -/
def execLinkReset (port : Nat) (s : State) : Host.Outcome State Fault Refusal :=
  s.take (.linkReset port) fun s => s.linkResetCommand port

/-- START_REBUILD (R149). -/
def execStartRebuild (window : Nat) (s : State) : Host.Outcome State Fault Refusal :=
  s.take (.startRebuild window) fun s => s.startRebuild window

/-- ABORT_REBUILD (R158). -/
def execAbortRebuild (s : State) : Host.Outcome State Fault Refusal := s.take .abortRebuild fun s => s.abortRebuild

/-- READ_CAUSE (R171). -/
def execReadCause (s : State) : Host.Outcome State Fault Refusal := s.take .readCause fun s => s.readCause

/-- SET_CAUSE_ENABLE (R172). -/
def execSetCauseEnable (cause : Nat) (s : State) : Host.Outcome State Fault Refusal :=
  s.take (.setCauseEnable cause) fun s => s.writeCauseEnable cause true

/-- CLEAR_CAUSE_ENABLE (R172). -/
def execClearCauseEnable (cause : Nat) (s : State) : Host.Outcome State Fault Refusal :=
  s.take (.clearCauseEnable cause) fun s => s.writeCauseEnable cause false

/-- HOLD_ALERT (R173). -/
def execHoldAlert (s : State) : Host.Outcome State Fault Refusal := s.take .holdAlert fun s => s.holdAlert

/-- RELEASE_ALERT (R173). -/
def execReleaseAlert (s : State) : Host.Outcome State Fault Refusal := s.take .releaseAlert fun s => s.releaseAlert

end Sys2Proof.Machine
end

