-- ==== Sys2Proof/Machine/Reads.lean ====
section
/-! DEFINITION. The reading commands (R28, R50, R95, R101, R106, R119, R135, R160, R166, R168) and the data they return, each
field in the order its rule lists it and in the encoding of R178 (assumption 10). -/

namespace Sys2Proof.Machine

/-- A field that may be absent: a presence byte followed by the field at its full width; both are 0 when it is absent
(R178). -/
def optBytes (width : Nat) : Option Nat → List Byte
  | some v => 1 :: beBytes width v
  | none => List.replicate (width + 1) 0

/-- A flag's byte (R178). -/
def flagByte (b : Bool) : List Byte := beBytes 1 (flagCode b)

/-- The time a timer has left, or a stopped timer, in six bytes (R178). -/
def timeLeft (t : Option Timer) (now : Time) : List Byte := optBytes 6 (t.map fun t => t.remaining now)

namespace State

/-! ### Ports and links -/

/-- The sweep's view of a port (R147): bit 0 while the port is queued, with its place, and bit 1 while it is being swept, with the
sweep position. -/
def sweepView (s : State) (p : PortIx) : List Byte :=
  let queued := s.sweep.queue.contains p
  let swept := s.sweep.port == some p
  beBytes 1 (flagCode queued + 2 * flagCode swept) ++ beBytes 1 (if queued then s.sweep.queue.idxOf p else 0)
    ++ beBytes 2 (if swept then s.sweep.position.1 else 0)

/-- The requests in a port's ingress stage. -/
def queuedTotal (s : State) (p : PortIx) : Nat := ((s.stages[p]).requesters.toList.map fun e => e.queue.length).sum

/-- READ_PORT (R166, R147). -/
def readPort (s : State) (port : Nat) : Reply :=
  match toIx 16 port with
  | some p =>
    let u := s.links[p]
    let g := s.stages[p]
    s.returns (beBytes 1 (modeCode u.mode) ++ beBytes 1 (linkStateCode u.state) ++ beBytes 1 (s.queuedTotal p)
      ++ beBytes 1 g.lastDispatched.1 ++ beBytes 2 g.ottCount ++ beBytes 2 g.ottLimit ++ beBytes 2 s.ott.serverCount
      ++ beBytes 1 s.ott.fabricCount ++ beBytes 2 s.settings.completionTimeout ++ beBytes 2 s.settings.reliefInterval
      ++ s.sweepView p)
  | none => s.refuse .badArg

/-- The counters of Table 1-4, in its order. -/
def counterBytes (c : LinkCounters) : List Byte :=
  [c.crcDiscards, c.seqDiscards, c.overruns, c.replays, c.replayExpiries, c.retrains, c.failures, c.lateResponses].flatMap
    (beBytes 4)

/-- READ_LINK (R166). -/
def readLink (s : State) (port : Nat) : Reply :=
  match toIx 16 port with
  | some p =>
    let u := s.links[p]
    s.returns (beBytes 1 (modeCode u.mode) ++ beBytes 1 (linkStateCode u.state) ++ [u.sendSeq, u.expSeq]
      ++ beBytes 1 u.retry.length ++ beBytes 1 u.replayCount ++ beBytes 1 u.ackOwed ++ flagByte u.replayPos.isSome
      ++ optBytes 1 u.attempt ++ optBytes 1 (u.partnerMode.map modeCode)
      ++ ((List.finRange 16).flatMap fun r => beBytes 2 u.sendCredit[r] ++ beBytes 1 u.recvCredit[r])
      ++ beBytes 2 u.health ++ beBytes 1 (healthCode u.healthState) ++ counterBytes u.counters
      ++ beBytes 1 s.settings.retryTimeout ++ beBytes 2 s.settings.trainTimeout ++ beBytes 2 s.settings.weakMark
      ++ beBytes 2 s.settings.recoverMark)
  | none => s.refuse .badArg

/-- READ_REQUESTER (R28): every field of Table 2-2 and the requester's receive credit. -/
def readRequester (s : State) (port req : Nat) : Reply :=
  match toIx 16 port, toIx 16 req with
  | some p, some r =>
    let e := (s.stages[p]).requesters[r]
    s.returns (flagByte e.enabled ++ beBytes 1 e.tenant.1 ++ beBytes 1 e.grant ++ beBytes 1 e.inForce ++ beBytes 1 e.owed
      ++ beBytes 1 e.queue.length ++ beBytes 1 (s.links[p].recvCredit)[r])
  | _, _ => s.refuse .badArg

/-! ### Windows -/

/-- A leg's fields, in the order of Table 3-1. An absent mirror is sent as the fields stored for it with leg state ABSENT: R178 puts a
presence byte before a field that may be absent, Table 3-1 says that absent shows as leg state ABSENT, and that the mirror's port, target
base and trunk requester id then have no presence byte is the model's choice (DESIGN CHOICE, assumption 10; their values:
assumption 24). -/
def legBytes (l : WindowLeg) : List Byte :=
  beBytes 1 l.port.1 ++ beBytes 4 l.base ++ beBytes 1 l.trunkId.1 ++ beBytes 1 (legStateCode l.state)

/-- READ_WINDOW (R50). Configured is a flag, 1 for yes, and the mirror's fields have no presence byte (assumption 10). -/
def readWindow (s : State) (window : Nat) : Reply :=
  match toIx 256 window with
  | some w =>
    let win := s.windows[w]
    s.returns (flagByte win.configured ++ flagByte win.enabled ++ beBytes 1 win.tenant.1 ++ beBytes 4 win.base
      ++ beBytes 4 win.length ++ beBytes 1 (accessCode win.access) ++ legBytes win.primary ++ legBytes win.mirror
      ++ beBytes 2 win.outstanding ++ beBytes 1 (conditionCode win.condition))
  | none => s.refuse .badArg

/-! ### Tenants, cards, profiles, congestion -/

/-- READ_TENANT (R119, R101): the accumulator in 96 bits, J and B in 48 bits, two's complement. -/
def readTenant (s : State) (tenant : Nat) : Reply :=
  match toIx 64 tenant with
  | some t =>
    let r := s.tenants[t]
    let p := s.pacers[t]
    s.returns (beBytes 1 (tenantStateCode r.state) ++ beBytes 1 r.card.1 ++ beBytes 1 r.profile.1 ++ optBytes 6 r.ceiling
      ++ beBytes 1 r.cap ++ beBytes 1 r.floor ++ beBytes 4 r.epoch.toNat ++ beBytes 5 r.rl ++ beBytes 5 r.wl
      ++ beBytes 5 r.rlc ++ beBytes 5 r.wlc ++ flagByte r.msat ++ beBytes 2 r.nr ++ beBytes 2 r.dn
      ++ beBytes 12 (twos 96 r.acc) ++ beBytes 6 (twos 48 r.adj) ++ beBytes 6 (twos 48 r.balance) ++ flagByte r.os
      ++ flagByte r.capped ++ flagByte r.cappedInEpoch ++ beBytes 1 r.highest
      ++ beBytes 1 (s.congestionLevel t) ++ beBytes 1 p.level ++ beBytes 1 (phaseCode p.phase) ++ timeLeft p.timer s.time)
  | none => s.refuse .badArg

/-- READ_RATE_CARD (R106). Carry is a flag, 1 for on (assumption 10). -/
def readRateCard (s : State) (card : Nat) : Reply :=
  match toIx 16 card with
  | some c =>
    let k := s.cards[c]
    s.returns (beBytes 4 k.rr ++ beBytes 4 k.wr ++ beBytes 1 k.surcharge ++ beBytes 1 (roundingCode k.rounding)
      ++ flagByte k.carry)
  | none => s.refuse .badArg

/-- READ_PROFILE (R95): the six widths of a profile, open before closed, level 1 first. -/
def readProfile (s : State) (profile : Nat) : Reply :=
  match toIx 4 profile with
  | some f =>
    s.returns ([(s.profiles[f]).level1, (s.profiles[f]).level2, (s.profiles[f]).level3].flatMap fun w =>
      beBytes 2 w.openUs ++ beBytes 2 w.closedUs)
  | none => s.refuse .badArg

/-- The age of an outstanding sample (R89, R101). -/
def sampleAge (s : State) (p : PortIx) : Option Nat :=
  let m := s.monitors[p]
  if m.sample = .outstanding then some (s.time - m.sampleStart).toNat else none

/-- READ_CONGESTION (R101). -/
def readCongestion (s : State) (port tenant : Nat) : Reply :=
  match toIx 16 port, toIx 64 tenant with
  | some p, some t =>
    let m := s.monitors[p]
    let c := (s.contrib[t])[p]
    s.returns (beBytes 1 (portStateCode m.portState) ++ beBytes 2 m.inFlight ++ beBytes 2 (s.backlog p)
      ++ beBytes 1 (sampleCode m.sample) ++ optBytes 6 (s.sampleAge p) ++ optBytes 2 m.lastSample ++ flagByte m.fresh
      ++ beBytes 2 c.inFlight ++ beBytes 1 c.level)
  | _, _ => s.refuse .badArg

/-! ### Closer, ring, jobs, time -/

/-- The closer's state, walk kind, walk position and records built (R135, R168). -/
def closerBytes (s : State) : List Byte :=
  beBytes 1 (closerCode s.closer.state) ++ beBytes 1 (walkKindCode s.closer.kind) ++ beBytes 1 s.closer.position.1
    ++ beBytes 1 s.closer.built

/-- READ_RING (R135). Configured is a flag, 1 for a configured ring (assumption 10). -/
def readRing (s : State) : Reply :=
  let r := s.ring
  s.returns (flagByte r.configured ++ beBytes 7 r.base.toNat ++ beBytes 3 r.slots ++ beBytes 7 r.producerLoc.toNat
    ++ beBytes 7 r.consumerLoc.toNat ++ beBytes 4 r.prod.toNat ++ beBytes 4 r.cons.toNat ++ beBytes 1 (writerCode r.writer)
    ++ optBytes 1 (r.stalled.map ringWriteCode) ++ beBytes 1 s.holdList.length
    ++ optBytes 1 (s.holdList.head?.map fun b => b.tenant.1) ++ optBytes 4 (s.holdList.head?.map fun b => b.epoch.toNat)
    ++ s.closerBytes ++ flagByte s.closer.pendingFlag ++ beBytes 2 s.closer.lateCount ++ beBytes 2 s.closer.period
    ++ timeLeft s.closer.timer s.time)

/-- READ_TIME (R166). -/
def readTime (s : State) : Reply := s.returns (beBytes 6 s.time.toNat)

/-- A job slot's state and result, the result in four bytes (R178). -/
def jobBytes (j : Job) : List Byte := beBytes 1 (jobStateCode j.state) ++ beBytes 4 j.result

/-- A copy slot's values (R160); its line is there while it is not FREE (Table 9-2). -/
def slotBytes (k : CopySlot) : List Byte :=
  beBytes 1 (slotStateCode k.state) ++ optBytes 6 (if k.state = .free then none else some k.line) ++ flagByte k.sent
    ++ flagByte k.redo ++ beBytes 1 k.redoCount ++ flagByte k.pinned

/-- The copy engine's values (R160). -/
def engineBytes (s : State) : List Byte :=
  let c := s.copy
  beBytes 1 (engineCode c.state) ++ optBytes 1 (c.window.map fun w => w.1) ++ beBytes 1 (sideCode c.rebuilding)
    ++ beBytes 1 (sideCode (otherSide c.rebuilding)) ++ beBytes 6 c.firstLine ++ beBytes 6 c.endLine ++ beBytes 6 c.cursor
    ++ beBytes 6 c.frontier ++ beBytes 5 (c.cursor - c.firstLine) ++ beBytes 4 c.redoTotal
    ++ beBytes 1 (reasonCode c.reason) ++ c.slots.toList.flatMap slotBytes

/-- READ_JOB (R168, R160). -/
def readJob (s : State) (slot : Nat) : Reply :=
  match slot with
  | 0 => s.returns (jobBytes s.jobs.close ++ s.closerBytes)
  | 1 => s.returns (jobBytes s.jobs.link ++ beBytes 1 s.jobs.linkPort.1)
  | 2 => s.returns (jobBytes s.jobs.rebuild ++ s.engineBytes)
  | _ => s.refuse .badArg

end State

/-! ### Meanings -/

/-- READ_PORT (R166, R147). -/
def execReadPort (port : Nat) (s : State) : Host.Outcome State Fault Refusal :=
  s.take (.readPort port) fun s => s.readPort port

/-- READ_LINK (R166). -/
def execReadLink (port : Nat) (s : State) : Host.Outcome State Fault Refusal :=
  s.take (.readLink port) fun s => s.readLink port

/-- READ_REQUESTER (R28). -/
def execReadRequester (port req : Nat) (s : State) : Host.Outcome State Fault Refusal :=
  s.take (.readRequester port req) fun s => s.readRequester port req

/-- READ_WINDOW (R50). -/
def execReadWindow (window : Nat) (s : State) : Host.Outcome State Fault Refusal :=
  s.take (.readWindow window) fun s => s.readWindow window

/-- READ_TENANT (R119, R101). -/
def execReadTenant (tenant : Nat) (s : State) : Host.Outcome State Fault Refusal :=
  s.take (.readTenant tenant) fun s => s.readTenant tenant

/-- READ_RATE_CARD (R106). -/
def execReadRateCard (card : Nat) (s : State) : Host.Outcome State Fault Refusal :=
  s.take (.readRateCard card) fun s => s.readRateCard card

/-- READ_PROFILE (R95). -/
def execReadProfile (profile : Nat) (s : State) : Host.Outcome State Fault Refusal :=
  s.take (.readProfile profile) fun s => s.readProfile profile

/-- READ_CONGESTION (R101). -/
def execReadCongestion (port tenant : Nat) (s : State) : Host.Outcome State Fault Refusal :=
  s.take (.readCongestion port tenant) fun s => s.readCongestion port tenant

/-- READ_RING (R135). -/
def execReadRing (s : State) : Host.Outcome State Fault Refusal := s.take .readRing fun s => s.readRing

/-- READ_TIME (R166). -/
def execReadTime (s : State) : Host.Outcome State Fault Refusal := s.take .readTime fun s => s.readTime

/-- READ_JOB (R168). -/
def execReadJob (slot : Nat) (s : State) : Host.Outcome State Fault Refusal :=
  s.take (.readJob slot) fun s => s.readJob slot

end Sys2Proof.Machine
end

