-- ==== Sys2Proof/Machine/Reset.lean ====
section
/-! DEFINITION. The RESET pin and the time base (R169, R174). -/

namespace Sys2Proof.Machine

/-- POWER_ON_RESET (R174): RESET is asserted, or power comes up; every block is at its power-on values whatever state the part
was in. The waiting commands stay queued. -/
def execPowerOnReset (s : State) : Host.Outcome State Fault Refusal := .next { State.held with pending := s.pending }

/-- RESET_RELEASE (R174, R23): every block holds its power-on values, fabric time counts from 0, and every link unit enters fresh
training in LISTEN mode. While RESET is not asserted there is nothing to release. -/
def execResetRelease (s : State) : Host.Outcome State Fault Refusal :=
  .next (if s.resetAsserted then { State.reset with pending := s.pending } else s)

/-! ### The tick of fabric time (R169) -/

/-- The expiries that fabric time brings, each with the unit whose timer or deadline it is: the timers that R169 names, and the completion
timeout of a leg. -/
inductive Expiry where
  | replay (p : PortIx)
  | train (p : PortIx)
  | decay (p : PortIx)
  | completion (i : OttIx) (side : Side)
  | relief (p : PortIx)
  | phase (t : TenantIx)
  | epoch
  | ringRetry
  | deadline
deriving DecidableEq, Repr

/-- The row of the table that takes an expiry. -/
def Expiry.row : Expiry → Instr
  | .replay p => .replayTimerExpiry p
  | .train p => .trainTimerExpiry p
  | .decay p => .decayTimerExpiry p
  | .completion i side => .completionTimeout i side
  | .relief p => .reliefTimerExpiry p
  | .phase t => .phaseEnd t
  | .epoch => .epochTimerExpiry
  | .ringRetry => .ringRetryTimerExpiry
  | .deadline => .restoreLinkDeadline

/-- The meaning of an expiry's row. -/
def Expiry.meaning (x : Expiry) (s : State) : Host.Outcome State Fault Refusal :=
  match x with
  | .replay p => execReplayTimerExpiry p s
  | .train p => execTrainTimerExpiry p s
  | .decay p => execDecayTimerExpiry p s
  | .completion i side => execCompletionTimeout i side s
  | .relief p => execReliefTimerExpiry p s
  | .phase t => execPhaseEnd t s
  | .epoch => execEpochTimerExpiry s
  | .ringRetry => execRingRetryTimerExpiry s
  | .deadline => execRestoreLinkDeadline s

/-- A leg that is SENT or WAITING has reached its deadline (R77). -/
def OttLeg.expiring (l : OttLeg) (now : Time) : Bool :=
  (l.progress == .sent || l.progress == .waiting) && l.timedOut now

/-- An expiry has come, and its row has not been taken yet. -/
def Expiry.due (x : Expiry) (s : State) : Bool :=
  match x with
  | .replay p => timerDue s.links[p].replayTimer s.time
  | .train p => timerDue s.links[p].trainTimer s.time
  | .decay p => s.links[p].decayTimer.due s.time
  | .completion i side => ((s.ott.entries[i]).leg side).expiring s.time
  | .relief p => (s.monitors[p]).reliefTimer.due s.time
  | .phase t => timerDue (s.pacers[t]).timer s.time
  | .epoch => timerDue s.closer.timer s.time
  | .ringRetry => timerDue s.ring.retryTimer s.time
  | .deadline => s.jobs.link.state == .active && timerDue s.jobs.deadline s.time

namespace State

/-- The completion timeouts that are due, in ascending order of OTT index, the primary leg's first. -/
def dueTimeouts (s : State) : List Expiry :=
  ((List.finRange 1024).zip s.ott.entries.toList).flatMap fun e =>
    (bothSides.filter fun x => (e.2.leg x).expiring s.time).map (.completion e.1)

/-- The expiries that are due, in the order in which a tick takes those that are left to it: by kind, in ascending order of the unit
(assumption 4). -/
def dueExpiries (s : State) : List Expiry :=
  let due := fun (l : List Expiry) => l.filter fun x => x.due s
  due ((List.finRange 16).map .replay) ++ due ((List.finRange 16).map .train) ++ due ((List.finRange 16).map .decay)
    ++ s.dueTimeouts ++ due ((List.finRange 16).map .relief) ++ due ((List.finRange 64).map .phase)
    ++ due [.epoch, .ringRetry, .deadline]

/-- The state after an expiry's row. -/
def takeExpiry (s : State) (x : Expiry) : State :=
  match x.meaning s with
  | .next t => t
  | .fault _ => s
  | .refused _ => s

end State

/-- FABRIC_TIME_TICK (R169): fabric time rises by 1, from 2^48 − 1 to 0; it is held at 0 while RESET is asserted. A timer expires at the n-th
tick after its start, so an expiry whose row has not been taken in the microsecond that now ends is taken first, at its own fabric time
(assumption 4). -/
def execFabricTimeTick (s : State) : Host.Outcome State Fault Refusal :=
  s.event fun s => { s.dueExpiries.foldl State.takeExpiry s with time := s.time + 1 }

end Sys2Proof.Machine
end

