-- ==== Sys2Proof/Machine/Dispatch.lean ====
section
/-! DEFINITION. The effect of each command: one arm per row of spec/opcode_table.json, in the table's order. -/

namespace Sys2Proof.Machine

def exec (i : Instr) (s : State) : Host.Outcome State Fault Refusal :=
  match i with
  | .rdReceived port seq req tag line => Sys2Proof.Machine.execRdReceived port seq req tag line s
  | .wrReceived port seq req tag line data => Sys2Proof.Machine.execWrReceived port seq req tag line data s
  | .wrmReceived port seq req tag line data mask => Sys2Proof.Machine.execWrmReceived port seq req tag line data mask s
  | .rdataReceived port seq req tag status data => Sys2Proof.Machine.execRdataReceived port seq req tag status data s
  | .wackReceived port seq req tag status => Sys2Proof.Machine.execWackReceived port seq req tag status s
  | .lackReceived port seq => Sys2Proof.Machine.execLackReceived port seq s
  | .lnakReceived port seq => Sys2Proof.Machine.execLnakReceived port seq s
  | .credReceived port req count => Sys2Proof.Machine.execCredReceived port req count s
  | .trnReceived port mode seq fresh => Sys2Proof.Machine.execTrnReceived port mode seq fresh s
  | .trnrReceived port seq => Sys2Proof.Machine.execTrnrReceived port seq s
  | .crcDiscard port => Sys2Proof.Machine.execCrcDiscard port s
  | .transmitArbiter port => Sys2Proof.Machine.execTransmitArbiter port s
  | .replayTimerExpiry port => Sys2Proof.Machine.execReplayTimerExpiry port s
  | .trainTimerExpiry port => Sys2Proof.Machine.execTrainTimerExpiry port s
  | .decayTimerExpiry port => Sys2Proof.Machine.execDecayTimerExpiry port s
  | .dispatch port => Sys2Proof.Machine.execDispatch port s
  | .fabricDispatch => Sys2Proof.Machine.execFabricDispatch s
  | .reissueSent entry => Sys2Proof.Machine.execReissueSent entry s
  | .completionTimeout entry side => Sys2Proof.Machine.execCompletionTimeout entry side s
  | .sweepVisit => Sys2Proof.Machine.execSweepVisit s
  | .reliefTimerExpiry port => Sys2Proof.Machine.execReliefTimerExpiry port s
  | .phaseEnd tenant => Sys2Proof.Machine.execPhaseEnd tenant s
  | .epochTimerExpiry => Sys2Proof.Machine.execEpochTimerExpiry s
  | .close => Sys2Proof.Machine.execClose s
  | .finalClose => Sys2Proof.Machine.execFinalClose s
  | .recordWriteIssue => Sys2Proof.Machine.execRecordWriteIssue s
  | .ringRetryTimerExpiry => Sys2Proof.Machine.execRingRetryTimerExpiry s
  | .restoreLinkDeadline => Sys2Proof.Machine.execRestoreLinkDeadline s
  | .commandFrame frame => Sys2Proof.Machine.execCommandFrame frame s
  | .readFrame count => Sys2Proof.Machine.execReadFrame count s
  | .malformedCommand code => Sys2Proof.Machine.execMalformedCommand code s
  | .setPortMode port mode => Sys2Proof.Machine.execSetPortMode port mode s
  | .setRequester port req enable tenant grant => Sys2Proof.Machine.execSetRequester port req enable tenant grant s
  | .setTenant tenant card profile ceilingPresent ceiling cap floor => Sys2Proof.Machine.execSetTenant tenant card profile ceilingPresent ceiling cap floor s
  | .removeTenant tenant => Sys2Proof.Machine.execRemoveTenant tenant s
  | .setRateCard card rr wr surcharge rounding carry => Sys2Proof.Machine.execSetRateCard card rr wr surcharge rounding carry s
  | .setProfile profile level openWidth closedWidth => Sys2Proof.Machine.execSetProfile profile level openWidth closedWidth s
  | .setWindow window tenant base length access primaryPort primaryBase primaryId mirrorPresent mirrorPort mirrorBase mirrorId => Sys2Proof.Machine.execSetWindow window tenant base length access primaryPort primaryBase primaryId mirrorPresent mirrorPort mirrorBase mirrorId s
  | .setWindowClear window => Sys2Proof.Machine.execSetWindowClear window s
  | .enableWindow window => Sys2Proof.Machine.execEnableWindow window s
  | .disableWindow window => Sys2Proof.Machine.execDisableWindow window s
  | .setTiming retry train completion relief limitPort limit => Sys2Proof.Machine.execSetTiming retry train completion relief limitPort limit s
  | .setMarks weak recover backlog latency share => Sys2Proof.Machine.execSetMarks weak recover backlog latency share s
  | .setEpoch period => Sys2Proof.Machine.execSetEpoch period s
  | .setBillingRing base n producer consumer => Sys2Proof.Machine.execSetBillingRing base n producer consumer s
  | .adjustTenant tenant amount => Sys2Proof.Machine.execAdjustTenant tenant amount s
  | .clearSticky tenant => Sys2Proof.Machine.execClearSticky tenant s
  | .closeEpoch => Sys2Proof.Machine.execCloseEpoch s
  | .restoreLink port => Sys2Proof.Machine.execRestoreLink port s
  | .linkReset port => Sys2Proof.Machine.execLinkReset port s
  | .startRebuild window => Sys2Proof.Machine.execStartRebuild window s
  | .abortRebuild => Sys2Proof.Machine.execAbortRebuild s
  | .readPort port => Sys2Proof.Machine.execReadPort port s
  | .readLink port => Sys2Proof.Machine.execReadLink port s
  | .readRequester port req => Sys2Proof.Machine.execReadRequester port req s
  | .readWindow window => Sys2Proof.Machine.execReadWindow window s
  | .readTenant tenant => Sys2Proof.Machine.execReadTenant tenant s
  | .readRateCard card => Sys2Proof.Machine.execReadRateCard card s
  | .readProfile profile => Sys2Proof.Machine.execReadProfile profile s
  | .readCongestion port tenant => Sys2Proof.Machine.execReadCongestion port tenant s
  | .readRing => Sys2Proof.Machine.execReadRing s
  | .readTime => Sys2Proof.Machine.execReadTime s
  | .readJob slot => Sys2Proof.Machine.execReadJob slot s
  | .readCause => Sys2Proof.Machine.execReadCause s
  | .setCauseEnable cause => Sys2Proof.Machine.execSetCauseEnable cause s
  | .clearCauseEnable cause => Sys2Proof.Machine.execClearCauseEnable cause s
  | .holdAlert => Sys2Proof.Machine.execHoldAlert s
  | .releaseAlert => Sys2Proof.Machine.execReleaseAlert s
  | .powerOnReset => Sys2Proof.Machine.execPowerOnReset s
  | .resetRelease => Sys2Proof.Machine.execResetRelease s
  | .fabricTimeTick => Sys2Proof.Machine.execFabricTimeTick s

end Sys2Proof.Machine
end

