-- ==== Sys2Proof/Safety.lean ====
section
/-! DEFINITION. What counts as a safe run, and the terms the claims use: the part out of reset, what a step leaves alone, and the
ranges that the chapters' state tables give. -/

namespace Sys2Proof.Machine

/-- The part is out of reset and takes events (R174). -/
def State.running (s : State) : Prop := s.resetAsserted = false

/-- A command may be taken: the part is out of reset, and the command is the one in hand or no command is in hand
(assumption 7). -/
def State.mayTake (s : State) (i : Instr) : Prop := s.running ∧ s.inHandIs i = true

/-! ### Frames: which parts of the state may differ -/

/-- The parts of the state, one for each field. -/
inductive Part where
  | links | stages | windows | ott | monitors | contrib | pacers | profiles | tenants | cards | closer | holdList | ring
  | fabric | sweep | copy | jobs | causes | mgmt | settings | time | resetPin | queue
deriving DecidableEq, Repr

/-- One part of the state is the same before and after. -/
def Part.same : Part → State → State → Prop
  | .links, s, t => t.links = s.links
  | .stages, s, t => t.stages = s.stages
  | .windows, s, t => t.windows = s.windows
  | .ott, s, t => t.ott = s.ott
  | .monitors, s, t => t.monitors = s.monitors
  | .contrib, s, t => t.contrib = s.contrib
  | .pacers, s, t => t.pacers = s.pacers
  | .profiles, s, t => t.profiles = s.profiles
  | .tenants, s, t => t.tenants = s.tenants
  | .cards, s, t => t.cards = s.cards
  | .closer, s, t => t.closer = s.closer
  | .holdList, s, t => t.holdList = s.holdList
  | .ring, s, t => t.ring = s.ring
  | .fabric, s, t => t.fabric = s.fabric
  | .sweep, s, t => t.sweep = s.sweep
  | .copy, s, t => t.copy = s.copy
  | .jobs, s, t => t.jobs = s.jobs
  | .causes, s, t => t.causes = s.causes
  | .mgmt, s, t => t.mgmt = s.mgmt
  | .settings, s, t => t.settings = s.settings
  | .time, s, t => t.time = s.time
  | .resetPin, s, t => t.resetAsserted = s.resetAsserted
  | .queue, s, t => t.pending = s.pending

/-- Every part but those listed is the same before and after. -/
def SameExcept (parts : List Part) (s t : State) : Prop := ∀ f : Part, f ∉ parts → f.same s t

/-- Only the listed parts differ, and no link unit but that of port `p`. -/
def OnlyLinkOf (p : PortIx) (parts : List Part) (s t : State) : Prop :=
  SameExcept (.links :: parts) s t ∧ ∀ q : PortIx, q ≠ p → t.links[q] = s.links[q]

/-- The management port after a command is answered: no command in hand, overlap clear, and the response frame in place, which
carries the overlap flag as it stood (R162, R163). The bytes last driven on MISO stay; for a row taken with an empty hand that is the
model's choice (assumption 7). -/
def State.answered (s : State) (code : Byte) (status : MgmtStatus) (data : List Byte) : Mgmt :=
  ⟨none, false, ⟨code, status, s.mgmt.overlap, data⟩, s.mgmt.miso⟩

/-- The management port is `m` after a command is answered (R162, R163), with nothing said that is the model's choice: the taking of a
command in hand drives nothing on MISO, and the bytes on MISO are left open after a row taken with an empty hand (assumption 7). -/
def State.AnsweredWith (s : State) (code : Byte) (status : MgmtStatus) (data : List Byte) (m : Mgmt) : Prop :=
  m = { s.answered code status data with miso := m.miso } ∧ (s.mgmt.inHand ≠ none → m.miso = s.mgmt.miso)

/-! ### What the loss of a port leaves (sections 2.1, 4.8 and 8.1) -/

/-- The ingress side of port `p` is given up between `s` and `t` (R27, R82, R73): no request is queued and no credit owed there, and
each of its LIVE entries is ORPHAN with the progress of its legs kept, or FREE with its generation where a leg was WAITING. -/
def State.IngressGivenUp (s : State) (p : PortIx) (t : State) : Prop :=
  (∀ r : ReqId, ((t.stages[p]).requesters[r]).queue = [] ∧ ((t.stages[p]).requesters[r]).owed = 0)
    ∧ ∀ (i : OttIx) (r : ReqId) (tag : Tag), (s.ott.entries[i]).state = .live → (s.ott.entries[i]).origin = .ingress p r tag →
      ((∀ x, ((s.ott.entries[i]).leg x).progress ≠ .waiting) → (t.ott.entries[i]).state = .orphan
        ∧ ∀ x, ((t.ott.entries[i]).leg x).progress = ((s.ott.entries[i]).leg x).progress)
      ∧ (∀ x, ((s.ott.entries[i]).leg x).progress = .waiting → t.ott.entries[i] = .freed (s.ott.entries[i]).gen)

/-- A port-wide loss is taken at port `p` between `s` and `t` (R137, R138, R141): the legs there of every window that is ENABLED or
keeps transactions outstanding are LOST where they were IN_SERVICE or REBUILDING, LINK_FAILED is pending with the port's bit, and a
sweep of the port runs or is queued. -/
def State.PortLegsLost (s : State) (p : PortIx) (t : State) : Prop :=
  (∀ (w : WindowIx) (x : Side), ((s.windows[w]).enabled = true ∨ 0 < (t.windows[w]).outstanding) →
      ((s.windows[w]).leg x).port = p → (((s.windows[w]).leg x).state = .inService ∨ ((s.windows[w]).leg x).state = .rebuilding) →
      ((t.windows[w]).leg x).state = .lost)
    ∧ (t.causes.entries[causeIx .linkFailed]).pending = true
    ∧ (t.causes.entries[causeIx .linkFailed]).detail &&& bitDetail p.1 = bitDetail p.1
    ∧ (t.sweep.port = some p ∨ p ∈ t.sweep.queue)

/-- The parts that a link's failure or reset may change with its consequences. -/
def portLossParts : List Part := [.links, .stages, .windows, .ott, .ring, .fabric, .copy, .jobs, .causes, .sweep]

/-- What a link's failure or reset at port `p` leaves alone between `s` and `t`: of the other link units all but the transmit queue,
which a finished read's response may join; of the other ports' stages all but their count of OTT entries; the legs of windows
elsewhere, but for a window under rebuild; and, on a port that carries no legs, every leg and the sweep. -/
def State.PortLossFrame (s : State) (p : PortIx) (t : State) : Prop :=
  (∀ q : PortIx, q ≠ p → t.links[q] = { s.links[q] with txQueue := t.links[q].txQueue }
      ∧ t.stages[q] = { s.stages[q] with ottCount := (t.stages[q]).ottCount })
    ∧ (∀ (w : WindowIx) (x : Side), ((s.windows[w]).leg x).port ≠ p → s.copy.window ≠ some w →
        (t.windows[w]).leg x = (s.windows[w]).leg x)
    ∧ (carriesLegs s.links[p].mode = false →
        t.sweep = s.sweep ∧ ∀ (w : WindowIx) (x : Side), (t.windows[w]).leg x = (s.windows[w]).leg x)

/-- The link of port `p` enters FAILED between `s` and `t`, with its consequences by port mode (R17, R27, R137): LINK_FAILED is pending
with the port's bit, a SERVER or TRUNK port gives up its ingress side, and a MEMORY or TRUNK port loses its legs. -/
def State.LinkFails (s : State) (p : PortIx) (t : State) : Prop :=
  (t.causes.entries[causeIx .linkFailed]).pending = true
    ∧ (t.causes.entries[causeIx .linkFailed]).detail &&& bitDetail p.1 = bitDetail p.1
    ∧ (takesRequests s.links[p].mode = true → s.IngressGivenUp p t)
    ∧ (carriesLegs s.links[p].mode = true → s.PortLegsLost p t)
    ∧ s.PortLossFrame p t

/-! ### What a dispatch along a route leaves at the links -/

/-- The legs `sides` of a route through window `w` are sent between `s` and `t` for entry `i` and tenant `k` (R3, R58, R66, R77, R85, R86,
R93): each is SENT on its port with the requester id it carries, the tenant's congested flag there, and its completion timeout from now;
no other leg is part of the entry. At a link that takes offers each leg's request joins the tail of the transmit queue, the primary's
first (assumption 20), and takes one send credit of its requester id; the in-flight count of the port, and of the tenant there, rises by
1 for each leg. A read's leg on a port whose monitor is ARMED carries the sample mark, and the monitor is OUTSTANDING from now; no other
leg carries it. -/
def State.LegsSent (s : State) (i : OttIx) (k : TenantIx) (w : WindowIx) (sides : List Side) (body : ReqBody) (line : LineAddr)
    (t : State) : Prop :=
  let win := s.windows[w]
  let there := fun q : PortIx => sides.filter fun x => (win.leg x).port == q
  let armed := fun q : PortIx => decide (body = .rd ∧ (s.monitors[q]).sample = .armed)
  (∀ x, x ∈ sides → (t.ott.entries[i]).leg x =
      { progress := .sent, port := (win.leg x).port, reqId := s.carriedId (win.leg x)
        congested := decide (1 ≤ ((s.contrib[k])[(win.leg x).port]).level), stale := false, sentTime := s.time
        timeout := s.settings.completionTimeout, sample := armed (win.leg x).port, failStatus := none })
    ∧ (∀ x, x ∉ sides → ((t.ott.entries[i]).leg x).progress = .none)
    ∧ (∀ q : PortIx, takesOffers s.links[q].state = true →
        t.links[q] = { s.links[q] with
          txQueue := s.links[q].txQueue ++ (there q).map fun x => .request
            ⟨s.carriedId (win.leg x), forwardTag i ((s.ott.entries[i]).gen + 1) x, win.targetLine x line.toNat, body⟩
          sendCredit := t.links[q].sendCredit }
        ∧ ∀ r : ReqId, t.links[q].sendCredit[r] =
            s.links[q].sendCredit[r] - ((there q).filter fun x => s.carriedId (win.leg x) == r).length)
    ∧ (∀ q : PortIx, takesOffers s.links[q].state = false → t.links[q] = s.links[q])
    ∧ (∀ q : PortIx, t.monitors[q] = { s.monitors[q] with
        inFlight := (s.monitors[q]).inFlight + (there q).length
        sample := if armed q && !(there q).isEmpty then .outstanding else (s.monitors[q]).sample
        sampleStart := if armed q && !(there q).isEmpty then s.time else (s.monitors[q]).sampleStart })
    ∧ ∀ (j : TenantIx) (q : PortIx), (t.contrib[j])[q] =
        { (s.contrib[j])[q] with inFlight := ((s.contrib[j])[q]).inFlight + if j = k then (there q).length else 0 }

/-! ### What the settlement of a leg leaves -/

/-- Command `c` settles leg `x` of entry `i` in the way `way` (R68 to R70, R77, R142): a response accepted in sequence that matches the
leg, with its status as the OTT takes it; the completion timeout of a SENT leg at its deadline; or the sweep's visit to the entry,
the leg being one it settles. A visit that settles both legs of an entry is one of a write: a read has one SENT leg at a time. -/
def State.SettledBy (s : State) (c : Instr) (i : OttIx) (x : Side) (way : SettleWay) : Prop :=
  let e := s.ott.entries[i]
  let answers := fun (p : PortIx) (r : Response) => s.links[p].state = .active ∧ s.matches_ p r = true ∧ i = tagIndex r.tag
    ∧ x = tagSide r.tag ∧ way = .response (takenStatus s.links[p].mode r.status) r.data
  (∃ (p : PortIx) (req : ReqId) (tag : Tag) (status : Status) (data : Option LineData),
      c = .rdataReceived p s.links[p].expSeq req tag status data ∧ data.isSome = (status == .good)
        ∧ answers p ⟨.rdata, req, tag, status, data⟩)
    ∨ (∃ (p : PortIx) (req : ReqId) (tag : Tag) (status : Status),
      c = .wackReceived p s.links[p].expSeq req tag status ∧ answers p ⟨.wack, req, tag, status, none⟩)
    ∨ (c = .completionTimeout i x ∧ way = .timeout ∧ (e.leg x).progress = .sent
      ∧ (e.leg x).timeout ≤ (s.time - (e.leg x).sentTime).toNat)
    ∨ (c = .sweepVisit ∧ way = .abandoned ∧ s.sweep.position = i
      ∧ ∃ p : PortIx, s.sweep.port = some p ∧ s.sweepable p (e.leg x) = true
        ∧ (e.body = .rd → s.sweepable p (e.leg (otherSide x)) = false))

/-- No other leg of entry `i` is left SENT once leg `x` has settled in the way `way`: the other leg is not SENT, or the same visit of the
sweep settles it (R76, R142). -/
def State.LastSent (s : State) (i : OttIx) (x : Side) (way : SettleWay) : Prop :=
  let other := (s.ott.entries[i]).leg (otherSide x)
  other.progress ≠ .sent ∨ (way = .abandoned ∧ ∃ p : PortIx, s.sweep.port = some p ∧ s.sweepable p other = true)

/-- What the settlement of one leg leaves at its port's monitor and in the contribution table between `s` and `t` (R85, R87): the in-flight
count of the port, and of the tenant there, falls by 1. A leg that carries the sample mark makes the monitor IDLE, and, unless a sweep
settles it, gives the time since the sample start, at most 65,535 µs, as a fresh last sample. -/
def State.LegCounted (s : State) (i : OttIx) (x : Side) (swept : Bool) (t : State) : Prop :=
  let e := s.ott.entries[i]
  let l := e.leg x
  t.monitors = mapAt s.monitors l.port (fun m =>
      let captured := l.sample && !swept
      { m with
        inFlight := m.inFlight - 1
        sample := if l.sample then .idle else m.sample
        lastSample := if captured then some (min 65535 (s.time - m.sampleStart).toNat) else m.lastSample
        fresh := m.fresh || captured })
    ∧ t.contrib = mapAt s.contrib e.tenant (fun row => mapAt row l.port fun c => { c with inFlight := c.inFlight - 1 })

/-- The congested indication with which entry `i` is metered when leg `x` is DONE_GOOD (R80): its own congested flag, or that of the other
leg when that one is DONE_GOOD too. -/
def State.congestedWith (s : State) (i : OttIx) (x : Side) : Bool :=
  let e := s.ott.entries[i]
  let other := e.leg (otherSide x)
  (e.leg x).congested || (other.progress == .doneGood && other.congested)

/-- What the meter block and the pacer of its tenant leave between `s` and `t` of a finished transaction of entry `i`: the addition of
MeterAddsOneLine when it is told of it, and nothing otherwise (R80, R108, R111). -/
def State.Metered (s : State) (i : OttIx) (told congested : Bool) (t : State) : Prop :=
  let e := s.ott.entries[i]
  let u := s.meter e.tenant (isRead e.body) congested
  (told = true → t.tenants = u.tenants ∧ t.pacers = u.pacers) ∧ (told = false → t.tenants = s.tenants ∧ t.pacers = s.pacers)

/-- The LIVE fabric entry `i` finishes between `s` and `t` at the settlement of its leg `x` and reports `status` and `data` to its job (R81):
the fabric requester, the copy engine, the jobs, the hold list and the ring are as the report leaves them, but for what the consumer
watch takes; so are the windows, but that the entry's one has one transaction less outstanding, and the causes, but for those of
the consumer watch, link health and the meter block. A GOOD finish is metered. The entry is FREE with its generation, at the tail of
the fabric free list. -/
def State.FabricReported (s : State) (i : OttIx) (x : Side) (status : Status) (data : Option LineData) (t : State) : Prop :=
  let e := s.ott.entries[i]
  ∀ job : FabricJob, e.origin = .fabric job →
    let v := s.report job status data
    t.fabric = v.fabric ∧ t.copy = v.copy ∧ t.jobs = v.jobs ∧ t.holdList = v.holdList
      ∧ t.ring = { v.ring with watch := t.ring.watch, cons := t.ring.cons }
      ∧ t.windows = mapAt v.windows e.window (fun win => { win with outstanding := win.outstanding - 1 })
      ∧ (∀ c : Cause, c ≠ .ringIndexBad → c ≠ .linkWeak → c ≠ .balanceSaturated → c ≠ .tenantCapped →
          t.causes.entries[causeIx c] = v.causes.entries[causeIx c])
      ∧ s.Metered i (status == .good) (s.congestedWith i x) t
      ∧ t.ott.entries[i] = .freed e.gen ∧ t.ott.fabricCount = s.ott.fabricCount - 1
      ∧ (Config.serverPool ≤ i.1 → t.ott.fabricFree = s.ott.fabricFree ++ [i])

/-! ### Ranges (Tables 1-1 and 2-2, R19, R94, R128, R173) -/

/-- A link unit's counts lie in the ranges of Table 1-1, and its replay timer runs only in ACTIVE (R8, R16, R17). The receive credit's
range stands in AccountInRange. -/
def LinkUnit.InRange (u : LinkUnit) : Prop :=
  u.retry.length ≤ Config.retryBufferSize ∧ u.replayCount ≤ Config.replayLimit ∧ u.ackOwed ≤ Config.ackBatch
    ∧ (∀ k, u.attempt = some k → 1 ≤ k ∧ k ≤ Config.retrainAttempts) ∧ (∀ r : ReqId, u.sendCredit[r] ≤ Config.sendCreditMax)
    ∧ u.health ≤ Config.healthMax ∧ (u.state ≠ .active → u.replayTimer = none)

/-- Every link unit is in range. -/
def State.LinksInRange (s : State) : Prop := ∀ p : PortIx, (s.links[p]).InRange

/-- The credit account of a requester id on a port: the receive credit, the grant and the credit in force are at most 64. In ACTIVE and
RETRAIN the outstanding credit, which is the receive credit, the queued requests and the credit owed, equals the credit in force
(R29). In every other link state no request is queued and no credit is owed, in TRAINING and DOWN no receive credit is held, and on
a port that is neither SERVER nor TRUNK the credit in force is 0 (R22, R27, R29). -/
def State.AccountInRange (s : State) (p : PortIx) (r : ReqId) : Prop :=
  let u := s.links[p]
  let e := (s.stages[p]).requesters[r]
  u.recvCredit[r] ≤ Config.ingressSlots ∧ e.grant ≤ Config.ingressSlots ∧ e.inForce ≤ Config.ingressSlots
    ∧ (u.state = .active ∨ u.state = .retrain → u.recvCredit[r] + e.queue.length + e.owed = e.inForce)
    ∧ (u.state ≠ .active → u.state ≠ .retrain → e.queue = [] ∧ e.owed = 0)
    ∧ (u.state = .training ∨ u.state = .down → u.recvCredit[r] = 0)
    ∧ (takesRequests u.mode = false → e.inForce = 0)

/-- Every credit account is in range. -/
def State.AccountsInRange (s : State) : Prop := ∀ (p : PortIx) (r : ReqId), s.AccountInRange p r

/-- A cause that is not pending holds detail 0, and the hold depth is at most 15 (R171, R173). -/
def State.CausesInRange (s : State) : Prop :=
  (∀ c : Fin 14, (s.causes.entries[c]).pending = false → (s.causes.entries[c]).detail = 0)
    ∧ s.causes.holdDepth ≤ Config.holdDepthMax

/-- The hold list keeps within its 8 places (R128). -/
def State.HoldListInRange (s : State) : Prop := s.holdList.length ≤ Config.holdListSize

/-- Tenant 0, the fabric tenant, is ACTIVE (R103, R104). -/
def State.FabricTenantActive (s : State) : Prop := (s.tenants[(0 : TenantIx)]).state = .active

/-- The state holds every count in its range, and the fabric tenant is ACTIVE. -/
def State.InRange (s : State) : Prop :=
  s.LinksInRange ∧ s.AccountsInRange ∧ s.CausesInRange ∧ s.HoldListInRange ∧ s.FabricTenantActive

/-- A step is safe when it answers a next state in range: no command stops the part. -/
def SafeStep (s : State) : Prop := ∃ t, step s = .next t ∧ t.InRange

end Sys2Proof.Machine
end

