-- ==== Sys2Proof/Certificates/Slice0/Obligations.lean ====
section
/-! DEFINITION. The statements for the provers, each an obligation about the model, in the order of the spec's chapters. Two of the
model's choices run through them: a management command taken with an empty hand stands for its frame's arrival and its taking
together, and in every statement with State.answered it leaves the bytes last driven on MISO, while State.AnsweredWith leaves those
bytes open (assumption 7); and a timer's expiry is taken at the fabric time of its n-th tick, by its own row or else by the next tick
(assumption 4). -/

open Sys2Proof Sys2Proof.Machine

/-! ### The machine as a whole -/

/-- A step takes the command at the front of the queue, which is the model's own (assumption 1), and runs it on the state with the
queue's rest. -/
def Obligations.StepRunsFrontCommand : Prop :=
  ∀ (c : Instr) (s : State) (rest : List Instr), s.pending = c :: rest → step s = exec c { s with pending := rest }

/-- The frame of a management command that fits its frame decodes to that command (R178, R163). -/
def Obligations.FrameDecodesToCommand : Prop :=
  ∀ (i : Instr) (f : CommandFrame), i.WellFormed = true → encodeFrame i = some f → decodeFrame f = i

/-- The bytes of a message, as sent with their CRC, are received as that message's command (R2, R176). -/
def Obligations.MessageBytesReceived : Prop :=
  ∀ (p : PortIx) (m : Message), messageOk m = true → receivedBytes p (messageBytes m) = messageCommand p m

/-- If a step from a state in range answers a next state, that state is in range: the link counts of Table 1-1 within their ranges
(retry buffer, Q, K, retrain attempt, send and receive credits, health score) and the replay timer stopped outside ACTIVE; in ACTIVE
and RETRAIN each requester's receive credit, queued requests and owed credit sum to its credit in force, which is at most 64, and
in every other link state nothing is queued or owed; causes not pending hold detail 0, the hold depth is at most 15, the hold list
at most 8, and tenant 0 ACTIVE. -/
def Obligations.EveryStepKeepsRanges : Prop :=
  ∀ s t : State, s.InRange → step s = .next t → t.InRange

/-- The state after reset, and the state while RESET is asserted, are in range. That the links are DOWN, and the blocks at their power-on
values, while RESET is asserted is the model's choice (assumption 3). -/
def Obligations.ResetStatesInRange : Prop := State.reset.InRange ∧ State.held.InRange

/-- No event of a link, a timer or a block writes the settings, the profiles, the rate cards, the management port or fabric time:
only commands, the frames of the management port, the tick and the RESET pin do. -/
def Obligations.EventsLeaveSettings : Prop :=
  ∀ (c : Instr) (s t : State), c.command = none →
    (∀ f, c ≠ .commandFrame f) → (∀ n, c ≠ .readFrame n) → (∀ b, c ≠ .malformedCommand b) →
    c ≠ .powerOnReset → c ≠ .resetRelease → c ≠ .fabricTimeTick → exec c s = .next t →
    t.settings = s.settings ∧ t.profiles = s.profiles ∧ t.cards = s.cards ∧ t.mgmt = s.mgmt ∧ t.time = s.time
      ∧ t.resetAsserted = s.resetAsserted ∧ t.pending = s.pending

/-! ### Chapter 1: links -/

/-- RD, WR and WRM received in ACTIVE with sequence number E, against receive credit, for an ENABLED requester of a SERVER or
TRUNK port: accepted, E advances, K rises to at most 16, an open episode closes, one receive credit is taken, and the
request joins the tail of its sub-queue (R10, R34). -/
def Obligations.AcceptedRequestJoinsQueue : Prop :=
  ∀ (s : State) (p : PortIx) (q : Request), s.running → s.links[p].state = .active → takesRequests s.links[p].mode = true →
    1 ≤ s.links[p].recvCredit[q.reqId] → ((s.stages[p]).requesters[q.reqId]).enabled = true →
    ∃ t, exec (messageCommand p (.payload s.links[p].expSeq (.request q))) s = .next t
      ∧ t.links[p] = { s.links[p] with
          expSeq := s.links[p].expSeq + 1
          ackOwed := min 16 (s.links[p].ackOwed + 1)
          episode := false
          recvCredit := mapAt s.links[p].recvCredit q.reqId fun c => c - 1 }
      ∧ t.stages[p] = { s.stages[p] with
          requesters := mapAt (s.stages[p]).requesters q.reqId fun e => { e with queue := e.queue ++ [q] } }
      ∧ (∀ k : PortIx, k ≠ p → t.stages[k] = s.stages[k]) ∧ OnlyLinkOf p [.stages] s t

/-- A request accepted for a DISABLED requester is answered DENIED at once on its link, and its credit is absorbed while the
credit in force is above the target 0 (R33). -/
def Obligations.DisabledRequesterAnswered : Prop :=
  ∀ (s : State) (p : PortIx) (q : Request), s.running → s.links[p].state = .active → takesRequests s.links[p].mode = true →
    1 ≤ s.links[p].recvCredit[q.reqId] → ((s.stages[p]).requesters[q.reqId]).enabled = false →
    1 ≤ ((s.stages[p]).requesters[q.reqId]).inForce →
    ∃ t, exec (messageCommand p (.payload s.links[p].expSeq (.request q))) s = .next t
      ∧ t.links[p].txQueue = s.links[p].txQueue ++ [.response ⟨respKind q.body, q.reqId, q.tag, .denied, none⟩]
      ∧ t.links[p].expSeq = s.links[p].expSeq + 1
      ∧ t.links[p].recvCredit = mapAt s.links[p].recvCredit q.reqId (fun c => c - 1)
      ∧ (t.stages[p]).requesters = mapAt (s.stages[p]).requesters q.reqId (fun e => { e with inForce := e.inForce - 1 })
      ∧ OnlyLinkOf p [.stages] s t

/-- A request in sequence without receive credit, or on a port that takes no requests, is a credit overrun: counted, OVERRUN raised
with the port's bit, 16 added to the health score, a discard episode opened; E, K and the receive credits stand (R11). That the LNAK
of an earlier episode, still unsent, serves the new one too is the model's choice (assumption 6). -/
def Obligations.CreditOverrun : Prop :=
  ∀ (s : State) (p : PortIx) (q : Request), s.running → s.links[p].state = .active →
    (takesRequests s.links[p].mode = false ∨ s.links[p].recvCredit[q.reqId] = 0) →
    ∃ t, exec (messageCommand p (.payload s.links[p].expSeq (.request q))) s = .next t
      ∧ t.links[p] = { s.links[p] with
          counters := { s.links[p].counters with overruns := satInc (2 ^ 32 - 1) s.links[p].counters.overruns }
          health := min 1023 (s.links[p].health + 16)
          healthState := t.links[p].healthState
          episode := true
          lnakOwed := if s.links[p].episode then s.links[p].lnakOwed else true }
      ∧ (t.causes.entries[causeIx .overrun]).pending = true
      ∧ (t.causes.entries[causeIx .overrun]).detail &&& bitDetail p.1 = bitDetail p.1
      ∧ OnlyLinkOf p [.causes] s t

/-- A payload message out of sequence: in ACTIVE it is counted as a sequence discard, adds 16 to the health score and opens a discard
episode with one LNAK owed; in every other link state it changes nothing (R10, R12). That the LNAK of an earlier episode, still
unsent, serves the new one too is the model's choice (assumption 6). -/
def Obligations.PayloadOutOfSequence : Prop :=
  ∀ (s : State) (p : PortIx) (seq : Seq) (m : Payload), s.running → messageOk (.payload seq m) = true →
    (s.links[p].state = .active → seq ≠ s.links[p].expSeq →
      ∃ t, exec (messageCommand p (.payload seq m)) s = .next t
        ∧ t.links[p] = { s.links[p] with
            counters := { s.links[p].counters with seqDiscards := satInc (2 ^ 32 - 1) s.links[p].counters.seqDiscards }
            health := min 1023 (s.links[p].health + 16)
            healthState := t.links[p].healthState
            episode := true
            lnakOwed := if s.links[p].episode then s.links[p].lnakOwed else true }
        ∧ OnlyLinkOf p [.causes] s t)
    ∧ (s.links[p].state ≠ .active → exec (messageCommand p (.payload seq m)) s = .next s)

/-- CRC_DISCARD: in ACTIVE a damaged message is counted, adds 16 to the health score and opens a discard episode; in every other link
state it changes nothing (R2, R10, R12). That the LNAK of an earlier episode, still unsent, serves the new one too is the model's
choice (assumption 6). -/
def Obligations.DamagedMessageDiscarded : Prop :=
  ∀ (s : State) (p : PortIx), s.running →
    (s.links[p].state = .active →
      ∃ t, exec (.crcDiscard p) s = .next t
        ∧ t.links[p] = { s.links[p] with
            counters := { s.links[p].counters with crcDiscards := satInc (2 ^ 32 - 1) s.links[p].counters.crcDiscards }
            health := min 1023 (s.links[p].health + 16)
            healthState := t.links[p].healthState
            episode := true
            lnakOwed := if s.links[p].episode then s.links[p].lnakOwed else true }
        ∧ OnlyLinkOf p [.causes] s t)
    ∧ (s.links[p].state ≠ .active → exec (.crcDiscard p) s = .next s)

/-- LACK(s): with d = (s − O) mod 256 below the number buffered, the d + 1 oldest messages go. In ACTIVE Q becomes 0 and the replay
timer restarts, or stops on an empty buffer; in RETRAIN neither happens. A replay position among the removed messages moves
on to the new oldest. A stale LACK changes nothing (R5, R7). -/
def Obligations.LackRemovesAcknowledged : Prop :=
  ∀ (s : State) (p : PortIx) (seq : Seq), s.running →
    let u := s.links[p]
    let d := (seq - u.oldest).toNat
    let pos := u.replayPos.bind fun q =>
      if u.retry.length ≤ d + 1 then none else some (if (q - u.oldest).toNat ≤ d then seq + 1 else q)
    (d < u.retry.length → u.state = .active →
      ∃ t, exec (.lackReceived p seq) s = .next t
        ∧ t.links[p] = { u with
            retry := u.retry.drop (d + 1)
            replayPos := pos
            replayCount := 0
            replayTimer := if u.retry.length = d + 1 then none else some ⟨s.time, s.settings.retryTimeout⟩ }
        ∧ OnlyLinkOf p [] s t)
    ∧ (d < u.retry.length → u.state = .retrain →
      ∃ t, exec (.lackReceived p seq) s = .next t
        ∧ t.links[p] = { u with retry := u.retry.drop (d + 1), replayPos := pos } ∧ OnlyLinkOf p [] s t)
    ∧ (u.retry.length ≤ d → exec (.lackReceived p seq) s = .next s)

/-- LNAK(s) in ACTIVE, with d = (s − O) mod 256 at most the number buffered: the d oldest messages go and Q becomes 0 if d is above 0.
If messages remain, a replay from s starts and is counted while Q is below 3; with Q at 3 the link enters RETRAIN with its
buffer kept. Beyond the buffer's span, with an empty buffer, or outside ACTIVE, nothing changes (R6, R9, R16). -/
def Obligations.LnakRemovesAndReplays : Prop :=
  ∀ (s : State) (p : PortIx) (seq : Seq), s.running →
    let u := s.links[p]
    let d := (seq - u.oldest).toNat
    let count := if d = 0 then u.replayCount else 0
    (u.state = .active → d < u.retry.length → count < 3 →
      ∃ t, exec (.lnakReceived p seq) s = .next t
        ∧ t.links[p] = { u with
            retry := u.retry.drop d
            replayPos := some seq
            replayCount := count + 1
            replayTimer := some ⟨s.time, s.settings.retryTimeout⟩
            counters := { u.counters with replays := satInc (2 ^ 32 - 1) u.counters.replays } }
        ∧ OnlyLinkOf p [] s t)
    ∧ (u.state = .active → d < u.retry.length → 3 ≤ count →
      ∃ t, exec (.lnakReceived p seq) s = .next t
        ∧ t.links[p] = { u with
            state := .retrain
            replayPos := none
            replayTimer := none
            episode := false
            trnOwed := some false
            trainTimer := some ⟨s.time, s.settings.trainTimeout⟩
            attempt := some 1
            counters := { u.counters with retrains := satInc (2 ^ 32 - 1) u.counters.retrains } }
        ∧ OnlyLinkOf p [] s t)
    ∧ (u.state = .active → d = u.retry.length → 0 < d →
      ∃ t, exec (.lnakReceived p seq) s = .next t
        ∧ t.links[p] = { u with retry := [], replayPos := none, replayCount := 0, replayTimer := none }
        ∧ OnlyLinkOf p [] s t)
    ∧ (u.state ≠ .active ∨ u.retry.length < d ∨ u.retry = [] → exec (.lnakReceived p seq) s = .next s)

/-- CRED(r, c) adds c to the send credit of requester id r, to at most 1023, in TRAINING, ACTIVE and RETRAIN; in DOWN and FAILED it
changes nothing (R14). -/
def Obligations.CredRaisesSendCredit : Prop :=
  ∀ (s : State) (p : PortIx) (r : ReqId) (count : Nat), s.running → 1 ≤ count → count ≤ 64 →
    (takesOffers s.links[p].state = true →
      ∃ t, exec (.credReceived p r count) s = .next t
        ∧ t.links[p] = { s.links[p] with
            sendCredit := mapAt s.links[p].sendCredit r fun c => min 1023 (c + count) }
        ∧ OnlyLinkOf p [] s t)
    ∧ (s.links[p].state = .down ∨ s.links[p].state = .failed → exec (.credReceived p r count) s = .next s)

/-- A TRN or a TRNR received in TRAINING after the link's own TRN was sent completes training: the link is ACTIVE with S, E, Q and K at 0,
an empty buffer, no episode and the train timer stopped, and every requester is owed its credit in force. A TRN is also
answered with TRNR(0) and gives the partner mode (R15, R29). A RESTORE_LINK active for the port ends DONE in the same event: on a MEMORY
or TRUNK port the LOST primary of every configured window without a mirror that lies there is IN_SERVICE again, no other window
changes, the job's result is the number returned, its deadline is stopped, and JOB_DONE is raised with the LINK slot's bit (R145). That
a TRN still owed is dropped (assumption 5), and that one TRNR is sent where an earlier one was still unsent (assumption 6), are the
model's choices. -/
def Obligations.TrainingCompletes : Prop :=
  ∀ (s : State) (p : PortIx) (m : PortMode) (seq : Seq) (fresh : Bool), s.running → s.links[p].state = .training →
    s.links[p].trnSent = true →
    let active : LinkUnit := { s.links[p] with
      state := .active, sendSeq := 0, expSeq := 0, replayCount := 0, ackOwed := 0, retry := [], replayPos := none
      replayTimer := none, episode := false, heard := true, trainTimer := none, trnOwed := none }
    let granted := fun t : State => ∀ r : ReqId, ((t.stages[p]).requesters[r]).owed = ((s.stages[p]).requesters[r]).inForce
    let returned := fun w : WindowIx =>
      carriesLegs s.links[p].mode && (s.windows[w]).configured && (s.windows[w]).mirror.state == .absent
        && (s.windows[w]).primary.port == p && (s.windows[w]).primary.state == .lost
    let restored := fun t : State =>
      (∀ w : WindowIx, returned w = true →
        t.windows[w] = { s.windows[w] with primary := { (s.windows[w]).primary with state := .inService } })
      ∧ (∀ w : WindowIx, returned w = false → t.windows[w] = s.windows[w])
      ∧ t.jobs = { s.jobs with link := ⟨.done, ((List.finRange 256).filter returned).length⟩, deadline := none }
      ∧ (t.causes.entries[causeIx .jobDone]).pending = true ∧ (t.causes.entries[causeIx .jobDone]).detail &&& 2#16 = 2#16
      ∧ OnlyLinkOf p [.stages, .windows, .jobs, .causes] s t
    (s.linkJobOn p = false →
      (∃ t, exec (.trnReceived p m seq fresh) s = .next t
        ∧ t.links[p] = { active with trnrOwed := some 0, partnerMode := some m } ∧ granted t ∧ OnlyLinkOf p [.stages] s t)
      ∧ (∃ t, exec (.trnrReceived p seq) s = .next t ∧ t.links[p] = active ∧ granted t ∧ OnlyLinkOf p [.stages] s t))
    ∧ (s.linkJobOn p = true →
      (∃ t, exec (.trnReceived p m seq fresh) s = .next t
        ∧ t.links[p] = { active with trnrOwed := some 0, partnerMode := some m } ∧ granted t ∧ restored t)
      ∧ (∃ t, exec (.trnrReceived p seq) s = .next t ∧ t.links[p] = active ∧ granted t ∧ restored t))

/-- A TRN with the fresh flag received in ACTIVE or RETRAIN brings FAILED: one failure is counted, the retry buffer, the transmit queue and
owed control messages go and the timers stop; mode, S, E, credits and health are kept, and LINK_FAILED is raised with the
port's bit. On a SERVER or TRUNK port every queued request and owed credit goes, and its LIVE entries become ORPHAN, or FREE where a
read was waiting for a reissue; on a MEMORY or TRUNK port the legs there of the windows that are ENABLED or keep transactions
outstanding become LOST, and a sweep of the port is queued (R16 to R18, R27, R82, R137, R138, R141). The rest of the part stays as
PortLossFrame and the parts listed say. That K, Q and the partner mode are kept is the model's choice (assumption 21). -/
def Obligations.FreshTrnFailsLink : Prop :=
  ∀ (s : State) (p : PortIx) (m : PortMode) (seq : Seq), s.running →
    (s.links[p].state = .active ∨ s.links[p].state = .retrain) →
    ∃ t, exec (.trnReceived p m seq true) s = .next t
      ∧ t.links[p] = { s.links[p] with
          state := .failed, retry := [], replayPos := none, replayTimer := none, episode := false, trainTimer := none
          attempt := none, txQueue := [], trnrOwed := none, trnOwed := none, lnakOwed := false
          counters := { s.links[p].counters with failures := satInc (2 ^ 32 - 1) s.links[p].counters.failures } }
      ∧ s.LinkFails p t
      ∧ t.jobs = { s.jobs with rebuild := t.jobs.rebuild } ∧ SameExcept portLossParts s t

/-- A TRNR received in RETRAIN with the partner's expected sequence number inside the buffer's span ends the retrain: the messages before it
go, Q and K become 0, the link is ACTIVE, and what remains is replayed from it. Outside the span the link enters FAILED. A TRN
without the fresh flag is decided likewise, after it is answered with TRNR(E) and its port mode recorded (R16). In ACTIVE such a TRN is
answered and recorded in the same way and then taken as an LNAK: the messages before its number go, Q becoming 0 if any went, and
what remains is replayed from it and counted while Q is below 3; with Q at 3 the link enters RETRAIN. Outside the span the link
enters FAILED, with the consequences of LinkFails (R18, R9, R17, R27, R137). That a TRN still owed is dropped at a retrain's success
(assumption 5), that the TRNR replaces one still unsent, so that one is sent for the two (assumption 6), and that K and Q are kept in
FAILED (assumption 21), are the model's choices. -/
def Obligations.RetrainDecidedByPartner : Prop :=
  ∀ (s : State) (p : PortIx) (seq : Seq), s.running →
    let u := s.links[p]
    let d := (seq - u.oldest).toNat
    let again : Timer := ⟨s.time, s.settings.retryTimeout⟩
    let answered := fun m : PortMode => ({ u with trnrOwed := some u.expSeq, partnerMode := some m } : LinkUnit)
    let resumed := fun (v : LinkUnit) (t : State) =>
      t.links[p] = { v with
        state := .active, retry := u.retry.drop d, replayCount := 0, ackOwed := 0, attempt := none, trainTimer := none
        trnOwed := none
        replayPos := if d < u.retry.length then some seq else none
        replayTimer := if d < u.retry.length then some again else u.replayTimer }
    let failed := fun (v : LinkUnit) (t : State) =>
      t.links[p] = { v with
        state := .failed, retry := [], replayPos := none, replayTimer := none, episode := false, trainTimer := none
        attempt := none, txQueue := [], trnrOwed := none, trnOwed := none, lnakOwed := false
        counters := { u.counters with failures := satInc (2 ^ 32 - 1) u.counters.failures } }
      ∧ s.LinkFails p t ∧ SameExcept portLossParts s t
    (u.state = .retrain →
      (d ≤ u.retry.length → ∃ t, exec (.trnrReceived p seq) s = .next t
        ∧ resumed u t ∧ OnlyLinkOf p [] s t)
      ∧ (u.retry.length < d → ∃ t, exec (.trnrReceived p seq) s = .next t ∧ failed u t)
      ∧ ∀ m : PortMode,
        (d ≤ u.retry.length → ∃ t, exec (.trnReceived p m seq false) s = .next t
          ∧ resumed (answered m) t ∧ OnlyLinkOf p [] s t)
        ∧ (u.retry.length < d → ∃ t, exec (.trnReceived p m seq false) s = .next t ∧ failed (answered m) t))
    ∧ (u.state = .active → ∀ m : PortMode,
      let a := answered m
      let count := if d = 0 then u.replayCount else 0
      (d < u.retry.length → count < 3 → ∃ t, exec (.trnReceived p m seq false) s = .next t
        ∧ t.links[p] = { a with
            retry := u.retry.drop d
            replayPos := some seq
            replayCount := count + 1
            replayTimer := some again
            counters := { u.counters with replays := satInc (2 ^ 32 - 1) u.counters.replays } }
        ∧ OnlyLinkOf p [] s t)
      ∧ (d < u.retry.length → 3 ≤ count → ∃ t, exec (.trnReceived p m seq false) s = .next t
        ∧ t.links[p] = { a with
            state := .retrain
            replayPos := none
            replayTimer := none
            episode := false
            trnOwed := some false
            trainTimer := some ⟨s.time, s.settings.trainTimeout⟩
            attempt := some 1
            counters := { u.counters with retrains := satInc (2 ^ 32 - 1) u.counters.retrains } }
        ∧ OnlyLinkOf p [] s t)
      ∧ (d = u.retry.length → ∃ t, exec (.trnReceived p m seq false) s = .next t
        ∧ t.links[p] = (if d = 0 then a else { a with retry := [], replayPos := none, replayCount := 0, replayTimer := none })
        ∧ OnlyLinkOf p [] s t)
      ∧ (u.retry.length < d → ∃ t, exec (.trnReceived p m seq false) s = .next t ∧ failed a t))

/-- The transmit arbiter's first classes: TRNR and then TRN in TRAINING, ACTIVE and RETRAIN; then, in ACTIVE, an owed LNAK, and a LACK
once K has reached 16. Sending an LNAK or a LACK sets K to 0 (R4, R13). The output field is the model's way to show the message
sent (assumption 16), and that an LNAK carries E as it stands at its sending is the model's choice (assumption 6). -/
def Obligations.ArbiterSendsControl : Prop :=
  ∀ (s : State) (p : PortIx), s.running →
    let u := s.links[p]
    (∀ v, takesOffers u.state = true → u.trnrOwed = some v →
      ∃ t, exec (.transmitArbiter p) s = .next t
        ∧ t.links[p] = { u with output := some (.trnr v), trnrOwed := none } ∧ OnlyLinkOf p [] s t)
    ∧ (∀ fresh, takesOffers u.state = true → u.trnrOwed = none → u.trnOwed = some fresh →
      ∃ t, exec (.transmitArbiter p) s = .next t
        ∧ t.links[p] = { u with output := some (.trn u.mode u.expSeq fresh), trnOwed := none } ∧ OnlyLinkOf p [] s t)
    ∧ (u.state = .active → u.trnrOwed = none → u.trnOwed = none → u.lnakOwed = true →
      ∃ t, exec (.transmitArbiter p) s = .next t
        ∧ t.links[p] = { u with output := some (.lnak u.expSeq), lnakOwed := false, ackOwed := 0 } ∧ OnlyLinkOf p [] s t)
    ∧ (u.state = .active → u.trnrOwed = none → u.trnOwed = none → u.lnakOwed = false → 16 ≤ u.ackOwed →
      ∃ t, exec (.transmitArbiter p) s = .next t
        ∧ t.links[p] = { u with output := some (.lack (u.expSeq - 1)), ackOwed := 0 } ∧ OnlyLinkOf p [] s t)

/-- The transmit arbiter's later classes in ACTIVE: the CRED of the lowest requester id with credit owed, the next message of a replay,
the head of the transmit queue while the buffer holds fewer than 48, and a LACK when nothing else is ready (R3, R4, R7,
R32). The output field is the model's way to show the message sent (assumption 16). -/
def Obligations.ArbiterSendsCreditAndPayload : Prop :=
  ∀ (s : State) (p : PortIx), s.running →
    let u := s.links[p]
    let owed := fun r : ReqId => ((s.stages[p]).requesters[r]).owed
    u.state = .active → u.trnrOwed = none → u.trnOwed = none → u.lnakOwed = false → u.ackOwed < 16 →
    (∀ r : ReqId, takesRequests u.mode = true → 1 ≤ owed r → (∀ k : ReqId, k < r → owed k = 0) →
      ∃ t, exec (.transmitArbiter p) s = .next t
        ∧ t.links[p] = { u with output := some (.cred r (owed r)), recvCredit := mapAt u.recvCredit r fun c => c + owed r }
        ∧ (t.stages[p]).requesters = mapAt (s.stages[p]).requesters r (fun e => { e with owed := 0 })
        ∧ OnlyLinkOf p [.stages] s t)
    ∧ (∀ q m, (takesRequests u.mode = false ∨ ∀ r : ReqId, owed r = 0) → u.replayPos = some q →
      u.retry[(q - u.oldest).toNat]? = some m →
      ∃ t, exec (.transmitArbiter p) s = .next t
        ∧ t.links[p] = { u with
            output := some (.payload q m), replayPos := if q + 1 = u.sendSeq then none else some (q + 1) }
        ∧ OnlyLinkOf p [] s t)
    ∧ (∀ m rest, (takesRequests u.mode = false ∨ ∀ r : ReqId, owed r = 0) → u.replayPos = none → u.txQueue = m :: rest →
      u.retry.length < 48 →
      ∃ t, exec (.transmitArbiter p) s = .next t
        ∧ t.links[p] = { u with
            output := some (.payload u.sendSeq m)
            sendSeq := u.sendSeq + 1
            txQueue := rest
            retry := u.retry ++ [m]
            replayTimer := if u.retry = [] then some ⟨s.time, s.settings.retryTimeout⟩ else u.replayTimer }
        ∧ OnlyLinkOf p [] s t)
    ∧ ((takesRequests u.mode = false ∨ ∀ r : ReqId, owed r = 0) → u.replayPos = none →
      (u.txQueue = [] ∨ 48 ≤ u.retry.length) → 1 ≤ u.ackOwed →
      ∃ t, exec (.transmitArbiter p) s = .next t
        ∧ t.links[p] = { u with output := some (.lack (u.expSeq - 1)), ackOwed := 0 } ∧ OnlyLinkOf p [] s t)

/-- The replay timer's expiry is counted and adds 64 to the health score. With Q below 3 a counted replay from the oldest message starts; with
Q at 3 the link enters RETRAIN, attempt 1, with its buffer, S, E and Q kept, and one retrain is counted (R8, R9, R16, R19). -/
def Obligations.ReplayTimerExpires : Prop :=
  ∀ (s : State) (p : PortIx), s.running → timerDue s.links[p].replayTimer s.time = true →
    let u := s.links[p]
    (u.replayCount < 3 →
      ∃ t, exec (.replayTimerExpiry p) s = .next t
        ∧ t.links[p] = { u with
            replayCount := u.replayCount + 1
            replayPos := some u.oldest
            replayTimer := some ⟨s.time, s.settings.retryTimeout⟩
            health := min 1023 (u.health + 64)
            healthState := t.links[p].healthState
            counters := { u.counters with
              replayExpiries := satInc (2 ^ 32 - 1) u.counters.replayExpiries
              replays := satInc (2 ^ 32 - 1) u.counters.replays } }
        ∧ OnlyLinkOf p [.causes] s t)
    ∧ (3 ≤ u.replayCount →
      ∃ t, exec (.replayTimerExpiry p) s = .next t
        ∧ t.links[p] = { u with
            state := .retrain
            replayPos := none
            replayTimer := none
            episode := false
            trnOwed := some false
            trainTimer := some ⟨s.time, s.settings.trainTimeout⟩
            attempt := some 1
            health := min 1023 (u.health + 64)
            healthState := t.links[p].healthState
            counters := { u.counters with
              replayExpiries := satInc (2 ^ 32 - 1) u.counters.replayExpiries
              retrains := satInc (2 ^ 32 - 1) u.counters.retrains } }
        ∧ OnlyLinkOf p [.causes] s t)

/-- The train timer's expiry: in TRAINING a fresh TRN is owed again; in RETRAIN attempts 1 and 2 owe a TRN without the fresh flag and count
the next attempt, and attempt 3 brings FAILED with the consequences of LinkFails (R15, R16, R27, R137). That the timer restarts at the
fabric time at which its expiry is taken, which is that of its n-th tick (assumption 4), and that a TRN still unsent is owed once
(assumption 6) are the model's choices. -/
def Obligations.TrainTimerExpires : Prop :=
  ∀ (s : State) (p : PortIx), s.running → timerDue s.links[p].trainTimer s.time = true →
    let u := s.links[p]
    let again : Timer := ⟨s.time, s.settings.trainTimeout⟩
    (u.state = .training →
      ∃ t, exec (.trainTimerExpiry p) s = .next t
        ∧ t.links[p] = { u with trnOwed := some true, trainTimer := some again } ∧ OnlyLinkOf p [] s t)
    ∧ (∀ k, u.state = .retrain → u.attempt = some k → k < 3 →
      ∃ t, exec (.trainTimerExpiry p) s = .next t
        ∧ t.links[p] = { u with trnOwed := some false, trainTimer := some again, attempt := some (k + 1) }
        ∧ OnlyLinkOf p [] s t)
    ∧ (∀ k, u.state = .retrain → u.attempt = some k → 3 ≤ k →
      ∃ t, exec (.trainTimerExpiry p) s = .next t
        ∧ t.links[p].state = .failed ∧ t.links[p].retry = []
        ∧ t.links[p].counters.failures = satInc (2 ^ 32 - 1) u.counters.failures
        ∧ s.LinkFails p t ∧ SameExcept portLossParts s t)

/-- The decay timer's expiry lowers the health score by 1 unless it is 0, in every link state, and the health state is tested: GOOD at or above
the weak mark turns WEAK and raises LINK_WEAK, WEAK below the recover mark turns GOOD (R19, R20). That the timer restarts at the
fabric time at which its expiry is taken, which is that of its n-th tick, is the model's choice (assumption 4). -/
def Obligations.DecayTimerLowersHealth : Prop :=
  ∀ (s : State) (p : PortIx), s.running → s.links[p].decayTimer.due s.time = true →
    let u := s.links[p]
    ∃ t, exec (.decayTimerExpiry p) s = .next t
      ∧ t.links[p] = { u with
          health := u.health - 1
          decayTimer := ⟨s.time, 1000⟩
          healthState := match u.healthState with
            | .good => if s.settings.weakMark ≤ u.health - 1 then .weak else .good
            | .weak => if u.health - 1 < s.settings.recoverMark then .good else .weak }
      ∧ (u.healthState = .good → s.settings.weakMark ≤ u.health - 1 →
          (t.causes.entries[causeIx .linkWeak]).pending = true
            ∧ (t.causes.entries[causeIx .linkWeak]).detail &&& bitDetail p.1 = bitDetail p.1)
      ∧ OnlyLinkOf p [.causes] s t

/-! ### Chapters 2 and 3: ingress, windows, dispatch -/

/-- A head that is not held and has no route is answered at dispatch: NOROUTE where no ENABLED window of its tenant covers its line, DENIED
for a write of a READ_ONLY window, and LOST for another request of a window with no leg IN_SERVICE. It leaves its sub-queue and frees one
credit, and its response joins the transmit queue, without data. NOROUTE raises the tenant's NR and NOROUTE_SEEN, DENIED raises the
tenant's DN and no cause, LOST raises neither; no OTT entry and no window changes (R31, R35, R37, R52 to R54). -/
def Obligations.DispatchAnswersNoroute : Prop :=
  ∀ (s : State) (p : PortIx) (r : ReqId) (q : Request), s.running → takesRequests s.links[p].mode = true →
    takesOffers s.links[p].state = true → s.nextHead p = some (r, q) →
    let k := s.requesterTenant p r
    let e := (s.stages[p]).requesters[r]
    let absorbed := decide (e.target s.links[p].mode < e.inForce)
    let answered := fun (status : Status) (t : State) =>
      t.links[p] = { s.links[p] with
        txQueue := s.links[p].txQueue ++ [.response ⟨respKind q.body, q.reqId, q.tag, status, none⟩] }
      ∧ t.stages[p] = { s.stages[p] with
          lastDispatched := r
          requesters := mapAt (s.stages[p]).requesters r fun _ =>
            { e with
              queue := e.queue.tail
              inForce := if absorbed then e.inForce - 1 else e.inForce
              owed := if absorbed then e.owed else e.owed + 1 } }
      ∧ ∀ j : PortIx, j ≠ p → t.stages[j] = s.stages[j]
    (s.lookup k q.body q.line = .noroute → ∃ t, exec (.dispatch p) s = .next t ∧ answered .noroute t
      ∧ t.tenants = mapAt s.tenants k (fun x => { x with nr := satInc 65535 x.nr })
      ∧ (t.causes.entries[causeIx .norouteSeen]).pending = true
      ∧ OnlyLinkOf p [.stages, .tenants, .causes] s t)
    ∧ ∀ w : WindowIx, s.findWindow k q.line.toNat = some w →
      let win := s.windows[w]
      (q.body ≠ .rd → win.access = .readOnly → ∃ t, exec (.dispatch p) s = .next t ∧ answered .denied t
        ∧ t.tenants = mapAt s.tenants k (fun x => { x with dn := satInc 65535 x.dn })
        ∧ OnlyLinkOf p [.stages, .tenants] s t)
      ∧ (q.body = .rd ∨ win.access = .readWrite → win.primary.state ≠ .inService → win.mirror.state ≠ .inService →
        ∃ t, exec (.dispatch p) s = .next t ∧ answered .lost t ∧ OnlyLinkOf p [.stages] s t)

/-- A head that is not held and is routed is dispatched as one event. It leaves its sub-queue, its requester is the last dispatched, and its
credit is absorbed while the credit in force is above the target, and owed otherwise (R31, R37). The entry at the head of the server and
trunk free list becomes LIVE with its generation raised by 1, its origin, tenant, window, kind and line as dispatched, and the counts of
the pool, the ingress port and the window rise by 1 (R43, R58, R64 to R66). As LegsSent says, each leg of the route is SENT on its port,
its request joins the tail of the link's transmit queue and takes one send credit, the in-flight counts of the port and of the tenant
there rise by 1, and a read on an ARMED port is its latency sample (R3, R58, R85, R86). A write is put to the copy engine, as
RebuildStartsAndAborts says of it (R154); a read leaves the engine and the pending fabric requests alone. That the primary's request
comes first where both legs lie on one port is the model's choice (assumption 20). -/
def Obligations.DispatchAllocatesEntry : Prop :=
  ∀ (s : State) (p : PortIx) (r : ReqId) (q : Request) (w : WindowIx) (sides : List Side) (i : OttIx) (rest : List OttIx),
    s.running → takesRequests s.links[p].mode = true → s.nextHead p = some (r, q) →
    s.lookup (s.requesterTenant p r) q.body q.line = .routed w sides → s.ott.serverFree = i :: rest →
    let k := s.requesterTenant p r
    let e := (s.stages[p]).requesters[r]
    let absorbed := decide (e.target s.links[p].mode < e.inForce)
    ∃ t, exec (.dispatch p) s = .next t
      ∧ t.stages[p] = { s.stages[p] with
          lastDispatched := r
          ottCount := (s.stages[p]).ottCount + 1
          requesters := mapAt (s.stages[p]).requesters r fun _ =>
            { e with
              queue := e.queue.tail
              inForce := if absorbed then e.inForce - 1 else e.inForce
              owed := if absorbed then e.owed else e.owed + 1 } }
      ∧ (∀ j : PortIx, j ≠ p → t.stages[j] = s.stages[j])
      ∧ t.ott.entries[i] = { t.ott.entries[i] with
          state := .live, gen := (s.ott.entries[i]).gen + 1, origin := .ingress p r q.tag, tenant := k, window := w, body := q.body
          line := q.line, reissued := false, readData := none }
      ∧ s.LegsSent i k w sides q.body q.line t
      ∧ (∀ j : OttIx, j ≠ i → t.ott.entries[j] = s.ott.entries[j])
      ∧ t.ott = { s.ott with entries := t.ott.entries, serverFree := rest, serverCount := s.ott.serverCount + 1 }
      ∧ t.windows = mapAt s.windows w (fun win => { win with outstanding := win.outstanding + 1 })
      ∧ (q.body ≠ .rd → t.fabric = (s.engineSeesWrite w q.line.toNat).fabric ∧ t.copy = (s.engineSeesWrite w q.line.toNat).copy)
      ∧ (q.body = .rd → t.fabric = s.fabric ∧ t.copy = s.copy)
      ∧ SameExcept [.links, .stages, .windows, .ott, .monitors, .contrib, .ring, .fabric, .copy] s t

/-- The dispatcher takes only the head of a sub-queue, and only one that no condition of Table 2-3 holds: its tenant's pacer is not CLOSED, no
LIVE or ORPHAN entry has its ingress port, requester and line, and, if it is routed, the OTT has room for it, every leg
has credit for every leg of the route on its port, and, for a write through the window that is being rebuilt, no pinned copy slot
holds its line with its copy write unsent (R37, R38, R156). That this last condition is tested only while the engine is COPYING is
the model's reading (assumption 14), and that an empty free list is no room its choice (assumption 18). -/
def Obligations.DispatchTakesNoHeldHead : Prop :=
  ∀ (s : State) (p : PortIx) (r : ReqId) (q : Request), s.nextHead p = some (r, q) →
    ((s.stages[p]).requesters[r]).queue.head? = some q
    ∧ (s.pacers[((s.stages[p]).requesters[r]).tenant]).phase ≠ .closed
    ∧ (∀ i : OttIx, (s.ott.entries[i]).state ≠ .free → (s.ott.entries[i]).line = q.line →
        ∀ tag, (s.ott.entries[i]).origin ≠ .ingress p r tag)
    ∧ (∀ w sides, s.lookup (s.requesterTenant p r) q.body q.line = .routed w sides →
        s.ott.serverCount < 992 ∧ (s.stages[p]).ottCount < (s.stages[p]).ottLimit ∧ s.ott.serverFree ≠ []
          ∧ (q.body ≠ .rd → s.copy.state = .copying → s.copy.window = some w →
              ∀ k : SlotIx, s.copy.slotHolding q.line.toNat = some k → (s.copy.slots[k]).pinned = true →
                (s.copy.slots[k]).state = .writing ∧ (s.copy.slots[k]).sent = true)
          ∧ ∀ x, x ∈ sides →
              (sides.filter fun y => ((s.windows[w]).leg y).port == ((s.windows[w]).leg x).port).length ≤
                s.links[((s.windows[w]).leg x).port].sendCredit[s.carriedId ((s.windows[w]).leg x)])

/-- The window lookup, Table 3-4. It finds an ENABLED window of the tenant whose range covers the line, and answers NOROUTE exactly when there
is none (R51, R52). In the window it finds, a WR or WRM of a READ_ONLY window is answered DENIED (R53), any other request LOST while no
leg is IN_SERVICE (R54), and the rest is routed: an RD to the one leg of read steering, and a WR or WRM to every leg that is IN_SERVICE
and to a REBUILDING one when the line is below the copy engine's frontier, each once (R57). Read steering, Table 3-5: the primary while it
is IN_SERVICE, unless both legs are IN_SERVICE, the primary's link is WEAK and the mirror's is GOOD; otherwise the mirror (R56). -/
def Obligations.ReadSteering : Prop :=
  (∀ (s : State) (k : TenantIx) (body : ReqBody) (line : LineAddr),
    let found := fun w : WindowIx => (s.windows[w]).enabled = true ∧ (s.windows[w]).tenant = k
      ∧ (s.windows[w]).base * 32768 ≤ line.toNat ∧ line.toNat < ((s.windows[w]).base + (s.windows[w]).length) * 32768
    (s.findWindow k line.toNat = none ↔ ∀ w, ¬found w)
    ∧ (s.findWindow k line.toNat = none → s.lookup k body line = .noroute)
    ∧ ∀ w : WindowIx, s.findWindow k line.toNat = some w →
      let win := s.windows[w]
      let serving := fun x : Side => (win.leg x).state = .inService
      let refused := body ≠ .rd ∧ win.access = .readOnly
      found w
      ∧ (refused → s.lookup k body line = .denied)
      ∧ (¬refused → (∀ x, ¬serving x) → s.lookup k body line = .lost)
      ∧ (¬refused → (∃ x, serving x) → ∃ sides : List Side, s.lookup k body line = .routed w sides
        ∧ (body = .rd → sides = [s.readSide win] ∧ serving (s.readSide win))
        ∧ (body ≠ .rd → sides.Nodup ∧ ∀ x : Side, x ∈ sides ↔
            serving x ∨ ((win.leg x).state = .rebuilding ∧ line.toNat < s.copy.frontier))))
  ∧ ∀ (s : State) (win : Window),
    (win.primary.state = .inService → win.mirror.state ≠ .inService → s.readSide win = .primary)
    ∧ (win.primary.state = .inService → s.links[win.primary.port].healthState = .good → s.readSide win = .primary)
    ∧ (win.primary.state = .inService → win.mirror.state = .inService → s.links[win.primary.port].healthState = .weak →
        s.links[win.mirror.port].healthState = .good → s.readSide win = .mirror)
    ∧ (win.primary.state = .inService → s.links[win.primary.port].healthState = .weak →
        s.links[win.mirror.port].healthState = .weak → s.readSide win = .primary)
    ∧ (win.primary.state ≠ .inService → s.readSide win = .mirror)

/-- The fabric requester dispatches the earliest issued of its pending requests that are not held. A routed one leaves the pending list: the
entry at the head of the fabric free list becomes a LIVE entry of tenant 0 whose origin is its job, its legs are sent as LegsSent says,
and the window's outstanding count rises by 1 (R40, R43, R58, R64, R85). A copy slot's request sent flag is then set (R151, R152); a
write of the ring writer is put to the copy engine, as RebuildStartsAndAborts says of it (R154). A request without a window is reported
to its job with NOROUTE, so a record write without a window stalls the ring writer (R40, R132). That the primary's request comes first
where both legs lie on one port is the model's choice (assumption 20). -/
def Obligations.FabricRequestDispatched : Prop :=
  ∀ (s : State) (q : FabricReq), s.running → (s.fabric.find? fun k => !(s.fabricHolds k).held) = some q →
    let left : State := { s with fabric := s.fabric.erase q }
    (∀ (w : WindowIx) (sides : List Side) (i : OttIx) (rest : List OttIx),
      s.fabricLookup q = .routed w sides → s.ott.fabricFree = i :: rest →
      ∃ t, exec .fabricDispatch s = .next t
        ∧ t.ott.entries[i] = { t.ott.entries[i] with
            state := .live, gen := (s.ott.entries[i]).gen + 1, origin := .fabric q.job, tenant := 0, window := w, body := q.body
            line := q.line, reissued := false, readData := none }
        ∧ s.LegsSent i 0 w sides q.body q.line t
        ∧ (∀ j : OttIx, j ≠ i → t.ott.entries[j] = s.ott.entries[j])
        ∧ t.ott = { s.ott with entries := t.ott.entries, fabricFree := rest, fabricCount := s.ott.fabricCount + 1 }
        ∧ t.windows = mapAt s.windows w (fun win => { win with outstanding := win.outstanding + 1 })
        ∧ (∀ k : SlotIx, q.job = .copySlot k → t.fabric = left.fabric
            ∧ t.copy = { s.copy with slots := mapAt s.copy.slots k fun slot => { slot with sent := true } })
        ∧ ((∀ k : SlotIx, q.job ≠ .copySlot k) → q.body ≠ .rd →
            t.fabric = (left.engineSeesWrite w q.line.toNat).fabric ∧ t.copy = (left.engineSeesWrite w q.line.toNat).copy)
        ∧ ((∀ k : SlotIx, q.job ≠ .copySlot k) → q.body = .rd → t.fabric = left.fabric ∧ t.copy = s.copy)
        ∧ SameExcept [.links, .windows, .ott, .monitors, .contrib, .ring, .fabric, .copy] s t)
    ∧ (q.job = .ringRecord → s.fabricLookup q = .noroute →
      ∃ t, exec .fabricDispatch s = .next t
        ∧ t.ring.writer = .stalled ∧ t.ring.stalled = some .record ∧ t.ring.retryTimer = some ⟨s.time, 1000⟩
        ∧ (t.causes.entries[causeIx .ringStalled]).pending = true ∧ t.holdList = s.holdList
        ∧ t.ring.prod = s.ring.prod ∧ t.fabric = s.fabric.erase q ∧ t.ott = s.ott)

/-! ### Chapter 4: the outstanding transaction table -/

/-- A GOOD RDATA that matches the SENT leg of a LIVE read of server or trunk origin finishes the read: its response, with the origin's
requester id and tag and the data, joins the ingress link's transmit queue, the entry becomes FREE with its generation kept
at the tail of its free list, and, from a SERVER port, the tenant's accumulator grows by one increment (R68, R71, R79,
R80, R108). An RDATA of another status, taken as Table 4-3 gives, makes the leg DONE_FAILED with the taken status as its failure
status. The read is reissued when it was not before and the other leg of its window is IN_SERVICE: that leg is WAITING, its timeout from
now. Any other read finishes NOROUTE, DENIED or LOST as a TRUNK port's leg was answered, and POISON in every other case; its response
carries no data, and it is not metered. Either way no leg of a window is lost, and, as LegCounted says, the in-flight counts fall by 1 and a leg that
carries the sample mark gives its latency (R69, R70, R72 to R74, R85, R87). The read of an ORPHAN entry, however its leg settles, frees the
entry: it is not reissued, sends no response and is not metered (R83). That the waiting leg's time is the decision's is the
model's reading (assumption 11). -/
def Obligations.GoodReadFinishes : Prop :=
  (∀ (s : State) (p q : PortIx) (req r0 : ReqId) (tag tag0 : Tag) (d : LineData), s.running → s.links[p].state = .active →
    s.matches_ p ⟨.rdata, req, tag, .good, some d⟩ = true →
    let i := tagIndex tag
    let e := s.ott.entries[i]
    e.state = .live → e.origin = .ingress q r0 tag0 → takesOffers s.links[q].state = true →
    ∃ t, exec (.rdataReceived p s.links[p].expSeq req tag .good (some d)) s = .next t
      ∧ t.ott.entries[i] = .freed e.gen
      ∧ t.links[q].txQueue = s.links[q].txQueue ++ [.response ⟨.rdata, r0, tag0, .good, some d⟩]
      ∧ (i.1 < 992 → t.ott.serverFree = s.ott.serverFree ++ [i])
      ∧ (t.windows[e.window]).outstanding = (s.windows[e.window]).outstanding - 1
      ∧ ((t.contrib[e.tenant])[(e.leg (tagSide tag)).port]).inFlight =
          ((s.contrib[e.tenant])[(e.leg (tagSide tag)).port]).inFlight - 1
      ∧ (s.links[q].mode = .server → (e.leg (otherSide (tagSide tag))).progress ≠ .doneGood →
          (t.tenants[e.tenant]).acc = clampInt (-(2 ^ 95 - 1)) (2 ^ 95 - 1)
            ((s.tenants[e.tenant]).acc +
              increment (s.cards[(s.tenants[e.tenant]).card]) true (e.leg (tagSide tag)).congested))
      ∧ s.Metered i (s.links[q].mode == .server) (s.congestedWith i (tagSide tag)) t
      ∧ s.LegCounted i (tagSide tag) false t
      ∧ (∀ j : OttIx, j ≠ i → t.ott.entries[j] = s.ott.entries[j]))
  ∧ (∀ (s : State) (p q : PortIx) (req r0 : ReqId) (tag tag0 : Tag) (status : Status), s.running → s.links[p].state = .active →
    status ≠ .good → s.matches_ p ⟨.rdata, req, tag, status, none⟩ = true →
    let i := tagIndex tag
    let x := tagSide tag
    let e := s.ott.entries[i]
    let l := e.leg x
    let spare := (s.windows[e.window]).leg (otherSide x)
    let taken := takenStatus s.links[p].mode status
    let again := e.reissued = false ∧ spare.state = .inService
    let final : Status := match taken with
      | .noroute => .noroute
      | .denied => .denied
      | .lost => .lost
      | .good => .poison
      | .poison => .poison
      | .fault => .poison
    e.state = .live → e.origin = .ingress q r0 tag0 → takesOffers s.links[q].state = true →
    ∃ t, exec (.rdataReceived p s.links[p].expSeq req tag status none) s = .next t
      ∧ (again → (t.ott.entries[i]).state = .live ∧ (t.ott.entries[i]).reissued = true
        ∧ (t.ott.entries[i]).leg x = { l with progress := .doneFailed, failStatus := some taken, sample := false }
        ∧ (t.ott.entries[i]).leg (otherSide x) = { OttLeg.none with
            progress := .waiting, port := spare.port, reqId := s.carriedId spare, sentTime := s.time
            timeout := s.settings.completionTimeout }
        ∧ t.links[q].txQueue = s.links[q].txQueue ∧ t.windows = s.windows)
      ∧ (¬again → t.ott.entries[i] = .freed e.gen
        ∧ t.links[q].txQueue = s.links[q].txQueue ++ [.response ⟨.rdata, r0, tag0, final, none⟩]
        ∧ t.windows = mapAt s.windows e.window (fun win => { win with outstanding := win.outstanding - 1 }))
      ∧ s.LegCounted i x false t
      ∧ t.links[p].health = s.links[p].health
      ∧ (∀ j : OttIx, j ≠ i → t.ott.entries[j] = s.ott.entries[j])
      ∧ SameExcept [.links, .stages, .windows, .ott, .monitors, .contrib, .ring, .causes] s t)
  ∧ ∀ (s : State) (c : Instr) (i : OttIx) (x : Side) (way : SettleWay), s.running → s.SettledBy c i x way →
    let e := s.ott.entries[i]
    e.state = .orphan → e.body = .rd →
    ∃ t, exec c s = .next t ∧ t.ott.entries[i] = .freed e.gen
      ∧ t.windows = mapAt s.windows e.window (fun win => { win with outstanding := win.outstanding - 1 })
      ∧ (∀ q : PortIx, t.links[q].txQueue = s.links[q].txQueue) ∧ s.Metered i false false t

/-- A WACK that matches a SENT leg of a LIVE write of server or trunk origin settles the leg. Taken as GOOD it makes the leg DONE_GOOD: the write
waits while its other leg is SENT, and finishes GOOD otherwise. Taken as any other status, or at its completion timeout, which also adds
128 to the health score of its link, the leg is DONE_FAILED, which is one loss of that leg of its window alone: IN_SERVICE or
REBUILDING, it becomes LOST, and LEG_LOST is raised, or WINDOW_UNAVAILABLE when no leg is IN_SERVICE then; already LOST, nothing is
raised. LINK_FAILED is not raised and no sweep is queued, and the rebuild whose leg it is fails. The write then waits for its other
SENT leg or finishes with the status of Table 4-4. A write that finishes frees its entry, and its WACK joins the ingress link's transmit
queue, behind the answers of reads that waited to be reissued on the lost leg (R69, R70, R73, R75 to R77, R79, R139, R157). A GOOD finish
of a SERVER port's write is metered, congested when a DONE_GOOD leg is; no other one is (R80). Either way, as LegCounted says, the
in-flight counts fall by 1 (R85). The write of an ORPHAN entry whose last SENT leg settles, in any way, frees the entry, sends no
response and is not metered (R83). -/
def Obligations.GoodWriteFinishes : Prop :=
  ∀ s : State, s.running →
    let live := fun (i : OttIx) (q : PortIx) (r0 : ReqId) (tag0 : Tag) =>
      (s.ott.entries[i]).state = .live ∧ (s.ott.entries[i]).origin = .ingress q r0 tag0 ∧ takesOffers s.links[q].state = true
    let awaits := fun j : OttIx => ∃ x : Side, ((s.ott.entries[j]).leg x).progress = .waiting
    let fails := fun (i : OttIx) (x : Side) (q : PortIx) (r0 : ReqId) (tag0 : Tag) (fail : Option Status) (t : State) =>
      let e := s.ott.entries[i]
      let other := (e.leg (otherSide x)).progress
      let was := ((s.windows[e.window]).leg x).state
      let final : Status := if other = .doneGood then .good
        else if other = .none ∧ s.links[(e.leg x).port].mode = .trunk then fail.getD .lost else .lost
      let lossCause : Cause := if ((t.windows[e.window]).leg (otherSide x)).state = .inService then .legLost else .windowUnavailable
      (was = .inService ∨ was = .rebuilding → ((t.windows[e.window]).leg x).state = .lost
        ∧ (t.causes.entries[causeIx lossCause]).pending = true
        ∧ (t.causes.entries[causeIx lossCause]).detail.toNat ≤ e.window.1
        ∧ (s.copy.state = .copying → s.copy.window = some e.window → s.copy.rebuilding = x →
            t.copy.state ≠ .copying ∧ t.copy.reason = .rebuildLegLost))
      ∧ (was = .lost → ((t.windows[e.window]).leg x).state = .lost
        ∧ t.causes.entries[causeIx .legLost] = s.causes.entries[causeIx .legLost]
        ∧ t.causes.entries[causeIx .windowUnavailable] = s.causes.entries[causeIx .windowUnavailable])
      ∧ s.LegCounted i x false t
      ∧ (other ≠ .waiting → s.Metered i (other == .doneGood && s.links[q].mode == .server) (e.leg (otherSide x)).congested t)
      ∧ t.causes.entries[causeIx .linkFailed] = s.causes.entries[causeIx .linkFailed]
      ∧ (other = .sent → (t.ott.entries[i]).state = .live ∧ ((t.ott.entries[i]).leg x).progress = .doneFailed
        ∧ ((t.ott.entries[i]).leg x).failStatus = fail ∧ (t.ott.entries[i]).leg (otherSide x) = e.leg (otherSide x)
        ∧ ((∀ j, ¬awaits j) → t.links[q].txQueue = s.links[q].txQueue))
      ∧ (other ≠ .sent → other ≠ .waiting → t.ott.entries[i] = .freed e.gen
        ∧ (∃ before, t.links[q].txQueue = s.links[q].txQueue ++ before ++ [.response ⟨.wack, r0, tag0, final, none⟩]
          ∧ ((∀ j, ¬awaits j) → before = [])))
      ∧ (∀ j : OttIx, j ≠ i → ¬awaits j → t.ott.entries[j] = s.ott.entries[j])
      ∧ SameExcept [.links, .stages, .windows, .ott, .monitors, .contrib, .pacers, .tenants, .holdList, .ring, .fabric, .copy,
          .jobs, .causes] s t
    (∀ (p q : PortIx) (req r0 : ReqId) (tag tag0 : Tag) (status : Status),
      s.links[p].state = .active → s.matches_ p ⟨.wack, req, tag, status, none⟩ = true → live (tagIndex tag) q r0 tag0 →
      let i := tagIndex tag
      let x := tagSide tag
      let e := s.ott.entries[i]
      let taken := takenStatus s.links[p].mode status
      (taken = .good → (e.leg (otherSide x)).progress ≠ .sent →
        ∃ t, exec (.wackReceived p s.links[p].expSeq req tag status) s = .next t
          ∧ t.ott.entries[i] = .freed e.gen
          ∧ t.links[q].txQueue = s.links[q].txQueue ++ [.response ⟨.wack, r0, tag0, .good, none⟩]
          ∧ (t.windows[e.window]).outstanding = (s.windows[e.window]).outstanding - 1
          ∧ s.Metered i (s.links[q].mode == .server) (s.congestedWith i x) t ∧ s.LegCounted i x false t)
      ∧ (taken = .good → (e.leg (otherSide x)).progress = .sent →
        ∃ t, exec (.wackReceived p s.links[p].expSeq req tag status) s = .next t
          ∧ (t.ott.entries[i]).state = .live ∧ ((t.ott.entries[i]).leg x).progress = .doneGood
          ∧ (t.ott.entries[i]).leg (otherSide x) = e.leg (otherSide x)
          ∧ t.links[q].txQueue = s.links[q].txQueue ∧ s.Metered i false false t ∧ s.LegCounted i x false t)
      ∧ (taken ≠ .good →
        ∃ t, exec (.wackReceived p s.links[p].expSeq req tag status) s = .next t ∧ fails i x q r0 tag0 (some taken) t))
    ∧ (∀ (i : OttIx) (x : Side) (q : PortIx) (r0 : ReqId) (tag0 : Tag),
      let l := (s.ott.entries[i]).leg x
      live i q r0 tag0 → (s.ott.entries[i]).body ≠ .rd → l.progress = .sent → l.timeout ≤ (s.time - l.sentTime).toNat →
      ∃ t, exec (.completionTimeout i x) s = .next t ∧ fails i x q r0 tag0 none t
        ∧ t.links[l.port].health = min 1023 (s.links[l.port].health + 128))
    ∧ ∀ (c : Instr) (i : OttIx) (x : Side) (way : SettleWay), s.SettledBy c i x way → s.LastSent i x way →
      let e := s.ott.entries[i]
      e.state = .orphan → e.body ≠ .rd →
      ∃ t, exec c s = .next t ∧ t.ott.entries[i] = .freed e.gen ∧ s.Metered i false false t
        ∧ ((∀ j, ¬awaits j) → (t.windows[e.window]).outstanding = (s.windows[e.window]).outstanding - 1
          ∧ ∀ q : PortIx, t.links[q].txQueue = s.links[q].txQueue)

/-- A response accepted in sequence that matches no leg is late: the link accepts it, the port's late-response counter rises by 1, and nothing
else in the part changes (R68). -/
def Obligations.LateResponseOnlyCounted : Prop :=
  ∀ (s : State) (p : PortIx) (r : Response), s.running → s.links[p].state = .active →
    messageOk (.payload s.links[p].expSeq (.response r)) = true → s.matches_ p r = false →
    ∃ t, exec (messageCommand p (.payload s.links[p].expSeq (.response r))) s = .next t
      ∧ t.links[p] = { s.links[p] with
          expSeq := s.links[p].expSeq + 1
          ackOwed := min 16 (s.links[p].ackOwed + 1)
          episode := false
          counters := { s.links[p].counters with
            lateResponses := satInc (2 ^ 32 - 1) s.links[p].counters.lateResponses } }
      ∧ OnlyLinkOf p [] s t

/-- The completion timeout of the SENT leg of a LIVE read of server or trunk origin adds 128 to the health score of the leg's link. With the
other leg of its window not IN_SERVICE the read finishes POISON and its entry becomes FREE; with it IN_SERVICE the read is
reissued, the other leg WAITING from now (R70, R72, R73, R74, R77). Either way, as LegCounted says, the in-flight counts fall by 1 and a
leg that carries the sample mark gives its latency (R85, R87). That the waiting leg's time is the decision's is the model's
reading (assumption 11). -/
def Obligations.ReadLegTimesOut : Prop :=
  ∀ (s : State) (i : OttIx) (side : Side) (q : PortIx) (r0 : ReqId) (tag0 : Tag), s.running →
    let e := s.ott.entries[i]
    let l := e.leg side
    e.state = .live → e.origin = .ingress q r0 tag0 → e.body = .rd → e.reissued = false → l.progress = .sent →
    l.timeout ≤ (s.time - l.sentTime).toNat →
    (((s.windows[e.window]).leg (otherSide side)).state ≠ .inService → takesOffers s.links[q].state = true →
      ∃ t, exec (.completionTimeout i side) s = .next t
        ∧ t.ott.entries[i] = .freed e.gen
        ∧ t.links[q].txQueue = s.links[q].txQueue ++ [.response ⟨.rdata, r0, tag0, .poison, none⟩]
        ∧ s.LegCounted i side false t
        ∧ t.links[l.port].health = min 1023 (s.links[l.port].health + 128))
    ∧ (((s.windows[e.window]).leg (otherSide side)).state = .inService →
      ∃ t, exec (.completionTimeout i side) s = .next t
        ∧ (t.ott.entries[i]).state = .live ∧ (t.ott.entries[i]).reissued = true
        ∧ ((t.ott.entries[i]).leg side).progress = .doneFailed
        ∧ ((t.ott.entries[i]).leg (otherSide side)).progress = .waiting
        ∧ ((t.ott.entries[i]).leg (otherSide side)).port = ((s.windows[e.window]).leg (otherSide side)).port
        ∧ ((t.ott.entries[i]).leg (otherSide side)).sentTime = s.time
        ∧ s.LegCounted i side false t
        ∧ t.links[l.port].health = min 1023 (s.links[l.port].health + 128))

/-- A reissued read takes a send credit for its WAITING leg as soon as one is there: the leg becomes SENT, the request joins the link's transmit
queue with the entry's tag and the other leg bit, and the in-flight counts rise by 1; it is no latency sample. Without a credit nothing
changes (R73, R86). That the leg keeps the decision's time is the model's reading (assumption 11). -/
def Obligations.ReissueTakesCredit : Prop :=
  ∀ (s : State) (i : OttIx) (side : Side), s.running →
    let e := s.ott.entries[i]
    let win := s.windows[e.window]
    let l := win.leg side
    e.waitingSide = some side →
    (takesOffers s.links[l.port].state = true → 1 ≤ s.links[l.port].sendCredit[s.carriedId l] →
      ∃ t, exec (.reissueSent i) s = .next t
        ∧ ((t.ott.entries[i]).leg side).progress = .sent ∧ ((t.ott.entries[i]).leg side).sentTime = (e.leg side).sentTime
        ∧ t.links[l.port] = { s.links[l.port] with
            txQueue := s.links[l.port].txQueue ++
              [.request ⟨s.carriedId l, forwardTag i e.gen side, win.targetLine side e.line.toNat, e.body⟩]
            sendCredit := mapAt s.links[l.port].sendCredit (s.carriedId l) fun c => c - 1 }
        ∧ ((t.ott.entries[i]).leg side).sample = (e.leg side).sample
        ∧ t.monitors = mapAt s.monitors l.port (fun m => { m with inFlight := m.inFlight + 1 })
        ∧ ((t.contrib[e.tenant])[l.port]).inFlight = ((s.contrib[e.tenant])[l.port]).inFlight + 1
        ∧ OnlyLinkOf l.port [.ott, .monitors, .contrib] s t)
    ∧ (s.links[l.port].sendCredit[s.carriedId l] = 0 → exec (.reissueSent i) s = .next s)

/-! ### Chapter 8: the failover sweep -/

/-- A sweep's visit settles every leg of the entry at its position that is SENT on the swept port and stale or on a FAILED link. For each,
the in-flight counts of its port, and of the tenant there, fall by 1, a sample mark makes the port's monitor IDLE without a latency (R87),
and no health score changes. The leg becomes ABANDONED: a LIVE
read is reissued when the other leg of its window is IN_SERVICE and it was not reissued before, and any other read finishes; a
write waits for its other SENT leg, or finishes. A finished entry is FREE with its generation. An entry without such a leg is passed
by unchanged. The position rises by 1; the visit of entry 1023 ends the sweep, and the next queued port is swept from entry 0
(R70, R72, R76, R141, R142). That the position of an IDLE sweep is 0 is the model's choice (assumption 25). -/
def Obligations.SweepVisitSettlesEntry : Prop :=
  ∀ (s : State) (p : PortIx), s.running → s.sweep.port = some p →
    let i := s.sweep.position
    let e := s.ott.entries[i]
    let hit := fun x : Side => s.sweepable p (e.leg x) = true
    ∃ t, exec .sweepVisit s = .next t
      ∧ (∀ h : i.1 + 1 < 1024, t.sweep = ⟨some p, ⟨i.1 + 1, h⟩, s.sweep.queue⟩)
      ∧ (i.1 = 1023 → s.sweep.queue = [] → t.sweep = ⟨none, 0, []⟩)
      ∧ (∀ q more, i.1 = 1023 → s.sweep.queue = q :: more → t.sweep = ⟨some q, 0, more⟩)
      ∧ (∀ x, t.sweepable p ((t.ott.entries[i]).leg x) = false)
      ∧ (∀ q : PortIx, t.links[q].health = s.links[q].health ∧ t.links[q].healthState = s.links[q].healthState)
      ∧ ((∀ x, ¬hit x) → SameExcept [.sweep] s t)
      ∧ (∀ x, hit x → (e.body = .rd → ¬hit (otherSide x)) →
          let n := if hit (otherSide x) then 2 else 1
          (t.monitors[p]).inFlight = (s.monitors[p]).inFlight - n
          ∧ ((t.contrib[e.tenant])[p]).inFlight = ((s.contrib[e.tenant])[p]).inFlight - n)
      ∧ (∀ x, hit x → ¬hit (otherSide x) → s.LegCounted i x true t)
      ∧ (∀ x, hit x → ¬hit (otherSide x) → e.body = .rd →
          let again := e.state = .live ∧ e.reissued = false ∧ ((s.windows[e.window]).leg (otherSide x)).state = .inService
          (again → (t.ott.entries[i]).state = .live ∧ (t.ott.entries[i]).reissued = true
            ∧ ((t.ott.entries[i]).leg x).progress = .abandoned ∧ ((t.ott.entries[i]).leg (otherSide x)).progress = .waiting)
          ∧ (¬again → e.state ≠ .free → t.ott.entries[i] = .freed e.gen))
      ∧ (∀ x, hit x → e.body ≠ .rd →
          (¬hit (otherSide x) → (e.leg (otherSide x)).progress = .sent →
            (t.ott.entries[i]).state = e.state ∧ ((t.ott.entries[i]).leg x).progress = .abandoned
              ∧ (t.ott.entries[i]).leg (otherSide x) = e.leg (otherSide x))
          ∧ (hit (otherSide x) ∨ (e.leg (otherSide x)).progress ≠ .sent → e.state ≠ .free → t.ott.entries[i] = .freed e.gen))

/-! ### Chapter 5: congestion relief and pacing -/

/-- An evaluation that judges a port CLEAR lowers every tenant's level there by 1, to no less than 0, and no level elsewhere changes; the port
state is CLEAR, the fresh flag clear, an IDLE sample ARMED and the relief timer restarted (R86, R88, R89, R91). That the timer
restarts at the fabric time at which its expiry is taken, which is that of its n-th tick, is the model's choice (assumption 4). -/
def Obligations.ClearEvaluationLowersLevels : Prop :=
  ∀ (s : State) (p : PortIx), s.running → (s.monitors[p]).reliefTimer.due s.time = true → s.judgedCongested p = false →
    ∃ t, exec (.reliefTimerExpiry p) s = .next t
      ∧ (∀ k : TenantIx, ((t.contrib[k])[p]).level = ((s.contrib[k])[p]).level - 1
          ∧ ((t.contrib[k])[p]).inFlight = ((s.contrib[k])[p]).inFlight)
      ∧ (∀ (k : TenantIx) (q : PortIx), q ≠ p → (t.contrib[k])[q] = (s.contrib[k])[q])
      ∧ t.monitors[p] = { s.monitors[p] with
          portState := .clear
          fresh := false
          sample := if (s.monitors[p]).sample = .idle then .armed else (s.monitors[p]).sample
          reliefTimer := ⟨s.time, s.settings.reliefInterval⟩ }
      ∧ SameExcept [.monitors, .contrib, .pacers, .tenants] s t

/-- An evaluation that judges a port CONGESTED raises each contributor's level there by 1, to at most 3, and lowers every other tenant's by 1; a
tenant with legs there contributes when it passes the share test or has the largest count, the lowest number among equals.
A port that was CLEAR raises PORT_CONGESTED with its bit (R89, R90). The fresh flag is clear, an IDLE sample ARMED and the relief timer
restarted (R86, R88), at the fabric time at which its expiry is taken (assumption 4). -/
def Obligations.CongestedEvaluationRaisesContributors : Prop :=
  ∀ (s : State) (p : PortIx), s.running → (s.monitors[p]).reliefTimer.due s.time = true → s.judgedCongested p = true →
    let n := fun k : TenantIx => ((s.contrib[k])[p]).inFlight
    let total := (s.monitors[p]).inFlight
    ∃ t, exec (.reliefTimerExpiry p) s = .next t
      ∧ (∀ k : TenantIx, 0 < total → 0 < n k →
          (s.settings.share * total ≤ n k * 256 ∨ ((∀ j : TenantIx, n j ≤ n k) ∧ ∀ j : TenantIx, j < k → n j < n k)) →
          ((t.contrib[k])[p]).level = min 3 (((s.contrib[k])[p]).level + 1))
      ∧ (∀ k : TenantIx, (total = 0 ∨ n k = 0 ∨
            (n k * 256 < s.settings.share * total ∧ ∃ j : TenantIx, n k < n j ∨ (j < k ∧ n k ≤ n j))) →
          ((t.contrib[k])[p]).level = ((s.contrib[k])[p]).level - 1)
      ∧ t.monitors[p] = { s.monitors[p] with
          portState := .congested
          fresh := false
          sample := if (s.monitors[p]).sample = .idle then .armed else (s.monitors[p]).sample
          reliefTimer := ⟨s.time, s.settings.reliefInterval⟩ }
      ∧ ((s.monitors[p]).portState = .clear →
          (t.causes.entries[causeIx .portCongested]).pending = true
            ∧ (t.causes.entries[causeIx .portCongested]).detail &&& bitDetail p.1 = bitDetail p.1)

/-- The pacer. At the end of its phase, CLOSED is followed by OPEN for the entry's open width, with 0 used as 1 µs, and OPEN by CLOSED
for its closed width, or, when that is 0, by OPEN with the timer stopped. A rise of the effective level restarts it at once, CLOSED
for the closed width of the entry for the new level, or, when that is 0, OPEN with its timer stopped; a fall to 0 opens it and
stops its timer. At a fall to 1 or more the running phase goes on, its timer as it is; with the timer stopped, an OPEN phase begins at
once when the new entry has a closed width above 0, and nothing else changes otherwise. A change of level, a fall too, raises the highest level of a tenant that is not UNUSED to the new level when it is
below it (R94 to R98). That an UNUSED tenant's record is left alone is the model's reading (assumption 12). -/
def Obligations.PacerPhases : Prop :=
  ∀ (s : State) (k : TenantIx),
    let p := s.pacers[k]
    let profile := s.profiles[(s.tenants[k]).profile]
    let w := profile.entry p.level
    let level := s.effectiveLevel k
    let changed := profile.entry level
    (s.running → timerDue p.timer s.time = true → p.phase = .closed →
      ∃ t, exec (.phaseEnd k) s = .next t
        ∧ t.pacers = mapAt s.pacers k (fun p => { p with phase := .opened, timer := some ⟨s.time, max 1 w.openUs⟩ })
        ∧ SameExcept [.pacers, .tenants] s t)
    ∧ (s.running → timerDue p.timer s.time = true → p.phase = .opened → 0 < w.closedUs →
      ∃ t, exec (.phaseEnd k) s = .next t
        ∧ t.pacers = mapAt s.pacers k (fun p => { p with phase := .closed, timer := some ⟨s.time, w.closedUs⟩ })
        ∧ SameExcept [.pacers, .tenants] s t)
    ∧ (s.running → timerDue p.timer s.time = true → p.phase = .opened → w.closedUs = 0 →
      ∃ t, exec (.phaseEnd k) s = .next t
        ∧ t.pacers = mapAt s.pacers k (fun p => { p with phase := .opened, timer := none })
        ∧ SameExcept [.pacers] s t)
    ∧ (p.level < level → 0 < changed.closedUs →
      (s.repace k).pacers[k] = ⟨level, .closed, some ⟨s.time, changed.closedUs⟩⟩)
    ∧ (p.level < level → changed.closedUs = 0 → (s.repace k).pacers[k] = ⟨level, .opened, none⟩)
    ∧ (level = 0 → 0 < p.level → (s.repace k).pacers[k] = ⟨0, .opened, none⟩)
    ∧ (1 ≤ level → level < p.level → (p.timer ≠ none ∨ changed.closedUs = 0) → (s.repace k).pacers[k] = { p with level := level })
    ∧ (1 ≤ level → level < p.level → p.timer = none → 0 < changed.closedUs →
      (s.repace k).pacers[k] = ⟨level, .opened, some ⟨s.time, max 1 changed.openUs⟩⟩)
    ∧ (p.level ≠ level → (s.tenants[k]).state ≠ .unused →
      (s.repace k).tenants = mapAt s.tenants k (fun r => { r with highest := max r.highest level }))
    ∧ (p.level = level → s.repace k = s)

/-! ### Chapter 6: metering and the charge -/

/-- The meter block's addition: the accumulator grows by rate times factor and saturates at 2^95 − 1 in magnitude with OS set, and exactly one line meter,
the one Table 6-3 names, rises by 1 or, at 2^40 − 1, stays with MSAT set; no other tenant's record changes (R108 to R110). A saturation
raises BALANCE_SATURATED with the tenant, the lowest one kept while it is pending (R113). The ceiling test follows: with the ceiling
present, CAPPED clear and the whole BU of the accumulator, rounded down, at least the ceiling, CAPPED and capped in epoch are set,
TENANT_CAPPED is raised with the tenant, and the pacer runs at the effective level with the cap level in it (R94, R111). -/
def Obligations.MeterAddsOneLine : Prop :=
  ∀ (s : State) (k : TenantIx) (read congested : Bool),
    let r := s.tenants[k]
    let card := s.cards[r.card]
    let rate := if read then card.rr else card.wr
    let factor := if congested then 256 + card.surcharge else 256
    let sum : Int := r.acc + (rate * factor : Nat)
    let t := s.meter k read congested
    let after := t.tenants[k]
    let raised := fun c : Cause => t.causes.entries[causeIx c] = { s.causes.entries[causeIx c] with
      pending := true
      detail := if (s.causes.entries[causeIx c]).pending = true ∧ (s.causes.entries[causeIx c]).detail.toNat ≤ k.1
        then (s.causes.entries[causeIx c]).detail else BitVec.ofNat 16 k.1 }
    let reached := r.capped = false ∧ ∃ ceiling, r.ceiling = some ceiling ∧ (ceiling : Int) ≤ after.acc / 2 ^ 24
    let bump := fun (this : Bool) (v : Nat) => if this && decide (v < 2 ^ 40 - 1) then v + 1 else v
    after.acc = (if 2 ^ 95 - 1 < sum then 2 ^ 95 - 1 else if sum < -(2 ^ 95 - 1) then -(2 ^ 95 - 1) else sum)
    ∧ after.os = (r.os || decide (after.acc ≠ sum))
    ∧ after.rl = bump (read && !congested) r.rl ∧ after.rlc = bump (read && congested) r.rlc
    ∧ after.wl = bump (!read && !congested) r.wl ∧ after.wlc = bump (!read && congested) r.wlc
    ∧ after.msat = (r.msat || decide ((if read then (if congested then r.rlc else r.rl) else if congested then r.wlc else r.wl)
        ≥ 2 ^ 40 - 1))
    ∧ (after.acc ≠ sum → raised .balanceSaturated)
    ∧ (reached → after.capped = true ∧ after.cappedInEpoch = true ∧ raised .tenantCapped
      ∧ (t.pacers[k]).level = t.effectiveLevel k)
    ∧ (¬reached → after.capped = r.capped ∧ after.cappedInEpoch = r.cappedInEpoch ∧ after.highest = r.highest
      ∧ t.pacers = s.pacers)
    ∧ (∀ c : Cause, ¬(c = .balanceSaturated ∧ after.acc ≠ sum) → ¬(c = .tenantCapped ∧ reached) →
      t.causes.entries[causeIx c] = s.causes.entries[causeIx c])
    ∧ after = { r with
        acc := after.acc, os := after.os, rl := after.rl, rlc := after.rlc, wl := after.wl, wlc := after.wlc, msat := after.msat
        capped := after.capped, cappedInEpoch := after.cappedInEpoch, highest := after.highest }
    ∧ (∀ j : TenantIx, j ≠ k → t.tenants[j] = s.tenants[j] ∧ t.pacers[j] = s.pacers[j])
    ∧ SameExcept [.tenants, .pacers, .causes] s t

/-- The charge at close: the total A + J × 2^24 is rounded as Table 6-4 gives, NEAREST to within half a BU, UP and DOWN to the next whole BU above and
below, TRUNC toward zero, and a half rounds away from zero in NEAREST; while it is not clamped the charge is that quotient. The
residue is carried exactly when the card's carry is on, nothing is clamped and the close is not FINAL, and then the charge and the
new accumulator together hold the whole total (R114, R115). The balance becomes B + C while that lies within −2^47 to 2^47 − 1, and is cut to
the nearer limit otherwise (R116). -/
def Obligations.ChargeKeepsTotal : Prop :=
  ∀ (r : Tenant) (card : RateCard) (final : Bool),
    let total := r.acc + r.adj * 2 ^ 24
    let c := chargeAtClose r card final
    (c.clamped = false → c.charge = roundUnits card.rounding total)
    ∧ (c.carried = true → c.charge * 2 ^ 24 + c.acc = total)
    ∧ (c.carried = false → c.acc = 0)
    ∧ (c.carried = true ↔ card.carry = true ∧ c.clamped = false ∧ final = false)
    ∧ (c.clamped = true ↔ roundUnits card.rounding total < -2 ^ 47 ∨ 2 ^ 47 - 1 < roundUnits card.rounding total)
    ∧ -2 ^ 47 ≤ c.charge ∧ c.charge ≤ 2 ^ 47 - 1 ∧ -2 ^ 47 ≤ c.balance ∧ c.balance ≤ 2 ^ 47 - 1
    ∧ (-2 ^ 47 ≤ r.balance + c.charge → r.balance + c.charge ≤ 2 ^ 47 - 1 → c.balance = r.balance + c.charge ∧ c.balanceCut = false)
    ∧ (r.balance + c.charge < -2 ^ 47 → c.balance = -2 ^ 47 ∧ c.balanceCut = true)
    ∧ (2 ^ 47 - 1 < r.balance + c.charge → c.balance = 2 ^ 47 - 1 ∧ c.balanceCut = true)
    ∧ 2 * |total - roundUnits .nearest total * 2 ^ 24| ≤ 2 ^ 24
    ∧ (2 * |total - roundUnits .nearest total * 2 ^ 24| = 2 ^ 24 → |total| ≤ |roundUnits .nearest total * 2 ^ 24|)
    ∧ 0 ≤ roundUnits .up total * 2 ^ 24 - total ∧ roundUnits .up total * 2 ^ 24 - total < 2 ^ 24
    ∧ 0 ≤ total - roundUnits .down total * 2 ^ 24 ∧ total - roundUnits .down total * 2 ^ 24 < 2 ^ 24
    ∧ |roundUnits .trunc total * 2 ^ 24| ≤ |total| ∧ |total - roundUnits .trunc total * 2 ^ 24| < 2 ^ 24

/-! ### Chapter 7: epochs, hold list and ring -/

/-- A close step of a FULL walk with a place in the hold list closes the ACTIVE tenant at its position: a record with the closing values and the close
time joins the hold list, and the tenant's next epoch opens with J, the meters, NR, DN, MSAT and both capped flags at 0 or
clear and the epoch number raised by 1; a clamp of the charge or a cut of the balance raises BALANCE_SATURATED (R113). The walk moves on to the next ACTIVE tenant (R114 to R116, R124, R127), WAITING when
the hold list is then full (assumption 15). With no ACTIVE tenant left the walk ends: a job that started it is DONE with the number of
records built, and JOB_DONE is raised with the CLOSE slot's bit; a pended FULL walk starts at tenant 0 without a job, and otherwise the
closer is IDLE at position 0 (R123, R124), its walk kind and records-built count kept (assumption 13). Tenant 0 is ACTIVE, as
EveryStepKeepsRanges states. -/
def Obligations.CloseStepOpensNextEpoch : Prop :=
  ∀ s : State, s.running → s.closer.state ≠ .idle → s.closer.kind = .full → s.holdList.length < 8 →
    (s.tenants[s.closer.position]).state = .active →
    let k := s.closer.position
    let r := s.tenants[k]
    let card := s.cards[r.card]
    let c := chargeAtClose r card false
    let record : BillingRecord :=
      { tenant := k, ov := c.clamped, os := r.os || c.clamped || c.balanceCut, cappedInEpoch := r.cappedInEpoch
        msat := r.msat, final := false, carry := c.carried, card := r.card, rounding := card.rounding
        profile := r.profile, highest := r.highest, epoch := r.epoch, rl := r.rl, wl := r.wl, rlc := r.rlc, wlc := r.wlc
        charge := c.charge, balance := c.balance, nr := r.nr, dn := r.dn, closeTime := s.time }
    ∃ t, exec .close s = .next t ∧ t.holdList = s.holdList ++ [record]
      ∧ t.tenants = mapAt s.tenants k (fun r => { r with
          acc := c.acc, balance := c.balance, adj := 0, os := record.os, rl := 0, wl := 0, rlc := 0, wlc := 0
          nr := 0, dn := 0, msat := false, capped := false, cappedInEpoch := false, epoch := r.epoch + 1
          highest := max (s.congestionLevel k) r.floor })
      ∧ (c.clamped = true ∨ c.balanceCut = true → (t.causes.entries[causeIx .balanceSaturated]).pending = true
        ∧ (t.causes.entries[causeIx .balanceSaturated]).detail.toNat ≤ k.1)
      ∧ (c.clamped = false → c.balanceCut = false →
        t.causes.entries[causeIx .balanceSaturated] = s.causes.entries[causeIx .balanceSaturated])
      ∧ (∀ n, s.nextActive (k.1 + 1) = some n →
          t.closer = { s.closer with
            state := if s.holdList.length + 1 < 8 then .walking else .waiting
            position := n
            built := s.closer.built + 1 } ∧ t.jobs = s.jobs)
      ∧ (s.nextActive (k.1 + 1) = none →
          (s.closer.walkJob = true → t.jobs = { s.jobs with close := ⟨.done, s.closer.built + 1⟩ }
            ∧ (t.causes.entries[causeIx .jobDone]).pending = true ∧ (t.causes.entries[causeIx .jobDone]).detail &&& 1#16 = 1#16)
          ∧ (s.closer.walkJob = false → t.jobs = s.jobs
            ∧ t.causes.entries[causeIx .jobDone] = s.causes.entries[causeIx .jobDone])
          ∧ (s.closer.pendingFlag = false → t.closer = { s.closer with
              state := .idle, position := 0, walkJob := false, built := s.closer.built + 1 })
          ∧ (s.closer.pendingFlag = true → s.FabricTenantActive → t.closer = { s.closer with
              state := if s.holdList.length + 1 < 8 then .walking else .waiting
              position := 0, walkJob := false, built := 0, pendingFlag := false }))

/-- The close step of a RETIRE walk builds a record of the closing values with the FINAL flag and without carry, returns its tenant to UNUSED with every
field 0, and ends the walk: the CLOSE job becomes DONE with the tenant as its result, and with no pended walk the closer is IDLE. A clamp
of the charge or a cut of the balance raises BALANCE_SATURATED (R113 to R116, R124, R126, R127). -/
def Obligations.FinalCloseRetiresTenant : Prop :=
  ∀ s : State, s.running → s.closer.state ≠ .idle → s.closer.kind = .retire → s.holdList.length < 8 →
    (s.tenants[s.closer.position]).state = .retiring → s.closer.walkJob = true → s.closer.pendingFlag = false →
    let r := s.tenants[s.closer.position]
    let card := s.cards[r.card]
    let c := chargeAtClose r card true
    let record : BillingRecord :=
      { tenant := s.closer.position, ov := c.clamped, os := r.os || c.clamped || c.balanceCut, cappedInEpoch := r.cappedInEpoch
        msat := r.msat, final := true, carry := false, card := r.card, rounding := card.rounding
        profile := r.profile, highest := r.highest, epoch := r.epoch, rl := r.rl, wl := r.wl, rlc := r.rlc, wlc := r.wlc
        charge := c.charge, balance := c.balance, nr := r.nr, dn := r.dn, closeTime := s.time }
    ∃ t, exec .finalClose s = .next t ∧ t.holdList = s.holdList ++ [record]
      ∧ (c.clamped = true ∨ c.balanceCut = true → (t.causes.entries[causeIx .balanceSaturated]).pending = true
        ∧ (t.causes.entries[causeIx .balanceSaturated]).detail.toNat ≤ s.closer.position.1)
      ∧ t.tenants[s.closer.position] = Tenant.unused
      ∧ (∀ j : TenantIx, j ≠ s.closer.position → t.tenants[j] = s.tenants[j])
      ∧ t.closer.state = .idle ∧ t.closer.position = 0 ∧ t.jobs = { s.jobs with close := ⟨.done, s.closer.position.1⟩ }
      ∧ (t.causes.entries[causeIx .jobDone]).pending = true
      ∧ (t.causes.entries[causeIx .jobDone]).detail &&& 1#16 = 1#16

/-- At each expiry of the epoch timer the closer acts by its state: in IDLE it starts a FULL walk at tenant 0 without a walk job; in WALKING or WAITING
it sets the pending flag, or, with the flag already set, raises the late count by 1, saturating at 65,535, and raises
WALK_LATE with the late count; the walk in progress is unchanged (R122). Tenant 0 is ACTIVE, as EveryStepKeepsRanges
states. WAITING at the start on a full hold list is the model's reading (assumption 15). -/
def Obligations.EpochTimerExpires : Prop :=
  ∀ s : State, s.running → timerDue s.closer.timer s.time = true → s.FabricTenantActive →
    let late := satInc 65535 s.closer.lateCount
    (s.closer.state = .idle →
      ∃ t, exec .epochTimerExpiry s = .next t
        ∧ t.closer.state = (if s.holdList.length < 8 then .walking else .waiting) ∧ t.closer.kind = .full
        ∧ t.closer.position = 0 ∧ t.closer.walkJob = false ∧ t.closer.built = 0
        ∧ t.closer.pendingFlag = s.closer.pendingFlag ∧ t.closer.lateCount = s.closer.lateCount
        ∧ SameExcept [.closer] s t)
    ∧ (s.closer.state ≠ .idle → s.closer.pendingFlag = false →
      ∃ t, exec .epochTimerExpiry s = .next t
        ∧ t.closer = { s.closer with pendingFlag := true, timer := t.closer.timer } ∧ SameExcept [.closer] s t)
    ∧ (s.closer.state ≠ .idle → s.closer.pendingFlag = true →
      ∃ t, exec .epochTimerExpiry s = .next t
        ∧ t.closer = { s.closer with lateCount := late, timer := t.closer.timer }
        ∧ (t.causes.entries[causeIx .walkLate]).pending = true
        ∧ (t.causes.entries[causeIx .walkLate]).detail = BitVec.ofNat 16 late
        ∧ SameExcept [.closer, .causes] s t)

/-- The ring writer, IDLE with a ring configured, a record held and room in the ring, takes the oldest record: it is WRITING_RECORD and issues a WR of the
record to the slot of P. A record write that reports GOOD removes the oldest record, raises P by 1 and is followed by the index
write of the new P; it leaves the closer as it is. An index write that reports GOOD makes the writer IDLE. The retry timer's expiry issues
the stalled write again: the same record, or, whatever the hold list holds, P as it stands (R124, R130 to R132). The report comes when the
last SENT leg of the write's fabric entry settles, by a WACK, a completion timeout or a sweep's visit: GOOD when a leg is DONE_GOOD, and
otherwise another status, which stalls the writer, raises RING_STALLED and starts the retry timer, with P and the hold list as they were.
A GOOD WACK that finishes the entry leaves what FabricReported says. The entry is FREE then. While its other leg is SENT nothing is
reported (R76, R81, R132). -/
def Obligations.RingWriterIssues : Prop :=
  ∀ s : State,
    let j := s.ring.producerLoc.toNat % 64
    let index := fun p : RingIx => (⟨.ringIndex, BitVec.ofNat 46 (s.ring.producerLoc.toNat / 64),
      .wrm (indexLine j p) (BitVec.ofNat 64 (15 * 2 ^ j))⟩ : FabricReq)
    (∀ (b : BillingRecord) (more : List BillingRecord), s.holdList = b :: more →
      let line := BitVec.ofNat 46 ((s.ring.base.toNat + s.ring.prod.toNat % s.ring.slots * 64) / 64)
      (s.running → s.ring.configured = true → s.ring.writer = .idle →
        BitVec.ofNat 32 s.ring.slots - (s.ring.prod - s.ring.cons) ≠ 0 →
        ∃ t, exec .recordWriteIssue s = .next t
          ∧ t.ring.writer = .writingRecord ∧ t.fabric = s.fabric ++ [⟨.ringRecord, line, .wr b.toLine⟩]
          ∧ t.ring.prod = s.ring.prod ∧ SameExcept [.ring, .fabric] s t)
      ∧ (s.running → timerDue s.ring.retryTimer s.time = true → s.ring.stalled = some .record →
        ∃ t, exec .ringRetryTimerExpiry s = .next t
          ∧ t.ring.writer = .writingRecord ∧ t.fabric = s.fabric ++ [⟨.ringRecord, line, .wr b.toLine⟩]
          ∧ t.ring.retryTimer = none ∧ SameExcept [.ring, .fabric] s t)
      ∧ (s.recordReport .good).holdList = more)
    ∧ (let t := s.recordReport .good
      t.ring.prod = s.ring.prod + 1 ∧ t.ring.writer = .writingIndex ∧ t.fabric = s.fabric ++ [index (s.ring.prod + 1)]
        ∧ SameExcept [.ring, .fabric, .holdList] s t)
    ∧ s.indexReport .good = { s with ring := { s.ring with writer := .idle } }
    ∧ (s.running → timerDue s.ring.retryTimer s.time = true → s.ring.stalled = some .index →
      ∃ t, exec .ringRetryTimerExpiry s = .next t
        ∧ t.ring.writer = .writingIndex ∧ t.fabric = s.fabric ++ [index s.ring.prod]
        ∧ t.ring.retryTimer = none ∧ SameExcept [.ring, .fabric] s t)
    ∧ ∀ (c : Instr) (i : OttIx) (x : Side) (way : SettleWay), s.running → s.SettledBy c i x way →
      let e := s.ott.entries[i]
      let other := (e.leg (otherSide x)).progress
      let good := way.progress = .doneGood ∨ other = .doneGood
      let stalls := fun (which : RingWrite) (t : State) => t.ring.writer = .stalled ∧ t.ring.stalled = some which
        ∧ t.ring.retryTimer = some ⟨s.time, 1000⟩ ∧ (t.causes.entries[causeIx .ringStalled]).pending = true
        ∧ t.ring.prod = s.ring.prod ∧ t.holdList = s.holdList
      e.state = .live → e.body ≠ .rd → e.origin = .fabric .ringRecord ∨ e.origin = .fabric .ringIndex → other ≠ .waiting →
      ∃ t, exec c s = .next t
        ∧ (way.progress = .doneGood → other ≠ .sent → s.FabricReported i x .good none t)
        ∧ (s.LastSent i x way → t.ott.entries[i] = .freed e.gen
          ∧ (e.origin = .fabric .ringRecord →
            (good → t.holdList = s.holdList.tail ∧ t.ring.prod = s.ring.prod + 1 ∧ t.ring.writer = .writingIndex
              ∧ t.fabric.getLast? = some (index (s.ring.prod + 1)))
            ∧ (¬good → stalls .record t))
          ∧ (e.origin = .fabric .ringIndex →
            (good → t.ring.writer = .idle ∧ t.ring.prod = s.ring.prod ∧ t.holdList = s.holdList)
            ∧ (¬good → stalls .index t)))
        ∧ (¬s.LastSent i x way → (t.ott.entries[i]).state = .live ∧ ((t.ott.entries[i]).leg x).progress = way.progress
          ∧ t.ring.prod = s.ring.prod ∧ t.holdList = s.holdList)

/-- The consumer watch. At the dispatch of a write by a dispatcher or the fabric requester, while a ring is configured, each leg of its route
is recorded with the 4-byte value at the consumer location if its port and target line are those of an IN_SERVICE leg of the ENABLED
window of tenant 0 that covers the location, and the write covers the 4 bytes: a WR always, a WRM when its mask selects all four. A
recorded leg that settles leaves the watch list: settling GOOD it gives its value, and otherwise, at a timeout, another status or a
sweep's visit, none (R133). A value V that the watch takes becomes C when P − V is at most N and V − C is at most P − C, modulo 2^32; any
other is rejected: C keeps its value and RING_INDEX_BAD is raised (R134). That P is taken as it stands before a record write that
finishes in the same event is the model's choice (assumption 20). -/
def Obligations.ConsumerValueTested : Prop :=
  ∀ s : State,
    let r := s.ring
    let ok := fun v : RingIx => (r.prod - v).toNat ≤ r.slots ∧ (v - r.cons).toNat ≤ (r.prod - r.cons).toNat
    let loc := r.consumerLoc.toNat
    let line := loc / 64
    let place := fun (p : PortIx) (l : LineAddr) => r.configured = true ∧ ∃ (v : WindowIx) (y : Side), s.findWindow 0 line = some v
      ∧ ((s.windows[v]).leg y).state = .inService ∧ ((s.windows[v]).leg y).port = p ∧ (s.windows[v]).targetLine y line = l
    let carries := fun (body : ReqBody) (v : RingIx) => match body with
      | .rd => False
      | .wr d => v = indexAt (loc % 64) d
      | .wrm d mask => (∀ n : Nat, n < 4 → mask.getLsbD (loc % 64 + n) = true) ∧ v = indexAt (loc % 64) d
    let recorded := fun (i : OttIx) (w : WindowIx) (sides : List Side) (body : ReqBody) (l : LineAddr) (t : State) =>
      ∃ new : List WatchEntry, t.ring = { r with watch := r.watch ++ new } ∧ (new.map (·.side)).Sublist sides
        ∧ ∀ e : WatchEntry, e ∈ new ↔ e.entry = i ∧ e.gen = (s.ott.entries[i]).gen + 1 ∧ e.side ∈ sides ∧ carries body e.value
            ∧ place ((s.windows[w]).leg e.side).port ((s.windows[w]).targetLine e.side l.toNat)
    let hit := fun (i : OttIx) (x : Side) (e : WatchEntry) => e.entry == i && e.gen == (s.ott.entries[i]).gen && e.side == x
    let rest := fun (i : OttIx) (x : Side) => r.watch.filter fun e => !hit i x e
    (∀ v : RingIx, (ok v → (s.takeConsumerValue v).ring.cons = v ∧ SameExcept [.ring] s (s.takeConsumerValue v))
      ∧ (¬ok v → SameExcept [.causes] s (s.takeConsumerValue v)
        ∧ ((s.takeConsumerValue v).causes.entries[causeIx .ringIndexBad]).pending = true))
    ∧ (∀ (p : PortIx) (rq : ReqId) (q : Request) (w : WindowIx) (sides : List Side) (i : OttIx) (more : List OttIx), s.running →
      takesRequests s.links[p].mode = true → s.nextHead p = some (rq, q) →
      s.lookup (s.requesterTenant p rq) q.body q.line = .routed w sides → s.ott.serverFree = i :: more → loc % 4 = 0 →
      ∃ t, exec (.dispatch p) s = .next t ∧ recorded i w sides q.body q.line t)
    ∧ (∀ (q : FabricReq) (w : WindowIx) (sides : List Side) (i : OttIx) (more : List OttIx), s.running →
      (s.fabric.find? fun k => !(s.fabricHolds k).held) = some q → s.fabricLookup q = .routed w sides →
      s.ott.fabricFree = i :: more → loc % 4 = 0 →
      ∃ t, exec .fabricDispatch s = .next t ∧ recorded i w sides q.body q.line t)
    ∧ (∀ (p : PortIx) (req : ReqId) (tag : Tag), s.running → s.links[p].state = .active →
      s.matches_ p ⟨.wack, req, tag, .good, none⟩ = true →
      let i := tagIndex tag
      let x := tagSide tag
      ∃ t, exec (.wackReceived p s.links[p].expSeq req tag .good) s = .next t ∧ t.ring.watch = rest i x
        ∧ (r.watch.filter (hit i x) = [] → t.ring.cons = r.cons)
        ∧ ∀ v : RingIx, r.watch.filter (hit i x) = [⟨i, (s.ott.entries[i]).gen, x, v⟩] →
          (ok v → t.ring.cons = v)
          ∧ (¬ok v → t.ring.cons = r.cons ∧ (t.causes.entries[causeIx .ringIndexBad]).pending = true))
    ∧ (∀ (p : PortIx) (req : ReqId) (tag : Tag) (status : Status), s.running → s.links[p].state = .active → status ≠ .good →
      s.matches_ p ⟨.wack, req, tag, status, none⟩ = true →
      ∃ t, exec (.wackReceived p s.links[p].expSeq req tag status) s = .next t
        ∧ t.ring.watch = rest (tagIndex tag) (tagSide tag) ∧ t.ring.cons = r.cons)
    ∧ (∀ (i : OttIx) (x : Side) (way : SettleWay), way.progress ≠ .doneGood →
      (s.settle i x way).ring.watch = rest i x ∧ (s.settle i x way).ring.cons = r.cons)

/-! ### Chapter 10: the management port and its commands -/

/-- The frames of the management port: a command frame becomes the command in hand, or, while another is pending, is discarded with the overlap flag set; a
read frame with no command pending returns the current response frame after a low byte, padded with zeros; while a command is
pending it returns that command's code, status PENDING and no data, its overlap bit free (assumption 9); either way a read frame
changes nothing but the bytes on MISO; a malformed frame is answered BAD_ARG with the code it carried (R162, R163, R178). -/
def Obligations.ManagementFrames : Prop :=
  ∀ s : State, s.running →
    (∀ f, s.mgmt.inHand = none → ∃ t, exec (.commandFrame f) s = .next t
      ∧ t.mgmt.inHand = some f ∧ t.mgmt.overlap = s.mgmt.overlap ∧ t.mgmt.response = s.mgmt.response
      ∧ SameExcept [.mgmt] s t)
    ∧ (∀ f g, s.mgmt.inHand = some g → ∃ t, exec (.commandFrame f) s = .next t
      ∧ t.mgmt.inHand = some g ∧ t.mgmt.overlap = true ∧ t.mgmt.response = s.mgmt.response ∧ SameExcept [.mgmt] s t)
    ∧ (∀ n, s.mgmt.inHand = none → ∃ t, exec (.readFrame n) s = .next t
      ∧ t.mgmt.miso.length = n + 1
      ∧ t.mgmt.miso <+: 0 :: (s.mgmt.response.code :: BitVec.ofNat 8 (mgmtStatusCode s.mgmt.response.status)
          :: BitVec.ofNat 8 (flagCode s.mgmt.response.overlap) :: (beBytes 2 s.mgmt.response.data.length
            ++ s.mgmt.response.data ++ List.replicate n 0))
      ∧ t.mgmt = { s.mgmt with miso := t.mgmt.miso } ∧ SameExcept [.mgmt] s t)
    ∧ (∀ n f, s.mgmt.inHand = some f → ∃ t, exec (.readFrame n) s = .next t
      ∧ t.mgmt.miso.length = n + 1
      ∧ (∃ overlap : Bool, t.mgmt.miso <+: 0 :: (decodeFrame f).code :: 5 :: BitVec.ofNat 8 (flagCode overlap)
          :: (beBytes 2 0 ++ List.replicate n 0))
      ∧ t.mgmt = { s.mgmt with miso := t.mgmt.miso } ∧ SameExcept [.mgmt] s t)
    ∧ (∀ code, s.inHandIs (.malformedCommand code) = true → ∃ t, exec (.malformedCommand code) s = .next t
      ∧ t.mgmt = s.answered code .badArg [] ∧ SameExcept [.mgmt] s t)

/-- SET_PORT_MODE writes the mode of one port: BAD_ARG for a port above 15 or a mode that is none of the five, STATE while a RESTORE_LINK of the port is
active, nothing changing in either case; OK without effect when the mode is the current one; otherwise OK with the port
changing mode as one event (R25). What that event does is R26: a SERVER or TRUNK port's queued requests and owed credits go and its
LIVE entries become ORPHAN, or FREE where a read was waiting for a reissue; the link unit is reset in the new mode and trains afresh,
or is DOWN in mode OFF, with the credit in force of each requester at its target in the new mode and the round-robin position 15;
and on a MEMORY or TRUNK port the legs of every configured window there that were IN_SERVICE or REBUILDING are LOST, LINK_FAILED
is raised with the port's bit, and a sweep of the port is queued (R22, R29, R37, R67, R82, R137, R138, R141). The TRN-sent flag at the
start of training is the model's reading (assumption 5), and both training flags clear in DOWN its choice (assumption 28). -/
def Obligations.SetPortModeRule : Prop :=
  ∀ (s : State) (port mode : Nat), s.mayTake (.setPortMode port mode) →
    ((15 < port ∨ 4 < mode) → ∃ t, exec (.setPortMode port mode) s = .next t
      ∧ t.mgmt = s.answered 1 .badArg [] ∧ SameExcept [.mgmt] s t)
    ∧ ∀ (p : PortIx) (m : PortMode), port = p.1 → mode = modeCode m →
      (s.jobs.link.state = .active → s.jobs.linkPort = p → ∃ t, exec (.setPortMode port mode) s = .next t
        ∧ t.mgmt = s.answered 1 .state [] ∧ SameExcept [.mgmt] s t)
      ∧ (¬(s.jobs.link.state = .active ∧ s.jobs.linkPort = p) → m = s.links[p].mode →
        ∃ t, exec (.setPortMode port mode) s = .next t ∧ t.mgmt = s.answered 1 .ok [] ∧ SameExcept [.mgmt] s t)
      ∧ (¬(s.jobs.link.state = .active ∧ s.jobs.linkPort = p) → m ≠ s.links[p].mode →
        ∃ t, exec (.setPortMode port mode) s = .next t ∧ t.mgmt = s.answered 1 .ok []
          ∧ t = { s.changeMode p m with mgmt := t.mgmt }
          ∧ (let u := s.links[p]
            let old := u.mode
            t.links[p] = { u with
              mode := m
              state := if m = .off then .down else .training
              sendSeq := 0, retry := [], replayPos := none, replayTimer := none, replayCount := 0, expSeq := 0, ackOwed := 0
              episode := false, trnSent := decide (m ≠ .off), heard := false
              trainTimer := if m = .off then none else some ⟨s.time, s.settings.trainTimeout⟩
              attempt := none, partnerMode := none, sendCredit := Vector.replicate 16 0, recvCredit := Vector.replicate 16 0
              txQueue := [], trnrOwed := none, trnOwed := if m = .off then none else some true, lnakOwed := false }
            ∧ (∀ r : ReqId, (t.stages[p]).requesters[r] = { (s.stages[p]).requesters[r] with
                owed := 0
                inForce := ((s.stages[p]).requesters[r]).target m
                queue := if takesRequests old then [] else ((s.stages[p]).requesters[r]).queue })
            ∧ (t.stages[p]).lastDispatched = 15
            ∧ (∀ (i : OttIx) (r : ReqId) (tag : Tag), takesRequests old = true → (s.ott.entries[i]).state = .live →
                (s.ott.entries[i]).origin = .ingress p r tag →
                ((∀ x, ((s.ott.entries[i]).leg x).progress ≠ .waiting) → (t.ott.entries[i]).state = .orphan
                  ∧ ∀ x, ((t.ott.entries[i]).leg x).progress = ((s.ott.entries[i]).leg x).progress)
                ∧ (∀ x, ((s.ott.entries[i]).leg x).progress = .waiting →
                  t.ott.entries[i] = .freed (s.ott.entries[i]).gen))
            ∧ (∀ (i : OttIx) (x : Side), (t.ott.entries[i]).state ≠ .free → ((t.ott.entries[i]).leg x).progress = .sent →
                ((t.ott.entries[i]).leg x).port = p → ((t.ott.entries[i]).leg x).stale = true)
            ∧ (carriesLegs old = true →
                (∀ (w : WindowIx) (x : Side), (s.windows[w]).configured = true → ((s.windows[w]).leg x).port = p →
                  (((s.windows[w]).leg x).state = .inService ∨ ((s.windows[w]).leg x).state = .rebuilding) →
                  ((t.windows[w]).leg x).state = .lost)
                ∧ (t.causes.entries[causeIx .linkFailed]).pending = true
                ∧ (t.causes.entries[causeIx .linkFailed]).detail &&& bitDetail p.1 = bitDetail p.1
                ∧ (t.sweep.port = some p ∨ p ∈ t.sweep.queue))
            ∧ SameExcept [.links, .stages, .windows, .ott, .ring, .fabric, .copy, .jobs, .causes, .sweep, .mgmt] s t))

/-- SET_REQUESTER with its arguments in range and no state against it writes enable, tenant and grant. In ACTIVE and RETRAIN a target above the credit in
force is owed by the difference, and a lower one first cancels credit owed; in every other link state the credit in force
becomes the new target at once. Where the target stays the same, credit in force and owed do too, in every link state (R28 to R30). -/
def Obligations.SetRequesterWritesEntry : Prop :=
  ∀ (s : State) (p : PortIx) (r : ReqId) (enable : Bool) (k : TenantIx) (grant : Nat),
    s.mayTake (.setRequester p.1 r.1 (flagCode enable) k.1 grant) → k ≠ 0 → grant + s.othersGrants p r ≤ 64 →
    s.requesterBlocked p r enable k = false →
    let e := (s.stages[p]).requesters[r]
    let old := if e.enabled && takesRequests s.links[p].mode then e.grant else 0
    let target := if enable && takesRequests s.links[p].mode then grant else 0
    let up := s.links[p].state = .active ∨ s.links[p].state = .retrain
    let x := min e.owed (e.inForce - target)
    ∃ t, exec (.setRequester p.1 r.1 (flagCode enable) k.1 grant) s = .next t ∧ t.mgmt = s.answered 2 .ok []
      ∧ (target = old → (t.stages[p]).requesters[r] = ⟨enable, k, grant, e.inForce, e.owed, e.queue⟩)
      ∧ (target ≠ old → up → e.inForce < target → (t.stages[p]).requesters[r] =
          ⟨enable, k, grant, target, e.owed + (target - e.inForce), e.queue⟩)
      ∧ (target ≠ old → up → target ≤ e.inForce →
          (t.stages[p]).requesters[r] = ⟨enable, k, grant, e.inForce - x, e.owed - x, e.queue⟩)
      ∧ (target ≠ old → ¬up → (t.stages[p]).requesters[r] = ⟨enable, k, grant, target, e.owed, e.queue⟩)
      ∧ (∀ j : ReqId, j ≠ r → (t.stages[p]).requesters[j] = (s.stages[p]).requesters[j])
      ∧ SameExcept [.stages, .mgmt] s t

/-- SET_TENANT in range for a tenant that is not RETIRING, with a ceiling or without one, makes it ACTIVE with the written settings and touches no meter or
money field but the CAPPED flags; without a ceiling, whatever its argument, CAPPED is clear; ADJUST_TENANT adds to J within its limits, a saturation setting OS; CLEAR_STICKY clears OS (R104, R105, R112, R113). -/
def Obligations.TenantCommandsWriteRecord : Prop :=
  ∀ (s : State) (k : TenantIx),
    let r := s.tenants[k]
    (∀ (card : Fin 16) (profile : Fin 4) (ceiling cap floor : Nat),
      s.mayTake (.setTenant k.1 card.1 profile.1 1 ceiling cap floor) → 1 ≤ ceiling → ceiling < 2 ^ 47 → cap ≤ 3 →
      floor ≤ 3 → r.state ≠ .retiring →
      ∃ t, exec (.setTenant k.1 card.1 profile.1 1 ceiling cap floor) s = .next t ∧ t.mgmt = s.answered 3 .ok []
        ∧ t.tenants[k] = { r with
            state := .active, card := card, profile := profile, ceiling := some ceiling, cap := cap, floor := floor
            capped := decide ((ceiling : Int) ≤ r.acc / 2 ^ 24)
            cappedInEpoch := (t.tenants[k]).cappedInEpoch
            highest := (t.tenants[k]).highest }
        ∧ (∀ j : TenantIx, j ≠ k → t.tenants[j] = s.tenants[j]) ∧ SameExcept [.tenants, .pacers, .causes, .mgmt] s t)
    ∧ (∀ (card : Fin 16) (profile : Fin 4) (ceiling cap floor : Nat),
      s.mayTake (.setTenant k.1 card.1 profile.1 0 ceiling cap floor) → cap ≤ 3 → floor ≤ 3 → r.state ≠ .retiring →
      ∃ t, exec (.setTenant k.1 card.1 profile.1 0 ceiling cap floor) s = .next t ∧ t.mgmt = s.answered 3 .ok []
        ∧ t.tenants[k] = { r with
            state := .active, card := card, profile := profile, ceiling := none, cap := cap, floor := floor
            capped := false, highest := (t.tenants[k]).highest }
        ∧ (∀ j : TenantIx, j ≠ k → t.tenants[j] = s.tenants[j]) ∧ SameExcept [.tenants, .pacers, .mgmt] s t)
    ∧ (∀ amount : Int, s.mayTake (.adjustTenant k.1 amount) → -2 ^ 31 ≤ amount → amount < 2 ^ 31 → r.state ≠ .unused →
      let sum := r.adj + amount
      ∃ t, exec (.adjustTenant k.1 amount) s = .next t ∧ t.mgmt = s.answered 14 .ok []
        ∧ t.tenants = mapAt s.tenants k (fun r => { r with
            adj := max (-(2 ^ 47 - 1)) (min (2 ^ 47 - 1) sum)
            os := r.os || decide (2 ^ 47 - 1 < sum ∨ sum < -(2 ^ 47 - 1)) })
        ∧ SameExcept [.tenants, .causes, .mgmt] s t)
    ∧ (s.mayTake (.clearSticky k.1) → r.state ≠ .unused →
      ∃ t, exec (.clearSticky k.1) s = .next t ∧ t.mgmt = s.answered 15 .ok []
        ∧ t.tenants = mapAt s.tenants k (fun r => { r with os := false }) ∧ SameExcept [.tenants, .mgmt] s t)

/-- SET_RATE_CARD in range writes every field of one card; SET_PROFILE in range writes one entry of one profile and no other; a level other than 1, 2 or 3
is answered BAD_ARG with nothing changed (R95, R106). That carry is a flag, 1 for on, is the model's reading (assumption 10). -/
def Obligations.CardAndProfileWritten : Prop :=
  ∀ s : State,
    (∀ (c : Fin 16) (rr wr surcharge : Nat) (m : Rounding) (carry : Bool),
      s.mayTake (.setRateCard c.1 rr wr surcharge (roundingCode m) (flagCode carry)) → rr < 2 ^ 32 → wr < 2 ^ 32 →
      surcharge < 256 →
      ∃ t, exec (.setRateCard c.1 rr wr surcharge (roundingCode m) (flagCode carry)) s = .next t
        ∧ t.mgmt = s.answered 5 .ok [] ∧ t.cards[c] = ⟨rr, wr, surcharge, m, carry⟩
        ∧ (∀ d : Fin 16, d ≠ c → t.cards[d] = s.cards[d]) ∧ SameExcept [.cards, .mgmt] s t)
    ∧ (∀ (f : Fin 4) (level o c : Nat), s.mayTake (.setProfile f.1 level o c) → 1 ≤ level → level ≤ 3 → o ≤ 65535 →
      c ≤ 65535 →
      ∃ t, exec (.setProfile f.1 level o c) s = .next t ∧ t.mgmt = s.answered 6 .ok []
        ∧ (t.profiles[f]).entry level = ⟨o, c⟩
        ∧ (∀ n, n ≠ level → (t.profiles[f]).entry n = (s.profiles[f]).entry n)
        ∧ (∀ g : Fin 4, g ≠ f → t.profiles[g] = s.profiles[g]) ∧ SameExcept [.profiles, .pacers, .tenants, .mgmt] s t)
    ∧ (∀ (f : Fin 4) (level o c : Nat), s.mayTake (.setProfile f.1 level o c) → (level = 0 ∨ 3 < level) →
      ∃ t, exec (.setProfile f.1 level o c) s = .next t ∧ t.mgmt = s.answered 6 .badArg [] ∧ SameExcept [.mgmt] s t)

/-- SET_WINDOW of a window with a mirror or without one, in range, for a DISABLED window without transactions and an ACTIVE tenant, writes every field and
declares its copies current, unless its range overlaps another configured window of the tenant, which is a CONFLICT. Without a
mirror the mirror's arguments are unexamined and the mirror leg is ABSENT; that its fields are stored as 0 is the model's choice
(assumption 24). The clear form returns such a window to its power-on state (R45 to R47). -/
def Obligations.WindowWritten : Prop :=
  ∀ (s : State) (w : WindowIx), (s.windows[w]).enabled = false → (s.windows[w]).outstanding = 0 →
    (∀ (k : TenantIx) (base length : Nat) (a : Access) (p1 p2 : PortIx) (b1 b2 : Nat) (r1 r2 : ReqId),
      let i : Instr := .setWindow w.1 k.1 base length (accessCode a) p1.1 b1 r1.1 1 p2.1 b2 r2.1
      let single := fun mp mb mr : Nat => (.setWindow w.1 k.1 base length (accessCode a) p1.1 b1 r1.1 0 mp mb mr : Instr)
      let overlap := ∃ v : WindowIx, v ≠ w ∧ (s.windows[v]).configured = true ∧ (s.windows[v]).tenant = k
        ∧ base < (s.windows[v]).base + (s.windows[v]).length ∧ (s.windows[v]).base < base + length
      1 ≤ length → length ≤ 2 ^ 24 → base + length ≤ 2 ^ 31 → b1 + length ≤ 2 ^ 31 → (s.tenants[k]).state = .active →
      (s.mayTake i → b2 + length ≤ 2 ^ 31 → ¬overlap → ∃ t, exec i s = .next t ∧ t.mgmt = s.answered 7 .ok []
        ∧ t.windows[w] = ⟨true, false, k, base, length, a, ⟨p1, b1, r1, .inService⟩, ⟨p2, b2, r2, .inService⟩, 0⟩
        ∧ (∀ v : WindowIx, v ≠ w → t.windows[v] = s.windows[v]) ∧ SameExcept [.windows, .mgmt] s t)
      ∧ (s.mayTake i → b2 + length ≤ 2 ^ 31 → overlap → ∃ t, exec i s = .next t ∧ t.mgmt = s.answered 7 .conflict []
        ∧ SameExcept [.mgmt] s t)
      ∧ (∀ mp mb mr : Nat, s.mayTake (single mp mb mr) →
        (¬overlap → ∃ t, exec (single mp mb mr) s = .next t ∧ t.mgmt = s.answered 7 .ok []
          ∧ t.windows[w] = ⟨true, false, k, base, length, a, ⟨p1, b1, r1, .inService⟩, ⟨0, 0, 0, .absent⟩, 0⟩
          ∧ (∀ v : WindowIx, v ≠ w → t.windows[v] = s.windows[v]) ∧ SameExcept [.windows, .mgmt] s t)
        ∧ (overlap → ∃ t, exec (single mp mb mr) s = .next t ∧ t.mgmt = s.answered 7 .conflict [] ∧ SameExcept [.mgmt] s t)))
    ∧ (s.mayTake (.setWindowClear w.1) →
      ∃ t, exec (.setWindowClear w.1) s = .next t ∧ t.mgmt = s.answered 7 .ok []
        ∧ t.windows[w] = ⟨false, false, 0, 0, 0, .readWrite, ⟨0, 0, 0, .inService⟩, ⟨0, 0, 0, .absent⟩, 0⟩
        ∧ (∀ v : WindowIx, v ≠ w → t.windows[v] = s.windows[v]) ∧ SameExcept [.windows, .mgmt] s t)

/-- ENABLE_WINDOW makes a configured window of an ACTIVE tenant ENABLED when it has a leg IN_SERVICE, every such leg lies on a MEMORY or TRUNK port whose link
is neither DOWN nor FAILED, and it overlaps no ENABLED window of its tenant; DISABLE_WINDOW makes it DISABLED, unless
the copy engine is COPYING or DRAINING for it, which is answered STATE. Leg states are kept (R48, R49). -/
def Obligations.WindowEnabledAndDisabled : Prop :=
  ∀ (s : State) (w : WindowIx),
    let win := s.windows[w]
    let usable := fun l : WindowLeg => l.state = .inService →
      carriesLegs s.links[l.port].mode = true ∧ s.links[l.port].state ≠ .down ∧ s.links[l.port].state ≠ .failed
    (s.mayTake (.enableWindow w.1) → win.configured = true → (s.tenants[win.tenant]).state = .active →
      (win.primary.state = .inService ∨ win.mirror.state = .inService) → usable win.primary → usable win.mirror →
      (∀ v : WindowIx, v ≠ w → (s.windows[v]).enabled = true → (s.windows[v]).tenant = win.tenant →
        win.base + win.length ≤ (s.windows[v]).base ∨ (s.windows[v]).base + (s.windows[v]).length ≤ win.base) →
      ∃ t, exec (.enableWindow w.1) s = .next t ∧ t.mgmt = s.answered 8 .ok []
        ∧ t.windows = mapAt s.windows w (fun win => { win with enabled := true }) ∧ SameExcept [.windows, .mgmt] s t)
    ∧ (s.mayTake (.disableWindow w.1) → (s.copy.state = .idle ∨ s.copy.window ≠ some w) →
      ∃ t, exec (.disableWindow w.1) s = .next t ∧ t.mgmt = s.answered 9 .ok []
        ∧ t.windows = mapAt s.windows w (fun win => { win with enabled := false }) ∧ SameExcept [.windows, .mgmt] s t)
    ∧ (s.mayTake (.disableWindow w.1) → s.copy.state ≠ .idle → s.copy.window = some w →
      ∃ t, exec (.disableWindow w.1) s = .next t ∧ t.mgmt = s.answered 9 .state [] ∧ SameExcept [.mgmt] s t)

/-- SET_TIMING in range writes its four settings together and the OTT limit of the named port, or of every port for limit port 16; SET_MARKS in range writes
its five marks, storing a recover mark at or above the weak mark as the weak mark less 1; SET_EPOCH writes the period,
restarts or stops the epoch timer and sets the late count to 0 (R20, R92, R121, R165). -/
def Obligations.TimingMarksAndEpochWritten : Prop :=
  ∀ s : State,
    (∀ retry train completion relief port limit : Nat, s.mayTake (.setTiming retry train completion relief port limit) →
      1 ≤ retry → retry ≤ 255 → 10 ≤ train → train ≤ 10000 → 10 ≤ completion → completion ≤ 65535 → 10 ≤ relief →
      relief ≤ 10000 → port ≤ 16 → 1 ≤ limit → limit ≤ 992 →
      ∃ t, exec (.setTiming retry train completion relief port limit) s = .next t ∧ t.mgmt = s.answered 10 .ok []
        ∧ t.settings = { s.settings with
            retryTimeout := retry, trainTimeout := train, completionTimeout := completion, reliefInterval := relief }
        ∧ (∀ p : PortIx, t.stages[p] =
            { s.stages[p] with ottLimit := if port = 16 ∨ port = p.1 then limit else (s.stages[p]).ottLimit })
        ∧ SameExcept [.settings, .stages, .mgmt] s t)
    ∧ (∀ weak recover backlog latency share : Nat, s.mayTake (.setMarks weak recover backlog latency share) →
      2 ≤ weak → weak ≤ 1023 → 1 ≤ recover → recover ≤ 1023 → 1 ≤ backlog → backlog ≤ 256 → 1 ≤ latency →
      latency ≤ 65535 → 1 ≤ share → share ≤ 256 →
      let stored := if weak ≤ recover then weak - 1 else recover
      ∃ t, exec (.setMarks weak recover backlog latency share) s = .next t ∧ t.mgmt = s.answered 11 .ok []
        ∧ t.settings = { s.settings with
            weakMark := weak, recoverMark := stored, backlogMark := backlog, latencyMark := latency, share := share }
        ∧ (∀ p : PortIx, t.links[p].healthState = match s.links[p].healthState with
            | .good => if weak ≤ s.links[p].health then .weak else .good
            | .weak => if s.links[p].health < stored then .good else .weak)
        ∧ SameExcept [.settings, .links, .causes, .mgmt] s t)
    ∧ (∀ period : Nat, s.mayTake (.setEpoch period) → period ≤ 65535 →
      ∃ t, exec (.setEpoch period) s = .next t ∧ t.mgmt = s.answered 12 .ok []
        ∧ t.closer = { s.closer with
            period := period
            timer := if period = 0 then none else some ⟨s.time, period * 1000000⟩
            lateCount := 0 }
        ∧ SameExcept [.closer, .mgmt] s t)

/-- SET_BILLING_RING with a base that is a multiple of 64, a power of two of slots from 16 to 65,536 and locations that are multiples of 4, all within the 52-bit
addresses, while no ring is configured or the writer is IDLE with an empty hold list: the ring is configured with P and C
at 0, the watch list empties, and an index write of 0 is issued. A configured ring that is busy is answered BUSY (R129). -/
def Obligations.BillingRingConfigured : Prop :=
  ∀ (s : State) (base k producer consumer : Nat), s.mayTake (.setBillingRing base (2 ^ k) producer consumer) →
    4 ≤ k → k ≤ 16 → base % 64 = 0 → base + 2 ^ k * 64 ≤ 2 ^ 52 → producer % 4 = 0 → producer < 2 ^ 52 →
    consumer % 4 = 0 → consumer < 2 ^ 52 →
    (s.ring.configured = false ∨ s.ring.writer = .idle ∧ s.holdList = [] →
      ∃ t, exec (.setBillingRing base (2 ^ k) producer consumer) s = .next t ∧ t.mgmt = s.answered 13 .ok []
        ∧ t.ring.configured = true ∧ t.ring.base.toNat = base ∧ t.ring.slots = 2 ^ k
        ∧ t.ring.producerLoc.toNat = producer ∧ t.ring.consumerLoc.toNat = consumer ∧ t.ring.prod = 0 ∧ t.ring.cons = 0
        ∧ t.ring.watch = [] ∧ t.ring.writer = .writingIndex
        ∧ t.fabric = s.fabric ++ [⟨.ringIndex, BitVec.ofNat 46 (producer / 64),
            .wrm (indexLine (producer % 64) 0) (BitVec.ofNat 64 (15 * 2 ^ (producer % 64)))⟩]
        ∧ SameExcept [.ring, .fabric, .mgmt] s t)
    ∧ (s.ring.configured = true → (s.ring.writer ≠ .idle ∨ s.holdList ≠ []) →
      ∃ t, exec (.setBillingRing base (2 ^ k) producer consumer) s = .next t ∧ t.mgmt = s.answered 13 .busy []
        ∧ SameExcept [.mgmt] s t)

/-- CLOSE_EPOCH with the closer IDLE starts the CLOSE job and a FULL walk at tenant 0 with the walk job set, and is answered BUSY otherwise. REMOVE_TENANT
of an ACTIVE tenant other than 0 that nothing names and that has nothing in flight, with the closer IDLE, makes it RETIRING
and starts a RETIRE walk for it (R123, R126). Tenant 0 is ACTIVE, as EveryStepKeepsRanges states. WAITING at the start on a
full hold list is the model's reading (assumption 15). -/
def Obligations.CloseJobsStart : Prop :=
  ∀ s : State,
    let state : CloserState := if s.holdList.length < 8 then .walking else .waiting
    (s.mayTake .closeEpoch → s.closer.state = .idle → s.FabricTenantActive →
      ∃ t, exec .closeEpoch s = .next t ∧ t.mgmt = s.answered 16 .ok []
        ∧ t.closer = { s.closer with state := state, kind := .full, position := 0, walkJob := true, built := 0 }
        ∧ t.jobs = { s.jobs with close := ⟨.active, 0⟩ } ∧ SameExcept [.closer, .jobs, .mgmt] s t)
    ∧ (s.mayTake .closeEpoch → s.closer.state ≠ .idle →
      ∃ t, exec .closeEpoch s = .next t ∧ t.mgmt = s.answered 16 .busy [] ∧ SameExcept [.mgmt] s t)
    ∧ (∀ k : TenantIx, s.mayTake (.removeTenant k.1) → k ≠ 0 → s.closer.state = .idle → (s.tenants[k]).state = .active →
      (∀ w : WindowIx, (s.windows[w]).configured = true → (s.windows[w]).tenant ≠ k) →
      (∀ (p : PortIx) (r : ReqId), ((s.stages[p]).requesters[r]).enabled = true →
        ((s.stages[p]).requesters[r]).tenant ≠ k) →
      (∀ p : PortIx, ((s.contrib[k])[p]).inFlight = 0) →
      ∃ t, exec (.removeTenant k.1) s = .next t ∧ t.mgmt = s.answered 4 .ok []
        ∧ t.tenants = mapAt s.tenants k (fun r => { r with state := .retiring })
        ∧ t.closer = { s.closer with state := state, kind := .retire, position := k, walkJob := true, built := 0 }
        ∧ t.jobs = { s.jobs with close := ⟨.active, 0⟩ } ∧ SameExcept [.tenants, .closer, .jobs, .mgmt] s t)

/-- LINK_RESET, with no RESTORE_LINK active for the port, and RESTORE_LINK of a port that is not OFF, with the LINK slot free, reset the link: every buffer,
queue and owed message goes, S, E, Q, K and credits are 0, and the link trains afresh, or stays DOWN in mode OFF; the credit
in force of each requester becomes its target and the round-robin position 15. Health and counters are kept. Every SENT leg on the
port is stale; a SERVER or TRUNK port gives up its ingress side (IngressGivenUp), a MEMORY or TRUNK port loses its legs and queues a sweep
(PortLegsLost), and a port of another mode raises no cause. RESTORE_LINK also makes the LINK job ACTIVE with a deadline of three train
timeouts, at whose expiry the link enters FAILED with its consequences (LinkFails) and the job is FAILED with the link state before as
its result (R17, R22, R27, R29, R37, R67, R82, R137, R138, R141, R144 to R146). The TRN-sent flag at the start of training is the
model's reading (assumption 5); both training flags clear in DOWN (assumption 28), and K, Q and the partner mode kept in FAILED
(assumption 21), are its choices. -/
def Obligations.LinkResetCommands : Prop :=
  ∀ (s : State) (p : PortIx),
    let u := s.links[p]
    let timer : Timer := ⟨s.time, s.settings.trainTimeout⟩
    let fresh := fun t : State =>
      t.links[p] = { u with
        state := if u.mode = .off then .down else .training
        sendSeq := 0, retry := [], replayPos := none, replayTimer := none, replayCount := 0, expSeq := 0, ackOwed := 0
        episode := false, trnSent := decide (u.mode ≠ .off), heard := false
        trainTimer := if u.mode = .off then none else some timer
        attempt := none, partnerMode := none, sendCredit := Vector.replicate 16 0, recvCredit := Vector.replicate 16 0
        txQueue := [], trnrOwed := none, trnOwed := if u.mode = .off then none else some true, lnakOwed := false }
      ∧ (∀ r : ReqId, (t.stages[p]).requesters[r] = { (s.stages[p]).requesters[r] with
          owed := 0
          inForce := ((s.stages[p]).requesters[r]).target u.mode
          queue := if takesRequests u.mode then [] else ((s.stages[p]).requesters[r]).queue })
      ∧ (t.stages[p]).lastDispatched = 15
      ∧ (∀ (i : OttIx) (x : Side), (t.ott.entries[i]).state ≠ .free → ((t.ott.entries[i]).leg x).progress = .sent →
          ((t.ott.entries[i]).leg x).port = p → ((t.ott.entries[i]).leg x).stale = true)
      ∧ (takesRequests u.mode = true → s.IngressGivenUp p t)
      ∧ (carriesLegs u.mode = true → s.PortLegsLost p t)
      ∧ (carriesLegs u.mode = false → t.causes = s.causes)
      ∧ s.PortLossFrame p t ∧ SameExcept (.mgmt :: portLossParts) s t
    (s.mayTake (.linkReset p.1) → s.linkJobOn p = false →
      ∃ t, exec (.linkReset p.1) s = .next t ∧ t.mgmt = s.answered 18 .ok [] ∧ fresh t
        ∧ t.jobs = { s.jobs with rebuild := t.jobs.rebuild })
    ∧ (s.mayTake (.restoreLink p.1) → s.jobs.link.state ≠ .active → u.mode ≠ .off →
      ∃ t, exec (.restoreLink p.1) s = .next t ∧ t.mgmt = s.answered 17 .ok [] ∧ fresh t
        ∧ t.jobs = { s.jobs with
            rebuild := t.jobs.rebuild
            link := ⟨.active, 0⟩
            linkPort := p
            deadline := some ⟨s.time, 3 * s.settings.trainTimeout⟩ })
    ∧ (s.running → s.jobs.link.state = .active → s.jobs.linkPort = p → timerDue s.jobs.deadline s.time = true →
      ∃ t, exec .restoreLinkDeadline s = .next t
        ∧ t.links[p] = { u with
            state := .failed, retry := [], replayPos := none, replayTimer := none, episode := false, trainTimer := none
            attempt := none, txQueue := [], trnrOwed := none, trnOwed := none, lnakOwed := false
            counters := { u.counters with failures := satInc (2 ^ 32 - 1) u.counters.failures } }
        ∧ s.LinkFails p t
        ∧ t.jobs = { s.jobs with
            rebuild := t.jobs.rebuild, link := ⟨.failed, linkStateCode u.state⟩, deadline := none }
        ∧ (t.causes.entries[causeIx .jobDone]).pending = true ∧ (t.causes.entries[causeIx .jobDone]).detail &&& 2#16 = 2#16
        ∧ SameExcept portLossParts s t)

/-- START_REBUILD of an ENABLED mirrored window with one leg IN_SERVICE and the other LOST on a MEMORY or TRUNK port that is ACTIVE and awaits no
sweep: the REBUILD job is ACTIVE, the LOST leg REBUILDING, the engine COPYING from the window's first line, and the slots hold its first
four lines with their copy reads pending (R149, R150). While COPYING, a GOOD copy read turns its slot to WRITING with the copy write
pending, or, with the redo flag set, is redone (R151, R155); a GOOD copy write frees its slot, the cursor moves to the lowest line
held or the frontier, and free slots, lowest number first, take the lines at the frontier below the end and within 4 of the cursor
(R152, R150); at the window's end the leg is IN_SERVICE, the engine IDLE, the job DONE with the redo total, and REBUILD_DONE and
JOB_DONE are raised (R153). Any other report fails the rebuild: the leg is LOST, pending copy requests are withdrawn and their slots
FREE, and the engine drains (R157). While DRAINING every report frees its slot; with every slot FREE the engine is IDLE, the job FAILED
with the reason, and JOB_DONE raised (R159). A write of the window under rebuild sets the redo flag of a slot whose copy read is out,
withdraws a pending copy write and redoes the slot, and otherwise leaves the engine alone (R154); that it leaves a DRAINING one alone
is the model's reading (assumption 14). A slot's request reports when its entry finishes: a copy read at its RDATA, timeout or sweep's
visit, unless it is reissued, and a copy write at its WACK, timeout or visit, after the loss of its leg where that failed (R75, R81,
R157). ABORT_REBUILD fails a COPYING
rebuild with reason ABORTED, leaves a DRAINING one as it is, and is answered STATE when the engine is IDLE (R158). -/
def Obligations.RebuildStartsAndAborts : Prop :=
  ∀ (s : State) (w : WindowIx),
    let win := s.windows[w]
    let c := s.copy
    let copyRead := fun k : SlotIx => (⟨.copySlot k, BitVec.ofNat 46 (c.slots[k]).line, .rd⟩ : FabricReq)
    let jobDone := fun t : State => (t.causes.entries[causeIx .jobDone]).pending = true
      ∧ (t.causes.entries[causeIx .jobDone]).detail &&& 4#16 = 4#16
    let redone := fun (k : SlotIx) (t : State) => t.copy = { c with
      redoTotal := satInc (2 ^ 32 - 1) c.redoTotal
      slots := mapAt c.slots k fun x => { x with
        state := .reading, sent := false, redo := false, data := none, redoCount := min 4 (x.redoCount + 1)
        pinned := x.pinned || decide (4 ≤ x.redoCount + 1) } }
    let drained := fun (reason : FailReason) (t : State) =>
      ((∀ j : SlotIx, (t.copy.slots[j]).state = .free) → t.copy.state = .idle ∧ t.copy.window = none
        ∧ t.jobs = { s.jobs with rebuild := ⟨.failed, reasonCode reason⟩ } ∧ jobDone t)
      ∧ ((∃ j : SlotIx, (t.copy.slots[j]).state ≠ .free) → t.copy.state = .draining ∧ t.copy.window = c.window
        ∧ t.jobs = s.jobs ∧ t.causes = s.causes)
    let failed := fun (reason : FailReason) (freed : SlotIx → Prop) (t : State) =>
      ((t.windows[w]).leg c.rebuilding) = { win.leg c.rebuilding with state := .lost }
      ∧ t.copy = { c with state := t.copy.state, window := t.copy.window, reason := reason, slots := t.copy.slots }
      ∧ (∀ j : SlotIx, (freed j → t.copy.slots[j] = .freed) ∧ (¬freed j → t.copy.slots[j] = c.slots[j]))
      ∧ t.fabric = (s.fabric.filter fun q => match q.job with | .copySlot _ => false | .ringRecord => true | .ringIndex => true)
      ∧ drained reason t
    (∀ side : Side, s.mayTake (.startRebuild w.1) → s.jobs.rebuild.state ≠ .active → win.enabled = true →
      (win.leg side).state = .lost → (win.leg (otherSide side)).state = .inService →
      carriesLegs s.links[(win.leg side).port].mode = true → s.links[(win.leg side).port].state = .active →
      s.awaitsSweep (win.leg side).port = false → 1 ≤ win.length →
      let first := win.base * 32768
      ∃ t, exec (.startRebuild w.1) s = .next t ∧ t.mgmt = s.answered 19 .ok []
        ∧ t.jobs.rebuild = ⟨.active, 0⟩ ∧ ((t.windows[w]).leg side).state = .rebuilding
        ∧ (t.windows[w]).leg (otherSide side) = win.leg (otherSide side)
        ∧ t.copy.state = .copying ∧ t.copy.window = some w ∧ t.copy.rebuilding = side ∧ t.copy.firstLine = first
        ∧ t.copy.endLine = (win.base + win.length) * 32768 ∧ t.copy.cursor = first ∧ t.copy.frontier = first + 4
        ∧ (∀ k : SlotIx, t.copy.slots[k] = ⟨.reading, first + k.1, false, false, 0, false, none⟩)
        ∧ t.fabric = s.fabric ++ (List.finRange 4).map fun k => ⟨.copySlot k, BitVec.ofNat 46 (first + k.1), .rd⟩)
    ∧ (s.mayTake .abortRebuild → c.state = .copying → c.window = some w →
      ∃ t, exec .abortRebuild s = .next t ∧ t.mgmt = s.answered 20 .ok [] ∧ failed .aborted (fun j => (c.slots[j]).sent = false) t
        ∧ SameExcept [.copy, .windows, .fabric, .jobs, .causes, .mgmt] s t)
    ∧ (s.mayTake .abortRebuild → c.state = .draining →
      ∃ t, exec .abortRebuild s = .next t ∧ t.mgmt = s.answered 20 .ok [] ∧ SameExcept [.mgmt] s t)
    ∧ (s.mayTake .abortRebuild → c.state = .idle →
      ∃ t, exec .abortRebuild s = .next t ∧ t.mgmt = s.answered 20 .state [] ∧ SameExcept [.mgmt] s t)
    ∧ (∀ (k : SlotIx) (d : LineData), c.state = .copying → (c.slots[k]).state = .reading →
      let t := s.copyReport k .good (some d)
      ((c.slots[k]).redo = false →
        t.copy = { c with slots := mapAt c.slots k fun x => { x with state := .writing, sent := false, data := some d } }
          ∧ t.fabric = s.fabric ++ [⟨.copySlot k, BitVec.ofNat 46 (c.slots[k]).line, .wr d⟩] ∧ SameExcept [.copy, .fabric] s t)
      ∧ ((c.slots[k]).redo = true → redone k t ∧ t.fabric = s.fabric ++ [copyRead k] ∧ SameExcept [.copy, .fabric] s t))
    ∧ (∀ (k : SlotIx) (status : Status) (data : Option LineData), c.state = .copying → c.window = some w → status ≠ .good →
      let t := s.copyReport k status data
      let freed := fun j : SlotIx => j = k ∨ (c.slots[j]).sent = false
      ((c.slots[k]).state = .reading → failed .copyReadFailed freed t
        ∧ SameExcept [.copy, .windows, .fabric, .jobs, .causes] s t)
      ∧ ((c.slots[k]).state = .writing → failed .rebuildLegLost freed t
        ∧ SameExcept [.copy, .windows, .fabric, .jobs, .causes] s t))
    ∧ (∀ (k : SlotIx) (status : Status) (data : Option LineData), c.state = .draining →
      let t := s.copyReport k status data
      t.copy = { c with state := t.copy.state, window := t.copy.window, slots := mapAt c.slots k fun _ => .freed }
        ∧ drained c.reason t ∧ SameExcept [.copy, .jobs, .causes] s t)
    ∧ (∀ (k : SlotIx) (data : Option LineData), c.state = .copying → c.window = some w → (c.slots[k]).state = .writing →
      let t := s.copyReport k .good data
      let held := fun j : SlotIx => j ≠ k ∧ (c.slots[j]).state ≠ .free
      let vacant := (List.finRange 4).filter fun j : SlotIx => decide (j = k ∨ (c.slots[j]).state = .free)
      let n := min vacant.length (min (c.endLine - c.frontier) (t.copy.cursor + 4 - c.frontier))
      (t.copy.cursor ≤ c.frontier ∧ (∀ j, held j → t.copy.cursor ≤ (c.slots[j]).line)
        ∧ (t.copy.cursor = c.frontier ∨ ∃ j, held j ∧ (c.slots[j]).line = t.copy.cursor))
      ∧ t.copy.frontier = c.frontier + n
      ∧ (∀ (m : Nat) (j : SlotIx), m < n → vacant[m]? = some j →
          t.copy.slots[j] = ⟨.reading, c.frontier + m, false, false, 0, false, none⟩)
      ∧ (∀ j : SlotIx, j ∉ vacant.take n → t.copy.slots[j] = if j = k then .freed else c.slots[j])
      ∧ t.fabric = s.fabric ++ (vacant.take n).mapIdx (fun m j => ⟨.copySlot j, BitVec.ofNat 46 (c.frontier + m), .rd⟩)
      ∧ (t.copy.cursor ≠ c.endLine → t.copy.state = .copying ∧ t.copy.window = some w ∧ SameExcept [.copy, .fabric] s t)
      ∧ (t.copy.cursor = c.endLine → t.copy.state = .idle ∧ t.copy.window = none
        ∧ ((t.windows[w]).leg c.rebuilding) = { win.leg c.rebuilding with state := .inService }
        ∧ t.jobs = { s.jobs with rebuild := ⟨.done, c.redoTotal⟩ }
        ∧ (t.causes.entries[causeIx .rebuildDone]).pending = true
        ∧ (t.causes.entries[causeIx .rebuildDone]).detail = BitVec.ofNat 16 w.1 ∧ jobDone t
        ∧ SameExcept [.copy, .fabric, .windows, .jobs, .causes] s t)
      ∧ t.copy.redoTotal = c.redoTotal ∧ t.copy.endLine = c.endLine ∧ t.copy.firstLine = c.firstLine)
    ∧ (∀ line : Nat,
      let t := s.engineSeesWrite w line
      ((c.state ≠ .copying ∨ c.window ≠ some w ∨ c.slotHolding line = none) → t = s)
      ∧ (∀ k : SlotIx, c.state = .copying → c.window = some w → c.slotHolding line = some k →
        let slot := c.slots[k]
        (slot.state = .reading → slot.sent = false → t = s)
        ∧ (slot.state = .writing → slot.sent = true → t = s)
        ∧ (slot.state = .reading → slot.sent = true →
          t.copy = { c with slots := mapAt c.slots k fun x => { x with redo := true } } ∧ SameExcept [.copy] s t)
        ∧ (slot.state = .writing → slot.sent = false → redone k t
          ∧ t.fabric = (s.fabric.filter fun q => q.job != .copySlot k) ++ [copyRead k] ∧ SameExcept [.copy, .fabric] s t)))
    ∧ ∀ (i : Instr) (n : OttIx) (x : Side) (way : SettleWay) (k : SlotIx), s.running → s.SettledBy i n x way →
      let e := s.ott.entries[n]
      let spare := (s.windows[e.window]).leg (otherSide x)
      let again := e.reissued = false ∧ spare.state = .inService
      let emptied := fun t : State => ∀ j : SlotIx, (t.copy.slots[j]).state = .free
      let drains := fun (reason : FailReason) (t : State) => t.copy.reason = reason ∧ (t.copy.slots[k]).state = .free
        ∧ (emptied t → t.copy.state = .idle ∧ t.copy.window = none ∧ t.jobs.rebuild = ⟨.failed, reasonCode reason⟩ ∧ jobDone t)
        ∧ (¬emptied t → t.copy.state = .draining ∧ t.copy.window = c.window ∧ t.jobs.rebuild = s.jobs.rebuild)
      e.state = .live → e.origin = .fabric (.copySlot k) →
      ∃ t, exec i s = .next t
        ∧ (e.body = .rd →
          (∀ d : LineData, way = .response .good (some d) → s.FabricReported n x .good (some d) t)
          ∧ (way.progress ≠ .doneGood → again → (t.ott.entries[n]).state = .live ∧ (t.ott.entries[n]).reissued = true
            ∧ ((t.ott.entries[n]).leg (otherSide x)).progress = .waiting ∧ t.copy = s.copy ∧ t.fabric = s.fabric)
          ∧ (way.progress ≠ .doneGood → ¬again → s.FabricReported n x .poison none t))
        ∧ (e.body ≠ .rd → (e.leg (otherSide x)).progress = .none →
          (way.progress = .doneGood → s.FabricReported n x .good none t)
          ∧ (way = .abandoned → s.FabricReported n x .lost none t)
          ∧ (way.progress = .doneFailed → t.ott.entries[n] = .freed e.gen
            ∧ (c.state = .draining → drains c.reason t)
            ∧ (c.state = .copying → c.window = some e.window → c.rebuilding = x →
              ((s.windows[e.window]).leg x).state = .rebuilding →
              ((t.windows[e.window]).leg x).state = .lost ∧ drains .rebuildLegLost t)))

/-- The reading commands change nothing but the response frame, and answer OK with their data, whose lengths are the model's reading of R178 (assumption 10):
READ_PORT, READ_LINK, READ_REQUESTER, READ_WINDOW, READ_TENANT, READ_RATE_CARD, READ_PROFILE, READ_CONGESTION, READ_RING,
READ_TIME and READ_JOB; each begins with the values shown. The bytes shown for the configured flags of READ_WINDOW and READ_RING and
for the carry flag of READ_RATE_CARD, 1 for configured or on, are the model's reading too (assumption 10). -/
def Obligations.ReadingCommandsAnswer : Prop :=
  ∀ s : State,
    let reads := fun (i : Instr) (code : Byte) (length : Nat) (front : List Byte) =>
      s.mayTake i → ∃ t data, exec i s = .next t ∧ t.mgmt = s.answered code .ok data ∧ data.length = length
        ∧ front <+: data ∧ SameExcept [.mgmt] s t
    (∀ p : PortIx, reads (.readPort p.1) 21 19
      [BitVec.ofNat 8 (modeCode s.links[p].mode), BitVec.ofNat 8 (linkStateCode s.links[p].state)])
    ∧ (∀ p : PortIx, reads (.readLink p.1) 22 102
      [BitVec.ofNat 8 (modeCode s.links[p].mode), BitVec.ofNat 8 (linkStateCode s.links[p].state), s.links[p].sendSeq,
        s.links[p].expSeq])
    ∧ (∀ (p : PortIx) (r : ReqId), reads (.readRequester p.1 r.1) 23 7
      [BitVec.ofNat 8 (flagCode ((s.stages[p]).requesters[r]).enabled),
        BitVec.ofNat 8 ((s.stages[p]).requesters[r]).tenant.1, BitVec.ofNat 8 ((s.stages[p]).requesters[r]).grant,
        BitVec.ofNat 8 ((s.stages[p]).requesters[r]).inForce, BitVec.ofNat 8 ((s.stages[p]).requesters[r]).owed,
        BitVec.ofNat 8 ((s.stages[p]).requesters[r]).queue.length, BitVec.ofNat 8 (s.links[p].recvCredit)[r]])
    ∧ (∀ w : WindowIx, reads (.readWindow w.1) 24 29
      [BitVec.ofNat 8 (flagCode (s.windows[w]).configured), BitVec.ofNat 8 (flagCode (s.windows[w]).enabled),
        BitVec.ofNat 8 (s.windows[w]).tenant.1])
    ∧ (∀ k : TenantIx, reads (.readTenant k.1) 25 79
      [BitVec.ofNat 8 (tenantStateCode (s.tenants[k]).state), BitVec.ofNat 8 (s.tenants[k]).card.1,
        BitVec.ofNat 8 (s.tenants[k]).profile.1])
    ∧ (∀ c : Fin 16, reads (.readRateCard c.1) 26 11
      (beBytes 4 (s.cards[c]).rr ++ beBytes 4 (s.cards[c]).wr ++ [BitVec.ofNat 8 (s.cards[c]).surcharge,
        BitVec.ofNat 8 (roundingCode (s.cards[c]).rounding), BitVec.ofNat 8 (flagCode (s.cards[c]).carry)]))
    ∧ (∀ f : Fin 4, reads (.readProfile f.1) 27 12
      (beBytes 2 (s.profiles[f]).level1.openUs ++ beBytes 2 (s.profiles[f]).level1.closedUs))
    ∧ (∀ (p : PortIx) (k : TenantIx), reads (.readCongestion p.1 k.1) 28 20
      (BitVec.ofNat 8 (portStateCode (s.monitors[p]).portState) :: beBytes 2 (s.monitors[p]).inFlight
        ++ beBytes 2 (s.backlog p)))
    ∧ reads .readRing 29 60 (BitVec.ofNat 8 (flagCode s.ring.configured) :: beBytes 7 s.ring.base.toNat)
    ∧ reads .readTime 30 6 (beBytes 6 s.time.toNat)
    ∧ reads (.readJob 0) 31 9 (BitVec.ofNat 8 (jobStateCode s.jobs.close.state) :: beBytes 4 s.jobs.close.result)
    ∧ reads (.readJob 1) 31 6 (BitVec.ofNat 8 (jobStateCode s.jobs.link.state) :: beBytes 4 s.jobs.link.result)
    ∧ reads (.readJob 2) 31 92 (BitVec.ofNat 8 (jobStateCode s.jobs.rebuild.state) :: beBytes 4 s.jobs.rebuild.result)

/-- READ_CAUSE takes the pending cause of the lowest number: it answers with the number, the detail and the mask of causes still pending, clears the cause and
its detail whether it is enabled or not, and a later raise makes it pending with the raised detail alone. With none pending
it answers zeros and changes nothing else (R170, R171). -/
def Obligations.ReadCauseTakesLowest : Prop :=
  ∀ s : State, s.mayTake .readCause →
    (∀ c : Fin 14, (s.causes.entries[c]).pending = true → (∀ k : Fin 14, k < c → (s.causes.entries[k]).pending = false) →
      ∃ t mask, exec .readCause s = .next t
        ∧ t.mgmt = s.answered 32 .ok
            (BitVec.ofNat 8 (c.1 + 1) :: (beBytes 2 (s.causes.entries[c]).detail.toNat ++ beBytes 2 mask))
        ∧ (∀ k : Fin 14, mask.testBit k.1 = decide (k ≠ c ∧ (s.causes.entries[k]).pending = true))
        ∧ t.causes.entries[c] = ⟨false, 0, (s.causes.entries[c]).enabled⟩
        ∧ (∀ k : Fin 14, k ≠ c → t.causes.entries[k] = s.causes.entries[k])
        ∧ (∀ (x : Cause) (d : BitVec 16), causeIx x = c →
            ((t.raise x d).causes.entries[c]).pending = true ∧ ((t.raise x d).causes.entries[c]).detail = d)
        ∧ SameExcept [.causes, .mgmt] s t)
    ∧ ((∀ k : Fin 14, (s.causes.entries[k]).pending = false) →
      ∃ t, exec .readCause s = .next t ∧ t.mgmt = s.answered 32 .ok [0, 0, 0, 0, 0] ∧ SameExcept [.mgmt] s t)

/-- SET_CAUSE_ENABLE sets and CLEAR_CAUSE_ENABLE clears the enable flag of one cause of 1 to 14 and answers OK, and any other number is answered BAD_ARG. The
pending flag and the detail stand, a flag already at its value changes nothing, and ALERT follows at once: a pending cause
enabled with the hold depth at 0 asserts it. After power-on reset every enable flag is clear (R172).
The bytes on MISO after a row taken with an empty hand are left open (assumption 7). -/
def Obligations.CauseEnableWritten : Prop :=
  (∀ (s : State) (n : Nat) (on : Bool),
    let i : Instr := if on then .setCauseEnable n else .clearCauseEnable n
    let code : Byte := if on then 33 else 34
    s.mayTake i →
    (∀ c : Fin 14, n = c.1 + 1 →
      ∃ t, exec i s = .next t ∧ s.AnsweredWith code .ok [] t.mgmt
        ∧ t.causes.entries = mapAt s.causes.entries c (fun e => { e with enabled := on })
        ∧ t.causes.holdDepth = s.causes.holdDepth
        ∧ ((s.causes.entries[c]).enabled = on → SameExcept [.mgmt] s t)
        ∧ (on = true → (s.causes.entries[c]).pending = true → s.causes.holdDepth = 0 → t.alert = true)
        ∧ (t.alert = true ↔ t.causes.holdDepth = 0 ∧ ∃ k : Fin 14, (s.causes.entries[k]).pending = true
            ∧ (if k = c then on else (s.causes.entries[k]).enabled) = true)
        ∧ SameExcept [.causes, .mgmt] s t)
    ∧ ((n = 0 ∨ 14 < n) → ∃ t, exec i s = .next t ∧ s.AnsweredWith code .badArg [] t.mgmt ∧ SameExcept [.mgmt] s t))
  ∧ (∀ c : Fin 14, (State.reset.causes.entries[c]).enabled = false)

/-- ALERT is asserted while RESET is released, a cause is pending and enabled and the hold depth is 0, and deasserted at all other times. HOLD_ALERT
raises the depth by 1 and answers OK, and at 15 answers STATE and leaves it; RELEASE_ALERT lowers it by 1, or leaves it at 0,
and answers OK. At any depth causes are raised, merged and read as usual. When the depth returns to 0, ALERT is asserted at
once if an enabled cause is then pending (R173). The bytes on MISO after a row taken with an empty hand are left open (assumption 7). -/
def Obligations.AlertHeldAndReleased : Prop :=
  ∀ s : State,
    let wanted : Prop := ∃ k : Fin 14, (s.causes.entries[k]).pending = true ∧ (s.causes.entries[k]).enabled = true
    let atDepth := fun n : Nat => { s with causes := { s.causes with holdDepth := n } }
    (s.alert = true ↔ s.resetAsserted = false ∧ s.causes.holdDepth = 0 ∧ wanted)
    ∧ (s.mayTake .holdAlert → s.causes.holdDepth < 15 →
      ∃ t, exec .holdAlert s = .next t ∧ s.AnsweredWith 35 .ok [] t.mgmt
        ∧ t.causes = { s.causes with holdDepth := s.causes.holdDepth + 1 } ∧ t.alert = false
        ∧ SameExcept [.causes, .mgmt] s t)
    ∧ (s.mayTake .holdAlert → s.causes.holdDepth = 15 →
      ∃ t, exec .holdAlert s = .next t ∧ s.AnsweredWith 35 .state [] t.mgmt ∧ SameExcept [.mgmt] s t)
    ∧ (s.mayTake .releaseAlert →
      ∃ t, exec .releaseAlert s = .next t ∧ s.AnsweredWith 36 .ok [] t.mgmt
        ∧ t.causes = { s.causes with holdDepth := s.causes.holdDepth - 1 }
        ∧ (t.alert = true ↔ s.causes.holdDepth ≤ 1 ∧ wanted) ∧ SameExcept [.causes, .mgmt] s t)
    ∧ (∀ (n : Nat) (x : Cause) (d : BitVec 16),
        ((atDepth n).raise x d).causes.entries = (s.raise x d).causes.entries
          ∧ ((atDepth n).raise x d).causes.holdDepth = n)
    ∧ (∀ n : Nat, s.mayTake .readCause →
      ∃ t u, exec .readCause s = .next t ∧ exec .readCause (atDepth n) = .next u
        ∧ u.mgmt = t.mgmt ∧ u.causes.entries = t.causes.entries ∧ u.causes.holdDepth = n)

/-- Power-on reset clears the part whatever state it was in: every OTT entry FREE, every window unconfigured, the hold list empty, fabric time 0, ALERT low.
At the release of RESET every link unit is in fresh TRAINING in LISTEN mode with its first TRN owed, and fabric time counts
from 0. A tick raises it by 1, and does nothing while RESET is asserted. A timer expires at the n-th tick after its start: an expiry that is
due and whose row has not been taken is taken by the next tick, as its row takes it, before fabric time rises, and a tick changes nothing
else (R23, R84, R169, R174). That the blocks hold their power-on values while RESET is asserted already, that the queue of commands stays
(assumptions 1 and 3), and that one tick takes several such expiries one after the other (assumption 4) are the model's choices. -/
def Obligations.ResetAndTimeBase : Prop :=
  ∀ s : State,
    (∃ t, exec .powerOnReset s = .next t ∧ t.resetAsserted = true ∧ t.time = 0 ∧ t.alert = false ∧ t.holdList = []
      ∧ (∀ i : OttIx, (t.ott.entries[i]).state = .free ∧ (t.ott.entries[i]).gen = 0)
      ∧ (∀ w : WindowIx, (t.windows[w]).configured = false) ∧ t.pending = s.pending
      ∧ (∀ c : Fin 14, (t.causes.entries[c]).enabled = false ∧ (t.causes.entries[c]).pending = false))
    ∧ (s.resetAsserted = true →
      ∃ t, exec .resetRelease s = .next t ∧ t.resetAsserted = false ∧ t.time = 0
        ∧ (∀ p : PortIx, t.links[p].mode = .listen ∧ t.links[p].state = .training ∧ t.links[p].trnOwed = some true
            ∧ t.links[p].trainTimer = some ⟨0, 200⟩ ∧ t.links[p].sendSeq = 0 ∧ t.links[p].expSeq = 0))
    ∧ (s.running → ∃ t, exec .fabricTimeTick s = .next t ∧ t.time = s.time + 1
      ∧ ((∀ x : Expiry, x.due s = false) → SameExcept [.time] s t)
      ∧ ∃ due : List Expiry, due.Nodup ∧ (∀ x, x ∈ due ↔ x.due s = true)
        ∧ t = { due.foldl (fun u x => match exec x.row u with | .next v => v | .fault _ => u | .refused _ => u) s with
            time := s.time + 1 })
    ∧ (s.resetAsserted = true → exec .fabricTimeTick s = .next s)
end

