-- ==== Sys2Proof/Laws/State.lean ====
section
/-! SUPPORT. Laws of the state updates: what each leaves in every field, and reading a table after one of its entries changed. -/

namespace Sys2Proof.Machine

/-- Reading the entry that changed. -/
@[simp] theorem mapAt_get_self {α : Type} {n : Nat} (v : Vector α n) (i : Fin n) (f : α → α) :
    (mapAt v i f)[i.1] = f v[i.1] := by simp [mapAt]

/-- Reading another entry than the one that changed. -/
@[simp] theorem mapAt_get_ne {α : Type} {n : Nat} (v : Vector α n) (i j : Fin n) (f : α → α) (h : i ≠ j) :
    (mapAt v i f)[j.1] = v[j.1] := by
  have h' : i.1 ≠ j.1 := fun e => h (Fin.ext e)
  simp [mapAt, h']

/-- Reading any entry after one changed. -/
theorem mapAt_get {α : Type} {n : Nat} (v : Vector α n) (i j : Fin n) (f : α → α) :
    (mapAt v i f)[j.1] = if i = j then f v[j.1] else v[j.1] := by
  by_cases h : i = j
  · subst h; simp
  · simp [h]

/-- Changing an entry to what it is changes nothing. -/
@[simp] theorem mapAt_id {α : Type} {n : Nat} (v : Vector α n) (i : Fin n) : mapAt v i (fun a => a) = v := by
  simp [mapAt]

/-- Two changes of one entry are one change. -/
@[simp] theorem mapAt_mapAt {α : Type} {n : Nat} (v : Vector α n) (i : Fin n) (f g : α → α) :
    mapAt (mapAt v i f) i g = mapAt v i fun a => g (f a) := by simp [mapAt]

section modLink
variable (s : State) (p : PortIx) (f : LinkUnit → LinkUnit)
@[simp] theorem State.modLink_links : (s.modLink p f).links = mapAt s.links p f := rfl
@[simp] theorem State.modLink_stages : (s.modLink p f).stages = s.stages := rfl
@[simp] theorem State.modLink_windows : (s.modLink p f).windows = s.windows := rfl
@[simp] theorem State.modLink_ott : (s.modLink p f).ott = s.ott := rfl
@[simp] theorem State.modLink_monitors : (s.modLink p f).monitors = s.monitors := rfl
@[simp] theorem State.modLink_contrib : (s.modLink p f).contrib = s.contrib := rfl
@[simp] theorem State.modLink_pacers : (s.modLink p f).pacers = s.pacers := rfl
@[simp] theorem State.modLink_profiles : (s.modLink p f).profiles = s.profiles := rfl
@[simp] theorem State.modLink_tenants : (s.modLink p f).tenants = s.tenants := rfl
@[simp] theorem State.modLink_cards : (s.modLink p f).cards = s.cards := rfl
@[simp] theorem State.modLink_closer : (s.modLink p f).closer = s.closer := rfl
@[simp] theorem State.modLink_holdList : (s.modLink p f).holdList = s.holdList := rfl
@[simp] theorem State.modLink_ring : (s.modLink p f).ring = s.ring := rfl
@[simp] theorem State.modLink_fabric : (s.modLink p f).fabric = s.fabric := rfl
@[simp] theorem State.modLink_sweep : (s.modLink p f).sweep = s.sweep := rfl
@[simp] theorem State.modLink_copy : (s.modLink p f).copy = s.copy := rfl
@[simp] theorem State.modLink_jobs : (s.modLink p f).jobs = s.jobs := rfl
@[simp] theorem State.modLink_causes : (s.modLink p f).causes = s.causes := rfl
@[simp] theorem State.modLink_mgmt : (s.modLink p f).mgmt = s.mgmt := rfl
@[simp] theorem State.modLink_settings : (s.modLink p f).settings = s.settings := rfl
@[simp] theorem State.modLink_time : (s.modLink p f).time = s.time := rfl
@[simp] theorem State.modLink_resetAsserted : (s.modLink p f).resetAsserted = s.resetAsserted := rfl
@[simp] theorem State.modLink_pending : (s.modLink p f).pending = s.pending := rfl
end modLink

section modStage
variable (s : State) (p : PortIx) (f : IngressStage → IngressStage)
@[simp] theorem State.modStage_stages : (s.modStage p f).stages = mapAt s.stages p f := rfl
@[simp] theorem State.modStage_links : (s.modStage p f).links = s.links := rfl
@[simp] theorem State.modStage_windows : (s.modStage p f).windows = s.windows := rfl
@[simp] theorem State.modStage_ott : (s.modStage p f).ott = s.ott := rfl
@[simp] theorem State.modStage_monitors : (s.modStage p f).monitors = s.monitors := rfl
@[simp] theorem State.modStage_contrib : (s.modStage p f).contrib = s.contrib := rfl
@[simp] theorem State.modStage_pacers : (s.modStage p f).pacers = s.pacers := rfl
@[simp] theorem State.modStage_profiles : (s.modStage p f).profiles = s.profiles := rfl
@[simp] theorem State.modStage_tenants : (s.modStage p f).tenants = s.tenants := rfl
@[simp] theorem State.modStage_cards : (s.modStage p f).cards = s.cards := rfl
@[simp] theorem State.modStage_closer : (s.modStage p f).closer = s.closer := rfl
@[simp] theorem State.modStage_holdList : (s.modStage p f).holdList = s.holdList := rfl
@[simp] theorem State.modStage_ring : (s.modStage p f).ring = s.ring := rfl
@[simp] theorem State.modStage_fabric : (s.modStage p f).fabric = s.fabric := rfl
@[simp] theorem State.modStage_sweep : (s.modStage p f).sweep = s.sweep := rfl
@[simp] theorem State.modStage_copy : (s.modStage p f).copy = s.copy := rfl
@[simp] theorem State.modStage_jobs : (s.modStage p f).jobs = s.jobs := rfl
@[simp] theorem State.modStage_causes : (s.modStage p f).causes = s.causes := rfl
@[simp] theorem State.modStage_mgmt : (s.modStage p f).mgmt = s.mgmt := rfl
@[simp] theorem State.modStage_settings : (s.modStage p f).settings = s.settings := rfl
@[simp] theorem State.modStage_time : (s.modStage p f).time = s.time := rfl
@[simp] theorem State.modStage_resetAsserted : (s.modStage p f).resetAsserted = s.resetAsserted := rfl
@[simp] theorem State.modStage_pending : (s.modStage p f).pending = s.pending := rfl
end modStage

section modRequester
variable (s : State) (p : PortIx) (r : ReqId) (f : Requester → Requester)
@[simp] theorem State.modRequester_stages : (s.modRequester p r f).stages = mapAt s.stages p fun g => { g with requesters := mapAt g.requesters r f } := rfl
@[simp] theorem State.modRequester_links : (s.modRequester p r f).links = s.links := rfl
@[simp] theorem State.modRequester_windows : (s.modRequester p r f).windows = s.windows := rfl
@[simp] theorem State.modRequester_ott : (s.modRequester p r f).ott = s.ott := rfl
@[simp] theorem State.modRequester_monitors : (s.modRequester p r f).monitors = s.monitors := rfl
@[simp] theorem State.modRequester_contrib : (s.modRequester p r f).contrib = s.contrib := rfl
@[simp] theorem State.modRequester_pacers : (s.modRequester p r f).pacers = s.pacers := rfl
@[simp] theorem State.modRequester_profiles : (s.modRequester p r f).profiles = s.profiles := rfl
@[simp] theorem State.modRequester_tenants : (s.modRequester p r f).tenants = s.tenants := rfl
@[simp] theorem State.modRequester_cards : (s.modRequester p r f).cards = s.cards := rfl
@[simp] theorem State.modRequester_closer : (s.modRequester p r f).closer = s.closer := rfl
@[simp] theorem State.modRequester_holdList : (s.modRequester p r f).holdList = s.holdList := rfl
@[simp] theorem State.modRequester_ring : (s.modRequester p r f).ring = s.ring := rfl
@[simp] theorem State.modRequester_fabric : (s.modRequester p r f).fabric = s.fabric := rfl
@[simp] theorem State.modRequester_sweep : (s.modRequester p r f).sweep = s.sweep := rfl
@[simp] theorem State.modRequester_copy : (s.modRequester p r f).copy = s.copy := rfl
@[simp] theorem State.modRequester_jobs : (s.modRequester p r f).jobs = s.jobs := rfl
@[simp] theorem State.modRequester_causes : (s.modRequester p r f).causes = s.causes := rfl
@[simp] theorem State.modRequester_mgmt : (s.modRequester p r f).mgmt = s.mgmt := rfl
@[simp] theorem State.modRequester_settings : (s.modRequester p r f).settings = s.settings := rfl
@[simp] theorem State.modRequester_time : (s.modRequester p r f).time = s.time := rfl
@[simp] theorem State.modRequester_resetAsserted : (s.modRequester p r f).resetAsserted = s.resetAsserted := rfl
@[simp] theorem State.modRequester_pending : (s.modRequester p r f).pending = s.pending := rfl
end modRequester

section modWindow
variable (s : State) (w : WindowIx) (f : Window → Window)
@[simp] theorem State.modWindow_windows : (s.modWindow w f).windows = mapAt s.windows w f := rfl
@[simp] theorem State.modWindow_links : (s.modWindow w f).links = s.links := rfl
@[simp] theorem State.modWindow_stages : (s.modWindow w f).stages = s.stages := rfl
@[simp] theorem State.modWindow_ott : (s.modWindow w f).ott = s.ott := rfl
@[simp] theorem State.modWindow_monitors : (s.modWindow w f).monitors = s.monitors := rfl
@[simp] theorem State.modWindow_contrib : (s.modWindow w f).contrib = s.contrib := rfl
@[simp] theorem State.modWindow_pacers : (s.modWindow w f).pacers = s.pacers := rfl
@[simp] theorem State.modWindow_profiles : (s.modWindow w f).profiles = s.profiles := rfl
@[simp] theorem State.modWindow_tenants : (s.modWindow w f).tenants = s.tenants := rfl
@[simp] theorem State.modWindow_cards : (s.modWindow w f).cards = s.cards := rfl
@[simp] theorem State.modWindow_closer : (s.modWindow w f).closer = s.closer := rfl
@[simp] theorem State.modWindow_holdList : (s.modWindow w f).holdList = s.holdList := rfl
@[simp] theorem State.modWindow_ring : (s.modWindow w f).ring = s.ring := rfl
@[simp] theorem State.modWindow_fabric : (s.modWindow w f).fabric = s.fabric := rfl
@[simp] theorem State.modWindow_sweep : (s.modWindow w f).sweep = s.sweep := rfl
@[simp] theorem State.modWindow_copy : (s.modWindow w f).copy = s.copy := rfl
@[simp] theorem State.modWindow_jobs : (s.modWindow w f).jobs = s.jobs := rfl
@[simp] theorem State.modWindow_causes : (s.modWindow w f).causes = s.causes := rfl
@[simp] theorem State.modWindow_mgmt : (s.modWindow w f).mgmt = s.mgmt := rfl
@[simp] theorem State.modWindow_settings : (s.modWindow w f).settings = s.settings := rfl
@[simp] theorem State.modWindow_time : (s.modWindow w f).time = s.time := rfl
@[simp] theorem State.modWindow_resetAsserted : (s.modWindow w f).resetAsserted = s.resetAsserted := rfl
@[simp] theorem State.modWindow_pending : (s.modWindow w f).pending = s.pending := rfl
end modWindow

section modEntry
variable (s : State) (i : OttIx) (f : OttEntry → OttEntry)
@[simp] theorem State.modEntry_ott : (s.modEntry i f).ott = { s.ott with entries := mapAt s.ott.entries i f } := rfl
@[simp] theorem State.modEntry_links : (s.modEntry i f).links = s.links := rfl
@[simp] theorem State.modEntry_stages : (s.modEntry i f).stages = s.stages := rfl
@[simp] theorem State.modEntry_windows : (s.modEntry i f).windows = s.windows := rfl
@[simp] theorem State.modEntry_monitors : (s.modEntry i f).monitors = s.monitors := rfl
@[simp] theorem State.modEntry_contrib : (s.modEntry i f).contrib = s.contrib := rfl
@[simp] theorem State.modEntry_pacers : (s.modEntry i f).pacers = s.pacers := rfl
@[simp] theorem State.modEntry_profiles : (s.modEntry i f).profiles = s.profiles := rfl
@[simp] theorem State.modEntry_tenants : (s.modEntry i f).tenants = s.tenants := rfl
@[simp] theorem State.modEntry_cards : (s.modEntry i f).cards = s.cards := rfl
@[simp] theorem State.modEntry_closer : (s.modEntry i f).closer = s.closer := rfl
@[simp] theorem State.modEntry_holdList : (s.modEntry i f).holdList = s.holdList := rfl
@[simp] theorem State.modEntry_ring : (s.modEntry i f).ring = s.ring := rfl
@[simp] theorem State.modEntry_fabric : (s.modEntry i f).fabric = s.fabric := rfl
@[simp] theorem State.modEntry_sweep : (s.modEntry i f).sweep = s.sweep := rfl
@[simp] theorem State.modEntry_copy : (s.modEntry i f).copy = s.copy := rfl
@[simp] theorem State.modEntry_jobs : (s.modEntry i f).jobs = s.jobs := rfl
@[simp] theorem State.modEntry_causes : (s.modEntry i f).causes = s.causes := rfl
@[simp] theorem State.modEntry_mgmt : (s.modEntry i f).mgmt = s.mgmt := rfl
@[simp] theorem State.modEntry_settings : (s.modEntry i f).settings = s.settings := rfl
@[simp] theorem State.modEntry_time : (s.modEntry i f).time = s.time := rfl
@[simp] theorem State.modEntry_resetAsserted : (s.modEntry i f).resetAsserted = s.resetAsserted := rfl
@[simp] theorem State.modEntry_pending : (s.modEntry i f).pending = s.pending := rfl
end modEntry

section modMonitor
variable (s : State) (p : PortIx) (f : Monitor → Monitor)
@[simp] theorem State.modMonitor_monitors : (s.modMonitor p f).monitors = mapAt s.monitors p f := rfl
@[simp] theorem State.modMonitor_links : (s.modMonitor p f).links = s.links := rfl
@[simp] theorem State.modMonitor_stages : (s.modMonitor p f).stages = s.stages := rfl
@[simp] theorem State.modMonitor_windows : (s.modMonitor p f).windows = s.windows := rfl
@[simp] theorem State.modMonitor_ott : (s.modMonitor p f).ott = s.ott := rfl
@[simp] theorem State.modMonitor_contrib : (s.modMonitor p f).contrib = s.contrib := rfl
@[simp] theorem State.modMonitor_pacers : (s.modMonitor p f).pacers = s.pacers := rfl
@[simp] theorem State.modMonitor_profiles : (s.modMonitor p f).profiles = s.profiles := rfl
@[simp] theorem State.modMonitor_tenants : (s.modMonitor p f).tenants = s.tenants := rfl
@[simp] theorem State.modMonitor_cards : (s.modMonitor p f).cards = s.cards := rfl
@[simp] theorem State.modMonitor_closer : (s.modMonitor p f).closer = s.closer := rfl
@[simp] theorem State.modMonitor_holdList : (s.modMonitor p f).holdList = s.holdList := rfl
@[simp] theorem State.modMonitor_ring : (s.modMonitor p f).ring = s.ring := rfl
@[simp] theorem State.modMonitor_fabric : (s.modMonitor p f).fabric = s.fabric := rfl
@[simp] theorem State.modMonitor_sweep : (s.modMonitor p f).sweep = s.sweep := rfl
@[simp] theorem State.modMonitor_copy : (s.modMonitor p f).copy = s.copy := rfl
@[simp] theorem State.modMonitor_jobs : (s.modMonitor p f).jobs = s.jobs := rfl
@[simp] theorem State.modMonitor_causes : (s.modMonitor p f).causes = s.causes := rfl
@[simp] theorem State.modMonitor_mgmt : (s.modMonitor p f).mgmt = s.mgmt := rfl
@[simp] theorem State.modMonitor_settings : (s.modMonitor p f).settings = s.settings := rfl
@[simp] theorem State.modMonitor_time : (s.modMonitor p f).time = s.time := rfl
@[simp] theorem State.modMonitor_resetAsserted : (s.modMonitor p f).resetAsserted = s.resetAsserted := rfl
@[simp] theorem State.modMonitor_pending : (s.modMonitor p f).pending = s.pending := rfl
end modMonitor

section modContrib
variable (s : State) (t : TenantIx) (p : PortIx) (f : Contribution → Contribution)
@[simp] theorem State.modContrib_contrib : (s.modContrib t p f).contrib = mapAt s.contrib t fun row => mapAt row p f := rfl
@[simp] theorem State.modContrib_links : (s.modContrib t p f).links = s.links := rfl
@[simp] theorem State.modContrib_stages : (s.modContrib t p f).stages = s.stages := rfl
@[simp] theorem State.modContrib_windows : (s.modContrib t p f).windows = s.windows := rfl
@[simp] theorem State.modContrib_ott : (s.modContrib t p f).ott = s.ott := rfl
@[simp] theorem State.modContrib_monitors : (s.modContrib t p f).monitors = s.monitors := rfl
@[simp] theorem State.modContrib_pacers : (s.modContrib t p f).pacers = s.pacers := rfl
@[simp] theorem State.modContrib_profiles : (s.modContrib t p f).profiles = s.profiles := rfl
@[simp] theorem State.modContrib_tenants : (s.modContrib t p f).tenants = s.tenants := rfl
@[simp] theorem State.modContrib_cards : (s.modContrib t p f).cards = s.cards := rfl
@[simp] theorem State.modContrib_closer : (s.modContrib t p f).closer = s.closer := rfl
@[simp] theorem State.modContrib_holdList : (s.modContrib t p f).holdList = s.holdList := rfl
@[simp] theorem State.modContrib_ring : (s.modContrib t p f).ring = s.ring := rfl
@[simp] theorem State.modContrib_fabric : (s.modContrib t p f).fabric = s.fabric := rfl
@[simp] theorem State.modContrib_sweep : (s.modContrib t p f).sweep = s.sweep := rfl
@[simp] theorem State.modContrib_copy : (s.modContrib t p f).copy = s.copy := rfl
@[simp] theorem State.modContrib_jobs : (s.modContrib t p f).jobs = s.jobs := rfl
@[simp] theorem State.modContrib_causes : (s.modContrib t p f).causes = s.causes := rfl
@[simp] theorem State.modContrib_mgmt : (s.modContrib t p f).mgmt = s.mgmt := rfl
@[simp] theorem State.modContrib_settings : (s.modContrib t p f).settings = s.settings := rfl
@[simp] theorem State.modContrib_time : (s.modContrib t p f).time = s.time := rfl
@[simp] theorem State.modContrib_resetAsserted : (s.modContrib t p f).resetAsserted = s.resetAsserted := rfl
@[simp] theorem State.modContrib_pending : (s.modContrib t p f).pending = s.pending := rfl
end modContrib

section modPacer
variable (s : State) (t : TenantIx) (f : Pacer → Pacer)
@[simp] theorem State.modPacer_pacers : (s.modPacer t f).pacers = mapAt s.pacers t f := rfl
@[simp] theorem State.modPacer_links : (s.modPacer t f).links = s.links := rfl
@[simp] theorem State.modPacer_stages : (s.modPacer t f).stages = s.stages := rfl
@[simp] theorem State.modPacer_windows : (s.modPacer t f).windows = s.windows := rfl
@[simp] theorem State.modPacer_ott : (s.modPacer t f).ott = s.ott := rfl
@[simp] theorem State.modPacer_monitors : (s.modPacer t f).monitors = s.monitors := rfl
@[simp] theorem State.modPacer_contrib : (s.modPacer t f).contrib = s.contrib := rfl
@[simp] theorem State.modPacer_profiles : (s.modPacer t f).profiles = s.profiles := rfl
@[simp] theorem State.modPacer_tenants : (s.modPacer t f).tenants = s.tenants := rfl
@[simp] theorem State.modPacer_cards : (s.modPacer t f).cards = s.cards := rfl
@[simp] theorem State.modPacer_closer : (s.modPacer t f).closer = s.closer := rfl
@[simp] theorem State.modPacer_holdList : (s.modPacer t f).holdList = s.holdList := rfl
@[simp] theorem State.modPacer_ring : (s.modPacer t f).ring = s.ring := rfl
@[simp] theorem State.modPacer_fabric : (s.modPacer t f).fabric = s.fabric := rfl
@[simp] theorem State.modPacer_sweep : (s.modPacer t f).sweep = s.sweep := rfl
@[simp] theorem State.modPacer_copy : (s.modPacer t f).copy = s.copy := rfl
@[simp] theorem State.modPacer_jobs : (s.modPacer t f).jobs = s.jobs := rfl
@[simp] theorem State.modPacer_causes : (s.modPacer t f).causes = s.causes := rfl
@[simp] theorem State.modPacer_mgmt : (s.modPacer t f).mgmt = s.mgmt := rfl
@[simp] theorem State.modPacer_settings : (s.modPacer t f).settings = s.settings := rfl
@[simp] theorem State.modPacer_time : (s.modPacer t f).time = s.time := rfl
@[simp] theorem State.modPacer_resetAsserted : (s.modPacer t f).resetAsserted = s.resetAsserted := rfl
@[simp] theorem State.modPacer_pending : (s.modPacer t f).pending = s.pending := rfl
end modPacer

section modTenant
variable (s : State) (t : TenantIx) (f : Tenant → Tenant)
@[simp] theorem State.modTenant_tenants : (s.modTenant t f).tenants = mapAt s.tenants t f := rfl
@[simp] theorem State.modTenant_links : (s.modTenant t f).links = s.links := rfl
@[simp] theorem State.modTenant_stages : (s.modTenant t f).stages = s.stages := rfl
@[simp] theorem State.modTenant_windows : (s.modTenant t f).windows = s.windows := rfl
@[simp] theorem State.modTenant_ott : (s.modTenant t f).ott = s.ott := rfl
@[simp] theorem State.modTenant_monitors : (s.modTenant t f).monitors = s.monitors := rfl
@[simp] theorem State.modTenant_contrib : (s.modTenant t f).contrib = s.contrib := rfl
@[simp] theorem State.modTenant_pacers : (s.modTenant t f).pacers = s.pacers := rfl
@[simp] theorem State.modTenant_profiles : (s.modTenant t f).profiles = s.profiles := rfl
@[simp] theorem State.modTenant_cards : (s.modTenant t f).cards = s.cards := rfl
@[simp] theorem State.modTenant_closer : (s.modTenant t f).closer = s.closer := rfl
@[simp] theorem State.modTenant_holdList : (s.modTenant t f).holdList = s.holdList := rfl
@[simp] theorem State.modTenant_ring : (s.modTenant t f).ring = s.ring := rfl
@[simp] theorem State.modTenant_fabric : (s.modTenant t f).fabric = s.fabric := rfl
@[simp] theorem State.modTenant_sweep : (s.modTenant t f).sweep = s.sweep := rfl
@[simp] theorem State.modTenant_copy : (s.modTenant t f).copy = s.copy := rfl
@[simp] theorem State.modTenant_jobs : (s.modTenant t f).jobs = s.jobs := rfl
@[simp] theorem State.modTenant_causes : (s.modTenant t f).causes = s.causes := rfl
@[simp] theorem State.modTenant_mgmt : (s.modTenant t f).mgmt = s.mgmt := rfl
@[simp] theorem State.modTenant_settings : (s.modTenant t f).settings = s.settings := rfl
@[simp] theorem State.modTenant_time : (s.modTenant t f).time = s.time := rfl
@[simp] theorem State.modTenant_resetAsserted : (s.modTenant t f).resetAsserted = s.resetAsserted := rfl
@[simp] theorem State.modTenant_pending : (s.modTenant t f).pending = s.pending := rfl
end modTenant

section modSlot
variable (s : State) (k : SlotIx) (f : CopySlot → CopySlot)
@[simp] theorem State.modSlot_copy : (s.modSlot k f).copy = { s.copy with slots := mapAt s.copy.slots k f } := rfl
@[simp] theorem State.modSlot_links : (s.modSlot k f).links = s.links := rfl
@[simp] theorem State.modSlot_stages : (s.modSlot k f).stages = s.stages := rfl
@[simp] theorem State.modSlot_windows : (s.modSlot k f).windows = s.windows := rfl
@[simp] theorem State.modSlot_ott : (s.modSlot k f).ott = s.ott := rfl
@[simp] theorem State.modSlot_monitors : (s.modSlot k f).monitors = s.monitors := rfl
@[simp] theorem State.modSlot_contrib : (s.modSlot k f).contrib = s.contrib := rfl
@[simp] theorem State.modSlot_pacers : (s.modSlot k f).pacers = s.pacers := rfl
@[simp] theorem State.modSlot_profiles : (s.modSlot k f).profiles = s.profiles := rfl
@[simp] theorem State.modSlot_tenants : (s.modSlot k f).tenants = s.tenants := rfl
@[simp] theorem State.modSlot_cards : (s.modSlot k f).cards = s.cards := rfl
@[simp] theorem State.modSlot_closer : (s.modSlot k f).closer = s.closer := rfl
@[simp] theorem State.modSlot_holdList : (s.modSlot k f).holdList = s.holdList := rfl
@[simp] theorem State.modSlot_ring : (s.modSlot k f).ring = s.ring := rfl
@[simp] theorem State.modSlot_fabric : (s.modSlot k f).fabric = s.fabric := rfl
@[simp] theorem State.modSlot_sweep : (s.modSlot k f).sweep = s.sweep := rfl
@[simp] theorem State.modSlot_jobs : (s.modSlot k f).jobs = s.jobs := rfl
@[simp] theorem State.modSlot_causes : (s.modSlot k f).causes = s.causes := rfl
@[simp] theorem State.modSlot_mgmt : (s.modSlot k f).mgmt = s.mgmt := rfl
@[simp] theorem State.modSlot_settings : (s.modSlot k f).settings = s.settings := rfl
@[simp] theorem State.modSlot_time : (s.modSlot k f).time = s.time := rfl
@[simp] theorem State.modSlot_resetAsserted : (s.modSlot k f).resetAsserted = s.resetAsserted := rfl
@[simp] theorem State.modSlot_pending : (s.modSlot k f).pending = s.pending := rfl
end modSlot

section modCounters
variable (s : State) (p : PortIx) (f : LinkCounters → LinkCounters)
@[simp] theorem State.modCounters_links : (s.modCounters p f).links = mapAt s.links p fun u => { u with counters := f u.counters } := rfl
@[simp] theorem State.modCounters_stages : (s.modCounters p f).stages = s.stages := rfl
@[simp] theorem State.modCounters_windows : (s.modCounters p f).windows = s.windows := rfl
@[simp] theorem State.modCounters_ott : (s.modCounters p f).ott = s.ott := rfl
@[simp] theorem State.modCounters_monitors : (s.modCounters p f).monitors = s.monitors := rfl
@[simp] theorem State.modCounters_contrib : (s.modCounters p f).contrib = s.contrib := rfl
@[simp] theorem State.modCounters_pacers : (s.modCounters p f).pacers = s.pacers := rfl
@[simp] theorem State.modCounters_profiles : (s.modCounters p f).profiles = s.profiles := rfl
@[simp] theorem State.modCounters_tenants : (s.modCounters p f).tenants = s.tenants := rfl
@[simp] theorem State.modCounters_cards : (s.modCounters p f).cards = s.cards := rfl
@[simp] theorem State.modCounters_closer : (s.modCounters p f).closer = s.closer := rfl
@[simp] theorem State.modCounters_holdList : (s.modCounters p f).holdList = s.holdList := rfl
@[simp] theorem State.modCounters_ring : (s.modCounters p f).ring = s.ring := rfl
@[simp] theorem State.modCounters_fabric : (s.modCounters p f).fabric = s.fabric := rfl
@[simp] theorem State.modCounters_sweep : (s.modCounters p f).sweep = s.sweep := rfl
@[simp] theorem State.modCounters_copy : (s.modCounters p f).copy = s.copy := rfl
@[simp] theorem State.modCounters_jobs : (s.modCounters p f).jobs = s.jobs := rfl
@[simp] theorem State.modCounters_causes : (s.modCounters p f).causes = s.causes := rfl
@[simp] theorem State.modCounters_mgmt : (s.modCounters p f).mgmt = s.mgmt := rfl
@[simp] theorem State.modCounters_settings : (s.modCounters p f).settings = s.settings := rfl
@[simp] theorem State.modCounters_time : (s.modCounters p f).time = s.time := rfl
@[simp] theorem State.modCounters_resetAsserted : (s.modCounters p f).resetAsserted = s.resetAsserted := rfl
@[simp] theorem State.modCounters_pending : (s.modCounters p f).pending = s.pending := rfl
end modCounters

end Sys2Proof.Machine
end

