-- ==== Sys2Proof/Laws/Frames.lean ====
section
/-! SUPPORT. Laws of frames: composing them, and what each shared operation may change. -/

namespace Sys2Proof.Machine

/-! ### Composing frames -/

/-- Nothing differs from itself. -/
theorem SameExcept.rfl_ {parts : List Part} {s : State} : SameExcept parts s s := fun f _ => by cases f <;> rfl

/-- Frames compose. -/
theorem SameExcept.trans {parts : List Part} {s t u : State} (h : SameExcept parts s t) (k : SameExcept parts t u) :
    SameExcept parts s u := fun f hf => by
  have a := h f hf
  have b := k f hf
  cases f <;> exact b.trans a

/-- A frame holds with more parts listed. -/
theorem SameExcept.mono {parts more : List Part} {s t : State} (h : SameExcept parts s t) (sub : parts ⊆ more) :
    SameExcept more s t := fun f hf => h f fun k => hf (sub k)

/-- Both branches of a test keep a frame. -/
theorem SameExcept.ite {parts : List Part} {s t u : State} {c : Prop} [Decidable c] (h : SameExcept parts s t)
    (k : SameExcept parts s u) : SameExcept parts s (if c then t else u) := by
  split
  · exact h
  · exact k

/-- Repeating an operation that keeps a frame keeps it. -/
theorem SameExcept.foldl {α : Type} {parts : List Part} {f : State → α → State} (h : ∀ s a, SameExcept parts s (f s a))
    (l : List α) (s : State) : SameExcept parts s (l.foldl f s) := by
  induction l generalizing s with
  | nil => exact .rfl_
  | cons a l ih => exact (h s a).trans (ih (f s a))


/-! ### Updates and operations of one part -/

section frames
variable (s : State)

theorem modLink_frame (p : PortIx) (f : LinkUnit → LinkUnit) : SameExcept [.links] s (s.modLink p f) := fun x h => by
  cases x <;> first | rfl | exact absurd (by simp) h

theorem modStage_frame (p : PortIx) (f : IngressStage → IngressStage) : SameExcept [.stages] s (s.modStage p f) := fun x h => by
  cases x <;> first | rfl | exact absurd (by simp) h

theorem modRequester_frame (p : PortIx) (r : ReqId) (f : Requester → Requester) : SameExcept [.stages] s (s.modRequester p r f) := fun x h => by
  cases x <;> first | rfl | exact absurd (by simp) h

theorem modRequesters_frame (p : PortIx) (f : Requester → Requester) : SameExcept [.stages] s (s.modRequesters p f) := fun x h => by
  cases x <;> first | rfl | exact absurd (by simp) h

theorem modWindow_frame (w : WindowIx) (f : Window → Window) : SameExcept [.windows] s (s.modWindow w f) := fun x h => by
  cases x <;> first | rfl | exact absurd (by simp) h

theorem modEntry_frame (i : OttIx) (f : OttEntry → OttEntry) : SameExcept [.ott] s (s.modEntry i f) := fun x h => by
  cases x <;> first | rfl | exact absurd (by simp) h

theorem modOttLeg_frame (i : OttIx) (x : Side) (f : OttLeg → OttLeg) : SameExcept [.ott] s (s.modOttLeg i x f) := fun x h => by
  cases x <;> first | rfl | exact absurd (by simp) h

theorem modMonitor_frame (p : PortIx) (f : Monitor → Monitor) : SameExcept [.monitors] s (s.modMonitor p f) := fun x h => by
  cases x <;> first | rfl | exact absurd (by simp) h

theorem modContrib_frame (t : TenantIx) (p : PortIx) (f : Contribution → Contribution) : SameExcept [.contrib] s (s.modContrib t p f) := fun x h => by
  cases x <;> first | rfl | exact absurd (by simp) h

theorem modPacer_frame (t : TenantIx) (f : Pacer → Pacer) : SameExcept [.pacers] s (s.modPacer t f) := fun x h => by
  cases x <;> first | rfl | exact absurd (by simp) h

theorem modTenant_frame (t : TenantIx) (f : Tenant → Tenant) : SameExcept [.tenants] s (s.modTenant t f) := fun x h => by
  cases x <;> first | rfl | exact absurd (by simp) h

theorem modSlot_frame (k : SlotIx) (f : CopySlot → CopySlot) : SameExcept [.copy] s (s.modSlot k f) := fun x h => by
  cases x <;> first | rfl | exact absurd (by simp) h

theorem modCounters_frame (p : PortIx) (f : LinkCounters → LinkCounters) : SameExcept [.links] s (s.modCounters p f) := fun x h => by
  cases x <;> first | rfl | exact absurd (by simp) h

theorem raise_frame (c : Cause) (d : BitVec 16) : SameExcept [.causes] s (s.raise c d) := fun x h => by
  cases x <;> first | rfl | exact absurd (by simp) h

theorem setLeg_frame (w : WindowIx) (x : Side) (st : LegState) : SameExcept [.windows] s (s.setLeg w x st) := fun x h => by
  cases x <;> first | rfl | exact absurd (by simp) h

theorem issueFabric_frame (q : FabricReq) : SameExcept [.fabric] s (s.issueFabric q) := fun x h => by
  cases x <;> first | rfl | exact absurd (by simp) h

theorem issueCopyRead_frame (k : SlotIx) (line : Nat) : SameExcept [.fabric] s (s.issueCopyRead k line) := fun x h => by
  cases x <;> first | rfl | exact absurd (by simp) h

theorem withdraw_frame (k : SlotIx) : SameExcept [.fabric] s (s.withdraw k) := fun x h => by
  cases x <;> first | rfl | exact absurd (by simp) h

theorem closerIdle_frame : SameExcept [.closer] s (s.closerIdle) := fun x h => by
  cases x <;> first | rfl | exact absurd (by simp) h

theorem startRetireWalk_frame (t : TenantIx) : SameExcept [.closer] s (s.startRetireWalk t) := fun x h => by
  cases x <;> first | rfl | exact absurd (by simp) h

theorem countBuilt_frame : SameExcept [.closer] s (s.countBuilt) := fun x h => by
  cases x <;> first | rfl | exact absurd (by simp) h

theorem freeSlot_frame (k : SlotIx) : SameExcept [.copy] s (s.freeSlot k) := fun x h => by
  cases x <;> first | rfl | exact absurd (by simp) h

theorem markStale_frame (p : PortIx) : SameExcept [.ott] s (s.markStale p) := fun x h => by
  cases x <;> first | rfl | exact absurd (by simp) h

theorem offer_frame (p : PortIx) (m : Payload) : SameExcept [.links] s (s.offer p m) := fun x h => by
  cases x <;> first | rfl | exact absurd (by simp) h

theorem respond_frame (p : PortIx) (read : Bool) (r : ReqId) (tag : Tag) (st : Status) (d : Option LineData) : SameExcept [.links] s (s.respond p read r tag st d) := fun x h => by
  cases x <;> first | rfl | exact absurd (by simp) h

theorem ackProgress_frame (p : PortIx) (d : Nat) : SameExcept [.links] s (s.ackProgress p d) := fun x h => by
  cases x <;> first | rfl | exact absurd (by simp) h

theorem startReplay_frame (p : PortIx) (q : Seq) : SameExcept [.links] s (s.startReplay p q) := fun x h => by
  cases x <;> first | rfl | exact absurd (by simp) h

theorem enterRetrain_frame (p : PortIx) : SameExcept [.links] s (s.enterRetrain p) := fun x h => by
  cases x <;> first | rfl | exact absurd (by simp) h

theorem acceptPayload_frame (p : PortIx) : SameExcept [.links] s (s.acceptPayload p) := fun x h => by
  cases x <;> first | rfl | exact absurd (by simp) h

theorem openEpisode_frame (p : PortIx) : SameExcept [.links] s (s.openEpisode p) := fun x h => by
  cases x <;> first | rfl | exact absurd (by simp) h

theorem lateResponse_frame (p : PortIx) : SameExcept [.links] s (s.lateResponse p) := fun x h => by
  cases x <;> first | rfl | exact absurd (by simp) h

theorem answerTrn_frame (p : PortIx) (m : PortMode) (q : Seq) : SameExcept [.links] s (s.answerTrn p m q) := fun x h => by
  cases x <;> first | rfl | exact absurd (by simp) h

theorem withdrawPending_frame : SameExcept [.fabric, .copy] s (s.withdrawPending) := fun x h => by
  cases x <;> first | rfl | exact absurd (by simp) h

theorem dropHeld_frame : SameExcept [.holdList] s (s.dropHeld) := fun x h => by
  cases x <;> first | rfl | exact absurd (by simp) h

theorem issueIndex_frame : SameExcept [.ring, .fabric] s (s.issueIndex) := fun x h => by
  cases x <;> first | rfl | exact absurd (by simp) h

theorem raiseHighest_frame (t : TenantIx) : SameExcept [.tenants] s (s.raiseHighest t) := fun x h => by
  cases x <;> first | rfl | exact absurd (by simp) h

end frames

end Sys2Proof.Machine
end

