-- ==== Sys2Proof/Laws/Blocks.lean ====
section
/-! SUPPORT. What each shared operation of the blocks may change, built up from the frames of the updates. -/

namespace Sys2Proof.Machine

variable (s : State)

/-! ### Link units -/

theorem testHealth_frame (p : PortIx) : SameExcept [.links, .causes] s (s.testHealth p) := by
  unfold State.testHealth
  dsimp only
  split
  · exact .ite (((modLink_frame s p _).mono (by simp)).trans ((raise_frame _ _ _).mono (by simp))) .rfl_
  · exact .ite ((modLink_frame s p _).mono (by simp)) .rfl_

theorem addHealth_frame (p : PortIx) (n : Nat) : SameExcept [.links, .causes] s (s.addHealth p n) :=
  ((modLink_frame s p _).mono (by simp)).trans (testHealth_frame _ p)

theorem countedReplay_frame (p : PortIx) (q : Seq) : SameExcept [.links] s (s.countedReplay p q) :=
  .ite (((modLink_frame s p _).trans (modCounters_frame _ p _)).trans (startReplay_frame _ p q)) (enterRetrain_frame s p)

theorem replayFrom_frame (p : PortIx) (q : Seq) : SameExcept [.links] s (s.replayFrom p q) := by
  unfold State.replayFrom
  dsimp only
  split
  · exact .ite .rfl_ (countedReplay_frame s p q)
  · exact .ite (ackProgress_frame s p _) ((ackProgress_frame s p _).trans (countedReplay_frame _ p q))

theorem retrainSuccess_frame (p : PortIx) (q : Seq) : SameExcept [.links] s (s.retrainSuccess p q) :=
  .ite (modLink_frame s p _) ((modLink_frame s p _).trans (startReplay_frame _ p q))

theorem discardHandling_frame (p : PortIx) : SameExcept [.links, .causes] s (s.discardHandling p) :=
  (addHealth_frame s p _).trans ((openEpisode_frame _ p).mono (by simp))

theorem damaged_frame (p : PortIx) : SameExcept [.links, .causes] s (s.damaged p) :=
  .ite (((modCounters_frame s p _).mono (by simp)).trans (discardHandling_frame _ p)) .rfl_

theorem outOfSequence_frame (p : PortIx) : SameExcept [.links, .causes] s (s.outOfSequence p) :=
  ((modCounters_frame s p _).mono (by simp)).trans (discardHandling_frame _ p)

theorem overrun_frame (p : PortIx) : SameExcept [.links, .causes] s (s.overrun p) :=
  (((modCounters_frame s p _).mono (by simp)).trans ((raise_frame _ _ _).mono (by simp))).trans (discardHandling_frame _ p)

theorem send_frame (p : PortIx) (c : SendChoice) : SameExcept [.links, .stages] s (s.send p c) := by
  cases c with
  | cred r => exact ((modRequester_frame s p r _).mono (by simp)).trans ((modLink_frame _ p _).mono (by simp))
  | _ => exact (modLink_frame s p _).mono (by simp)

/-! ### Pacers and meters -/

theorem beginOpen_frame (t : TenantIx) : SameExcept [.pacers, .tenants] s (s.beginOpen t) :=
  ((modPacer_frame s t _).mono (by simp)).trans ((raiseHighest_frame _ t).mono (by simp))

theorem beginClosed_frame (t : TenantIx) : SameExcept [.pacers, .tenants] s (s.beginClosed t) :=
  .ite (((modPacer_frame s t _).mono (by simp)).trans ((raiseHighest_frame _ t).mono (by simp)))
    ((modPacer_frame s t _).mono (by simp))

theorem resumePacing_frame (t : TenantIx) : SameExcept [.pacers, .tenants] s (s.resumePacing t) :=
  .ite (beginOpen_frame s t) .rfl_

theorem changeLevel_frame (t : TenantIx) (n : Nat) : SameExcept [.pacers, .tenants] s (s.changeLevel t n) := by
  have first := ((modPacer_frame s t fun p => { p with level := n }).mono (more := [.pacers, .tenants]) (by simp)).trans
    ((raiseHighest_frame _ t).mono (by simp))
  exact .ite (first.trans (beginClosed_frame _ t))
    (.ite (first.trans ((modPacer_frame _ t _).mono (by simp))) (first.trans (resumePacing_frame _ t)))

theorem repace_frame (t : TenantIx) : SameExcept [.pacers, .tenants] s (s.repace t) := .ite .rfl_ (changeLevel_frame s t _)

theorem retune_frame (t : TenantIx) : SameExcept [.pacers, .tenants] s (s.retune t) :=
  .ite (resumePacing_frame s t) (changeLevel_frame s t _)

theorem markOverflow_frame (t : TenantIx) : SameExcept [.tenants, .causes] s (s.markOverflow t) :=
  ((modTenant_frame s t _).mono (by simp)).trans ((raise_frame _ _ _).mono (by simp))

theorem capTenant_frame (t : TenantIx) : SameExcept [.tenants, .causes] s (s.capTenant t) :=
  ((modTenant_frame s t _).mono (by simp)).trans ((raise_frame _ _ _).mono (by simp))

theorem ceilingAfterMetering_frame (t : TenantIx) :
    SameExcept [.pacers, .tenants, .causes] s (s.ceilingAfterMetering t) :=
  .ite (((capTenant_frame s t).mono (by simp)).trans ((repace_frame _ t).mono (by simp))) .rfl_

theorem meter_frame (t : TenantIx) (read congested : Bool) :
    SameExcept [.pacers, .tenants, .causes] s (s.meter t read congested) := by
  unfold State.meter
  dsimp only
  refine .trans (.trans ?_ ((modTenant_frame _ t _).mono (by simp))) (ceilingAfterMetering_frame _ t)
  exact .ite ((modTenant_frame s t _).mono (by simp))
    (((modTenant_frame s t _).mono (by simp)).trans ((markOverflow_frame _ t).mono (by simp)))

theorem ceilingAfterSetting_frame (t : TenantIx) : SameExcept [.pacers, .tenants, .causes] s (s.ceilingAfterSetting t) :=
  .ite (.ite .rfl_ (((capTenant_frame s t).mono (by simp)).trans ((repace_frame _ t).mono (by simp))))
    (((modTenant_frame s t _).mono (by simp)).trans ((repace_frame _ t).mono (by simp)))

theorem closeTenant_frame (t : TenantIx) (final : Bool) :
    SameExcept [.holdList, .pacers, .tenants, .causes] s (s.closeTenant t final) := by
  unfold State.closeTenant
  dsimp only
  set s1 : State := { s with holdList := _ } with hs1
  have a : SameExcept [.holdList, .pacers, .tenants, .causes] s s1 := fun x h => by
    cases x <;> first | rfl | exact absurd (by simp) h
  have b : SameExcept [.holdList, .pacers, .tenants, .causes] s1
      (if (chargeAtClose s.tenants[t] s.cards[s.tenants[t].card] final).clamped ||
        (chargeAtClose s.tenants[t] s.cards[s.tenants[t].card] final).balanceCut then s1.markOverflow t else s1) :=
    .ite ((markOverflow_frame _ t).mono (by simp)) .rfl_
  refine .trans (a.trans b) (.ite ?_ ?_)
  · exact ((modTenant_frame _ t _).mono (by simp)).trans ((retune_frame _ t).mono (by simp))
  · exact ((modTenant_frame _ t _).mono (by simp)).trans ((repace_frame _ t).mono (by simp))

/-! ### Jobs, ring and closer -/

theorem setJob_frame (k : JobSlot) (j : Job) : SameExcept [.jobs] s (s.setJob k j) := fun x h => by
  cases k <;> cases x <;> first | rfl | exact absurd (by simp) h

theorem startJob_frame (k : JobSlot) : SameExcept [.jobs] s (s.startJob k) := setJob_frame s k _

theorem endJob_frame (k : JobSlot) (how : JobState) (n : Nat) : SameExcept [.jobs, .causes] s (s.endJob k how n) :=
  ((setJob_frame s k _).mono (by simp)).trans ((raise_frame _ _ _).mono (by simp))

theorem issueRecord_frame : SameExcept [.ring, .fabric] s s.issueRecord := by
  unfold State.issueRecord
  split
  · exact .rfl_
  · exact fun x h => by cases x <;> first | rfl | exact absurd (by simp) h

theorem stallRing_frame (w : RingWrite) : SameExcept [.ring, .causes] s (s.stallRing w) := fun x h => by
  cases x <;> first | rfl | exact absurd (by simp) h

theorem recordReport_frame (st : Status) :
    SameExcept [.ring, .fabric, .causes, .holdList] s (s.recordReport st) := by
  refine .ite ?_ ((stallRing_frame s _).mono (by simp))
  refine .trans ((dropHeld_frame s).mono (by simp)) (.trans ?_ ((issueIndex_frame _).mono (by simp)))
  exact fun x h => by cases x <;> first | rfl | exact absurd (by simp) h

theorem indexReport_frame (st : Status) : SameExcept [.ring, .causes] s (s.indexReport st) :=
  .ite (fun x h => by cases x <;> first | rfl | exact absurd (by simp) h) (stallRing_frame s _)

theorem takeConsumerValue_frame (v : RingIx) : SameExcept [.ring, .causes] s (s.takeConsumerValue v) :=
  .ite (fun x h => by cases x <;> first | rfl | exact absurd (by simp) h) ((raise_frame s _ _).mono (by simp))

theorem startFullWalk_frame (job : Bool) : SameExcept [.closer, .jobs, .causes] s (s.startFullWalk job) := by
  unfold State.startFullWalk
  split
  · exact fun x h => by cases x <;> first | rfl | exact absurd (by simp) h
  · exact .ite (((closerIdle_frame s).mono (by simp)).trans ((endJob_frame _ _ _ _).mono (by simp)))
      ((closerIdle_frame s).mono (by simp))

theorem endWalk_frame (n : Nat) : SameExcept [.closer, .jobs, .causes] s (s.endWalk n) := by
  unfold State.endWalk
  dsimp only
  have a : SameExcept [.closer, .jobs, .causes] s (if s.closer.walkJob then s.endJob .close .done n else s) :=
    .ite ((endJob_frame s _ _ _).mono (by simp)) .rfl_
  refine a.trans (.ite (.trans ?_ (startFullWalk_frame _ false)) ((closerIdle_frame _).mono (by simp)))
  exact fun x h => by cases x <;> first | rfl | exact absurd (by simp) h

theorem moveWalk_frame : SameExcept [.closer, .jobs, .causes] s s.moveWalk := by
  unfold State.moveWalk
  split
  · exact fun x h => by cases x <;> first | rfl | exact absurd (by simp) h
  · exact endWalk_frame s _

/-! ### Copy engine -/

theorem fillOne_frame : SameExcept [.copy, .fabric] s s.fillOne := by
  unfold State.fillOne
  dsimp only
  split
  · split
    · exact fun x h => by cases x <;> first | rfl | exact absurd (by simp) h
    · exact .rfl_
  · exact .rfl_

theorem fillSlots_frame : SameExcept [.copy, .fabric] s s.fillSlots :=
  (((fillOne_frame s).trans (fillOne_frame _)).trans (fillOne_frame _)).trans (fillOne_frame _)

theorem redo_frame (k : SlotIx) : SameExcept [.copy, .fabric] s (s.redo k) := fun x h => by
  cases x <;> first | rfl | exact absurd (by simp) h

theorem drainEnd_frame : SameExcept [.copy, .jobs, .causes] s s.drainEnd :=
  .ite (.trans (fun x h => by cases x <;> first | rfl | exact absurd (by simp) h) ((endJob_frame _ _ _ _).mono (by simp)))
    .rfl_

theorem failRebuild_frame (r : FailReason) :
    SameExcept [.copy, .windows, .fabric, .jobs, .causes] s (s.failRebuild r) := by
  unfold State.failRebuild
  split
  · refine .trans (.trans (.trans ?_ ((setLeg_frame _ _ _ _).mono (by simp))) ((withdrawPending_frame _).mono (by simp)))
      ((drainEnd_frame _).mono (by simp))
    exact fun x h => by cases x <;> first | rfl | exact absurd (by simp) h
  · exact .rfl_

theorem completeRebuild_frame : SameExcept [.copy, .windows, .fabric, .jobs, .causes] s s.completeRebuild := by
  unfold State.completeRebuild
  split
  · refine .ite (.trans (.trans (.trans ?_ ((setLeg_frame _ _ _ _).mono (by simp))) ((raise_frame _ _ _).mono (by simp)))
      ((endJob_frame _ _ _ _).mono (by simp))) .rfl_
    exact fun x h => by cases x <;> first | rfl | exact absurd (by simp) h
  · exact .rfl_

theorem copyReport_frame (k : SlotIx) (st : Status) (d : Option LineData) :
    SameExcept [.copy, .windows, .fabric, .jobs, .causes] s (s.copyReport k st d) := by
  unfold State.copyReport
  split
  · exact .rfl_
  · exact ((freeSlot_frame s k).mono (by simp)).trans ((drainEnd_frame _).mono (by simp))
  · split
    · exact .rfl_
    · split
      · refine .ite ((redo_frame s k).mono (by simp)) ?_
        exact fun x h => by cases x <;> first | rfl | exact absurd (by simp) h
      · exact ((freeSlot_frame s k).mono (by simp)).trans (failRebuild_frame _ _)
    · refine .ite ?_ (((freeSlot_frame s k).mono (by simp)).trans (failRebuild_frame _ _))
      unfold State.copyWriteDone
      refine .trans (.trans (.trans ((freeSlot_frame s k).mono (by simp)) ?_) ((fillSlots_frame _).mono (by simp)))
        (completeRebuild_frame _)
      exact fun x h => by cases x <;> first | rfl | exact absurd (by simp) h

/-- What a fabric request's report may change: the ring writer's parts or the copy engine's. -/
theorem report_frame (j : FabricJob) (st : Status) (d : Option LineData) :
    SameExcept [.ring, .holdList, .copy, .windows, .fabric, .jobs, .causes] s (s.report j st d) := by
  cases j with
  | ringRecord => exact (recordReport_frame s st).mono (by simp)
  | ringIndex => exact (indexReport_frame s st).mono (by simp)
  | copySlot k => exact (copyReport_frame s k st d).mono (by simp)

theorem engineSeesWrite_frame (w : WindowIx) (line : Nat) : SameExcept [.copy, .fabric] s (s.engineSeesWrite w line) := by
  unfold State.engineSeesWrite
  split
  · split
    · exact .rfl_
    · dsimp only
      split
      · exact (modSlot_frame s _ _).mono (by simp)
      · exact ((withdraw_frame s _).mono (by simp)).trans (redo_frame _ _)
      · exact .rfl_
  · exact .rfl_

end Sys2Proof.Machine
end

