-- ==== Sys2Proof/Laws/Events.lean ====
section
/-! SUPPORT. Laws of events: what taking an event, a management command or an expiry answers, once and for all. -/

namespace Sys2Proof.Machine

/-- Out of reset, an event answers the state it makes. -/
theorem event_running {s : State} (h : s.running) (f : State → State) : s.event f = .next (f s) := by
  simp [State.event, show s.resetAsserted = false from h]

/-- While RESET is asserted an event changes nothing (R174). -/
theorem event_held {s : State} (h : s.resetAsserted = true) (f : State → State) : s.event f = .next s := by
  simp [State.event, h]

/-- A command that may be taken answers its reply's state with the response frame in place. -/
theorem take_may {s : State} {i : Instr} (h : s.mayTake i) (cmd : State → Reply) :
    s.take i cmd = .next (State.answer (cmd s) i.code) := by
  rw [State.take, event_running h.1, if_pos h.2]

/-- A command that is not the one in hand changes nothing (assumption 7). -/
theorem take_other {s : State} {i : Instr} (h : s.inHandIs i = false) (cmd : State → Reply) : s.take i cmd = .next s := by
  simp [State.take, State.event, h]

/-- The answer to a command whose effect leaves the management port alone. -/
theorem answer_mgmt (s : State) (r : Reply) (code : Byte) (h : r.state.mgmt = s.mgmt) :
    (State.answer r code).mgmt = s.answered code r.status (if r.status = .ok then r.data else []) := by
  simp [State.answer, State.answered, h]

/-- The same with the bytes on MISO left open for a row taken with an empty hand. -/
theorem answer_answeredWith (s : State) (r : Reply) (code : Byte) (h : r.state.mgmt = s.mgmt) :
    s.AnsweredWith code r.status (if r.status = .ok then r.data else []) (State.answer r code).mgmt := by
  simp [State.AnsweredWith, answer_mgmt s r code h, State.answered]

/-- The answer to a command changes nothing besides the management port. -/
theorem answer_frame (r : Reply) (code : Byte) : SameExcept [.mgmt] r.state (State.answer r code) := fun x h => by
  cases x <;> first | rfl | exact absurd (by simp) h

/-- Changing one link unit leaves every other alone. -/
theorem onlyLink_modLink (s : State) (p : PortIx) (f : LinkUnit → LinkUnit) : OnlyLinkOf p [] s (s.modLink p f) :=
  ⟨modLink_frame s p f, fun q h => by simp [Ne.symm h]⟩

/-! ### Settlements -/

/-- What a command that settles a leg answers: a response is accepted by its link unit first, a timeout settles the leg alone, and a sweep's
visit moves on afterwards (R68, R77, R142). -/
theorem settledBy_exec {s : State} {c : Instr} {i : OttIx} {x : Side} {way : SettleWay} (h : s.running) (hs : s.SettledBy c i x way) :
    (∃ p : PortIx, exec c s = .next ((s.acceptPayload p).settle i x way))
      ∨ (way = .timeout ∧ exec c s = .next (s.settle i x way))
      ∨ (way = .abandoned ∧ ∃ p : PortIx, s.sweep.port = some p ∧ exec c s = .next ((s.visitEntry p i).advanceSweep i)) := by
  have accepted (p : PortIx) (r : Response) (hm : s.matches_ p r = true) :
      (s.acceptPayload p).takeResponse p r
        = (s.acceptPayload p).settle (tagIndex r.tag) (tagSide r.tag) (.response (takenStatus s.links[p].mode r.status) r.data) := by
    rw [State.takeResponse, if_pos (show (s.acceptPayload p).matches_ p r = true from hm)]
    simp [State.acceptPayload]
  rcases hs with ⟨p, req, tag, st, d, rfl, hd, ha, hm, rfl, rfl, rfl⟩ | ⟨p, req, tag, st, rfl, ha, hm, rfl, rfl, rfl⟩
    | ⟨rfl, rfl, hp, ht⟩ | ⟨rfl, rfl, rfl, p, hp, -⟩
  · refine .inl ⟨p, ?_⟩
    simp only [exec, execRdataReceived, event_running h, hd, if_true, State.receiveResponse, ha]
    rw [accepted p _ hm]
  · refine .inl ⟨p, ?_⟩
    simp only [exec, execWackReceived, event_running h, if_true, State.receiveResponse, ha]
    rw [accepted p _ hm]
  · refine .inr (.inl ⟨rfl, ?_⟩)
    simp only [exec, execCompletionTimeout, event_running h, OttLeg.timedOut, ht, decide_true, if_true, hp]
  · refine .inr (.inr ⟨rfl, p, hp, ?_⟩)
    simp only [exec, execSweepVisit, event_running h, hp]

/-! ### Expiries -/

/-- An expiry's row has the expiry's meaning. -/
theorem exec_expiry_row (x : Expiry) (s : State) : exec x.row s = x.meaning s := by cases x <;> rfl

/-- An expiry's row answers the state that a tick takes from it. -/
theorem expiry_next (x : Expiry) (s : State) : x.meaning s = .next (s.takeExpiry x) := by cases x <;> rfl

/-- The row of an expiry that is not due changes nothing (assumption 4). -/
theorem takeExpiry_not_due {x : Expiry} {s : State} (h : x.due s = false) : s.takeExpiry x = s := by
  suffices k : x.meaning s = .next s by rw [expiry_next] at k; exact Host.Outcome.next.inj k
  cases x <;>
    simp only [Expiry.due, OttLeg.expiring, Bool.and_eq_false_iff, Bool.or_eq_false_iff, beq_eq_false_iff_ne] at h <;>
    simp only [Expiry.meaning, execReplayTimerExpiry, execTrainTimerExpiry, execDecayTimerExpiry, execCompletionTimeout,
      execReliefTimerExpiry, execPhaseEnd, execEpochTimerExpiry, execRingRetryTimerExpiry, execRestoreLinkDeadline, State.event] <;>
    split <;> (try rfl) <;> grind

/-- Every expiry, by kind, in ascending order of the unit. -/
def allExpiries : List Expiry :=
  (List.finRange 16).map .replay ++ (List.finRange 16).map .train ++ (List.finRange 16).map .decay
    ++ ((List.finRange 1024).flatMap fun i => bothSides.map (.completion i)) ++ (List.finRange 16).map .relief
    ++ (List.finRange 64).map .phase ++ [.epoch, .ringRetry, .deadline]

theorem mem_allExpiries (x : Expiry) : x ∈ allExpiries := by
  cases x <;> simp [allExpiries, bothSides]
  rename_i side; cases side <;> simp

theorem nodup_allExpiries : allExpiries.Nodup := by
  have one : ∀ {n : Nat} (f : Fin n → Expiry), Function.Injective f → ((List.finRange n).map f).Nodup := fun f h =>
    (List.nodup_finRange _).map h
  have legs : ((List.finRange 1024).flatMap fun i => bothSides.map (Expiry.completion i)).Nodup := by
    refine List.nodup_flatMap.mpr ⟨fun i _ => ?_, (List.nodup_finRange _).imp fun h => ?_⟩
    · exact (show bothSides.Nodup by decide).map fun a b k => (Expiry.completion.inj k).2
    · simp [Function.onFun, List.disjoint_left, bothSides, h]
  simp only [allExpiries, List.nodup_append, one Expiry.replay fun _ _ k => Expiry.replay.inj k,
    one Expiry.train fun _ _ k => Expiry.train.inj k, one Expiry.decay fun _ _ k => Expiry.decay.inj k, legs,
    one Expiry.relief fun _ _ k => Expiry.relief.inj k, one Expiry.phase fun _ _ k => Expiry.phase.inj k]
  simp [bothSides, or_imp, forall_and]

/-- A tick takes the expiries that are due, each once. -/
theorem dueExpiries_eq (s : State) : s.dueExpiries = allExpiries.filter fun x => x.due s := by
  have legs : s.dueTimeouts = ((List.finRange 1024).flatMap fun i => bothSides.map (.completion i)).filter fun x => x.due s := by
    have zip : (List.finRange 1024).zip s.ott.entries.toList = (List.finRange 1024).map fun i => (i, s.ott.entries[i]) :=
      List.ext_getElem (by simp) fun n _ _ => by simp
    simp only [State.dueTimeouts, zip, List.flatMap_map, List.filter_flatMap, List.filter_map]
    rfl
  simp only [State.dueExpiries, legs, allExpiries, List.filter_append]

/-- The expiries that a tick takes are those that are due. -/
@[simp] theorem mem_dueExpiries {s : State} {x : Expiry} : x ∈ s.dueExpiries ↔ x.due s = true := by
  simp [dueExpiries_eq, mem_allExpiries]

/-- A tick takes no expiry twice. -/
theorem nodup_dueExpiries (s : State) : s.dueExpiries.Nodup := dueExpiries_eq s ▸ nodup_allExpiries.filter _

end Sys2Proof.Machine
end

