-- ==== Sys2Proof/Laws/Transactions.lean ====
section
/-! SUPPORT. What finishing, settling, dispatching and losing may change: the frames of the operations that reach through many
blocks. -/

namespace Sys2Proof.Machine

/-- The parts that the finish of a transaction may change: everything but the monitors, the contribution table, the sweep, the closer and what
only commands, resets and the time base write. -/
def finishParts : List Part :=
  [.links, .stages, .windows, .ott, .pacers, .tenants, .holdList, .ring, .fabric, .copy, .jobs, .causes]

/-- The parts that an event of the links, the OTT and their neighbours may change: everything but the profiles, rate cards,
settings, management port, fabric time, the RESET pin and the queue. -/
def eventParts : List Part := [.monitors, .contrib, .sweep] ++ finishParts

theorem finishParts_sub : finishParts ⊆ eventParts := by decide

variable (s : State)

/-! ### Finishing -/

theorem countEntry_frame (o : Origin) (w : WindowIx) (f : Nat → Nat) :
    SameExcept [.windows, .ott, .stages] s (s.countEntry o w f) := by
  unfold State.countEntry
  dsimp only
  split <;> exact fun x h => by cases x <;> first | rfl | exact absurd (by simp) h

theorem freeEntry_frame (i : OttIx) : SameExcept [.windows, .ott, .stages] s (s.freeEntry i) := by
  have a := ((modEntry_frame s i fun e => .freed e.gen).mono (more := [.windows, .ott, .stages]) (by simp)).trans
    (countEntry_frame _ (s.ott.entries[i]).origin (s.ott.entries[i]).window fun n => n - 1)
  refine .ite (a.trans ?_) (a.trans ?_) <;> exact fun x h => by cases x <;> first | rfl | exact absurd (by simp) h

theorem finish_frame (i : OttIx) (st : Status) : SameExcept finishParts s (s.finish i st) := by
  unfold State.finish
  dsimp only
  split
  · refine .trans (.ite (.trans ?_ ((meter_frame _ _ _ _).mono (by decide))) ?_) ((freeEntry_frame _ i).mono (by decide)) <;>
      exact (respond_frame s _ _ _ _ _ _).mono (by decide)
  · refine .trans (.ite (.trans ?_ ((meter_frame _ _ _ _).mono (by decide))) ?_) ((freeEntry_frame _ i).mono (by decide)) <;>
      exact (report_frame s _ _ _).mono (by decide)
  · exact (freeEntry_frame s i).mono (by decide)
  · exact .rfl_

theorem cancelWaiting_frame (i : OttIx) (x : Side) : SameExcept finishParts s (s.cancelWaiting i x) :=
  ((modOttLeg_frame s i x _).mono (by decide)).trans (finish_frame _ i _)

theorem cancelWaitingOf_frame (i : OttIx) (f : State → Side → Bool) : SameExcept finishParts s (s.cancelWaitingOf i f) :=
  .foldl (fun s x => .ite (cancelWaiting_frame s i x) .rfl_) _ s

theorem orphanPort_frame (p : PortIx) : SameExcept finishParts s (s.orphanPort p) :=
  .foldl (fun s i => ((modEntry_frame s i _).mono (by decide)).trans (cancelWaitingOf_frame _ i _)) _ s

theorem cancelLostWaiting_frame : SameExcept finishParts s s.cancelLostWaiting :=
  .foldl (fun s i => cancelWaitingOf_frame s i _) _ s

/-! ### Leg loss -/

theorem loseLegs_frame (w : WindowIx) (hit : Side → Bool) :
    SameExcept [.copy, .windows, .fabric, .jobs, .causes] s (s.loseLegs w hit) := by
  unfold State.loseLegs
  dsimp only
  refine .ite ?_ .rfl_
  set s1 : State := bothSides.foldl _ s with hs1
  have a : SameExcept [.copy, .windows, .fabric, .jobs, .causes] s s1 :=
    .foldl (fun s x => .ite ((setLeg_frame s w x _).mono (by simp)) .rfl_) _ s
  have b := fun c => a.trans
    ((raise_frame s1 c (numDetail w.1)).mono (more := [.copy, .windows, .fabric, .jobs, .causes]) (by simp))
  set s2 : State := match (s1.windows[w]).legCondition with
    | .unavailable => s1.raise .windowUnavailable (numDetail w.1)
    | _ => s1.raise .legLost (numDetail w.1) with hs2
  have c : SameExcept [.copy, .windows, .fabric, .jobs, .causes] s s2 := by
    rw [hs2]
    split <;> exact b _
  exact .ite (c.trans (failRebuild_frame _ _)) (.ite (c.trans (failRebuild_frame _ _)) c)

theorem singleLegLoss_frame (w : WindowIx) (x : Side) : SameExcept finishParts s (s.singleLegLoss w x) :=
  ((loseLegs_frame s w _).mono (by decide)).trans (cancelLostWaiting_frame _)

theorem windowStep_frame (p : PortIx) (m : Bool) : SameExcept finishParts s (s.windowStep p m) :=
  (SameExcept.foldl (fun s w => (loseLegs_frame s w _).mono (by decide)) _ s).trans (cancelLostWaiting_frame _)

theorem startSweep_frame : SameExcept [.sweep] s s.startSweep := by
  unfold State.startSweep
  split
  · exact fun x h => by cases x <;> first | rfl | exact absurd (by simp) h
  · exact .rfl_

theorem queueSweep_frame (p : PortIx) : SameExcept [.sweep] s (s.queueSweep p) :=
  .trans (.ite .rfl_ (fun x h => by cases x <;> first | rfl | exact absurd (by simp) h)) (startSweep_frame _)

theorem portLoss_frame (p : PortIx) (m : Bool) : SameExcept (.sweep :: finishParts) s (s.portLoss p m) :=
  .trans (.trans ((raise_frame s _ _).mono (by decide)) ((windowStep_frame _ p m).mono (by decide)))
    ((queueSweep_frame _ p).mono (by decide))

/-! ### Settling -/

theorem settleWatch_frame (i : OttIx) (x : Side) (good : Bool) : SameExcept [.ring, .causes] s (s.settleWatch i x good) := by
  unfold State.settleWatch
  dsimp only
  refine .ite (.trans ?_ (.foldl (fun s v => takeConsumerValue_frame s v) _ _)) ?_ <;>
    exact fun x h => by cases x <;> first | rfl | exact absurd (by simp) h

theorem sampleSettled_frame (p : PortIx) (way : SettleWay) : SameExcept [.monitors] s (s.sampleSettled p way) :=
  modMonitor_frame s p _

theorem settleCounts_frame (i : OttIx) (x : Side) (way : SettleWay) :
    SameExcept [.links, .ott, .monitors, .contrib, .ring, .causes] s (s.settleCounts i x way) := by
  unfold State.settleCounts
  dsimp only
  set s1 : State := (s.modContrib _ _ _).modMonitor _ _ with hs1
  have a : SameExcept [.links, .ott, .monitors, .contrib, .ring, .causes] s s1 :=
    ((modContrib_frame s _ _ _).mono (by simp)).trans ((modMonitor_frame _ _ _).mono (by simp))
  have b : SameExcept [.links, .ott, .monitors, .contrib, .ring, .causes] s
      (if ((s.ott.entries[i]).leg x).sample then
        (s1.sampleSettled ((s.ott.entries[i]).leg x).port way).modOttLeg i x fun l => { l with sample := false } else s1) :=
    .ite ((a.trans ((sampleSettled_frame _ _ _).mono (by simp))).trans ((modOttLeg_frame _ _ _ _).mono (by simp))) a
  have c := b.trans ((settleWatch_frame _ i x (way.progress == .doneGood)).mono
    (more := [.links, .ott, .monitors, .contrib, .ring, .causes]) (by simp))
  exact .ite (c.trans ((addHealth_frame _ _ _).mono (by simp))) c

theorem decideReissue_frame (i : OttIx) (x : Side) : SameExcept [.ott] s (s.decideReissue i x) := modEntry_frame s i _

theorem readLegFailed_frame (i : OttIx) (x : Side) : SameExcept finishParts s (s.readLegFailed i x) :=
  .ite ((decideReissue_frame s i x).mono (by decide)) (finish_frame s i _)

theorem writeLegSettled_frame (i : OttIx) (x : Side) (way : SettleWay) :
    SameExcept finishParts s (s.writeLegSettled i x way) := by
  unfold State.writeLegSettled
  dsimp only
  have a : SameExcept finishParts s
      (if way.progress = .doneFailed then s.singleLegLoss (s.ott.entries[i]).window x else s) :=
    .ite (singleLegLoss_frame s _ x) .rfl_
  exact .ite a (a.trans (finish_frame _ i _))

theorem settle_frame (i : OttIx) (x : Side) (way : SettleWay) :
    SameExcept ([.monitors, .contrib] ++ finishParts) s (s.settle i x way) := by
  unfold State.settle
  dsimp only
  have a := ((settleCounts_frame s i x way).mono (more := [.monitors, .contrib] ++ finishParts) (by decide)).trans
    ((modOttLeg_frame _ i x fun l => { l with progress := way.progress, failStatus := way.failStatus }).mono
      (more := [.monitors, .contrib] ++ finishParts) (by decide))
  refine .ite ?_ (a.trans ((writeLegSettled_frame _ i x way).mono (by decide)))
  split
  · exact (a.trans ((modEntry_frame _ i _).mono (by decide))).trans ((finish_frame _ i _).mono (by decide))
  · exact a.trans ((readLegFailed_frame _ i x).mono (by decide))

theorem takeResponse_frame (p : PortIx) (r : Response) : SameExcept eventParts s (s.takeResponse p r) :=
  .ite ((settle_frame s _ _ _).mono (by decide)) ((lateResponse_frame s p).mono (by decide))

theorem visitEntry_frame (p : PortIx) (i : OttIx) : SameExcept ([.monitors, .contrib] ++ finishParts) s (s.visitEntry p i) :=
  .foldl (fun s x => .ite (settle_frame s i x _) .rfl_) _ s

theorem advanceSweep_frame (i : OttIx) : SameExcept [.sweep] s (s.advanceSweep i) := by
  unfold State.advanceSweep
  split
  · exact fun x h => by cases x <;> first | rfl | exact absurd (by simp) h
  · refine .trans ?_ (startSweep_frame _)
    exact fun x h => by cases x <;> first | rfl | exact absurd (by simp) h

/-! ### Dispatching -/

theorem sendLeg_frame (i : OttIx) (x : Side) : SameExcept [.links, .monitors, .contrib] s (s.sendLeg i x) :=
  .trans (.trans ((offer_frame s _ _).mono (by simp)) ((modContrib_frame _ _ _ _).mono (by simp)))
    ((modMonitor_frame _ _ _).mono (by simp))

theorem takeSample_frame (i : OttIx) (x : Side) : SameExcept [.monitors] s (s.takeSample i x) :=
  .ite (modMonitor_frame s _ _) .rfl_

theorem allocate_frame (i : OttIx) (rest : List OttIx) (o : Origin) (t : TenantIx) (w : WindowIx) (b : ReqBody)
    (line : LineAddr) (sides : List Side) :
    SameExcept [.ott, .ring, .windows, .stages] s (s.allocate i rest o t w b line sides) := by
  unfold State.allocate
  refine .trans (.trans ?_ ((modEntry_frame _ i _).mono (by simp))) ((countEntry_frame _ _ _ _).mono (by simp))
  exact fun x h => by cases x <;> first | rfl | exact absurd (by simp) h

/-- The parts that a dispatch along a route may change. -/
def routeParts : List Part := [.links, .stages, .windows, .ott, .monitors, .contrib, .ring, .fabric, .copy]

theorem dispatchRoute_frame (o : Origin) (t : TenantIx) (w : WindowIx) (b : ReqBody) (line : LineAddr) (sides : List Side) :
    SameExcept routeParts s (s.dispatchRoute o t w b line sides) := by
  unfold State.dispatchRoute
  split
  · exact .rfl_
  · next i rest _ =>
    dsimp only
    have a := ((allocate_frame s i rest o t w b line sides).mono (more := routeParts) (by decide)).trans
      (SameExcept.foldl (f := fun s side => (s.sendLeg i side).takeSample i side)
        (fun s x => ((sendLeg_frame s i x).mono (by decide)).trans ((takeSample_frame _ i x).mono (by decide))) sides _)
    split
    · exact a
    · exact .ite a (a.trans ((engineSeesWrite_frame _ w line.toNat).mono (by decide)))

theorem countRefused_frame (t : TenantIx) (st : Status) : SameExcept [.tenants, .causes] s (s.countRefused t st) := by
  unfold State.countRefused
  split
  · exact ((modTenant_frame s t _).mono (by simp)).trans ((raise_frame _ _ _).mono (by simp))
  · exact (modTenant_frame s t _).mono (by simp)
  · exact .rfl_

theorem departHead_frame (p : PortIx) (r : ReqId) : SameExcept [.stages] s (s.departHead p r) :=
  (modRequester_frame s p r _).trans (modStage_frame _ p _)

theorem answerHead_frame (p : PortIx) (r : ReqId) (q : Request) (st : Status) :
    SameExcept [.links, .stages, .tenants, .causes] s (s.answerHead p r q st) :=
  .trans (.trans ((departHead_frame s p r).mono (by simp)) ((respond_frame _ _ _ _ _ _ _).mono (by simp)))
    ((countRefused_frame _ _ _).mono (by simp))

theorem takeHead_frame (p : PortIx) (r : ReqId) (q : Request) :
    SameExcept ([.tenants, .causes] ++ routeParts) s (s.takeHead p r q) := by
  unfold State.takeHead
  dsimp only
  split
  · exact (answerHead_frame s p r q _).mono (by decide)
  · exact (answerHead_frame s p r q _).mono (by decide)
  · exact (answerHead_frame s p r q _).mono (by decide)
  · exact ((departHead_frame s p r).mono (by decide)).trans ((dispatchRoute_frame _ _ _ _ _ _ _).mono (by decide))

theorem markSent_frame (j : FabricJob) : SameExcept [.copy] s (s.markSent j) := by
  cases j
  · exact .rfl_
  · exact .rfl_
  · exact modSlot_frame s _ _

theorem takeFabric_frame (q : FabricReq) : SameExcept eventParts s (s.takeFabric q) := by
  unfold State.takeFabric
  dsimp only
  have a : SameExcept eventParts s { s with fabric := s.fabric.erase q } := fun x h => by
    cases x <;> first | rfl | exact absurd (by decide) h
  split
  · exact (a.trans ((countRefused_frame _ _ _).mono (by decide))).trans ((report_frame _ _ _ _).mono (by decide))
  · exact (a.trans ((countRefused_frame _ _ _).mono (by decide))).trans ((report_frame _ _ _ _).mono (by decide))
  · exact a.trans ((report_frame _ _ _ _).mono (by decide))
  · exact (a.trans ((markSent_frame _ _).mono (by decide))).trans ((dispatchRoute_frame _ _ _ _ _ _ _).mono (by decide))

theorem takeRequest_frame (p : PortIx) (q : Request) : SameExcept [.links, .stages] s (s.takeRequest p q) :=
  .ite ((modRequester_frame s p _ _).mono (by simp))
    (((modRequester_frame s p _ _).mono (by simp)).trans ((respond_frame _ _ _ _ _ _ _).mono (by simp)))

theorem receiveRequest_frame (p : PortIx) (n : Seq) (q : Request) :
    SameExcept [.links, .stages, .causes] s (s.receiveRequest p n q) := by
  refine .ite (.ite (.ite ?_ ((overrun_frame s p).mono (by simp))) ((outOfSequence_frame s p).mono (by simp))) .rfl_
  exact .trans (.trans ((acceptPayload_frame s p).mono (by simp)) ((modLink_frame _ p _).mono (by simp)))
    ((takeRequest_frame _ p q).mono (by simp))

theorem receiveResponse_frame (p : PortIx) (n : Seq) (r : Response) : SameExcept eventParts s (s.receiveResponse p n r) :=
  .ite (.ite (((acceptPayload_frame s p).mono (by decide)).trans (takeResponse_frame _ p r))
    ((outOfSequence_frame s p).mono (by decide))) .rfl_

/-! ### Links: failure, reset, training -/

theorem giveUpIngress_frame (p : PortIx) : SameExcept eventParts s (s.giveUpIngress p) :=
  ((modRequesters_frame s p _).mono (by decide)).trans ((orphanPort_frame _ p).mono (by decide))

theorem resetUnit_frame (p : PortIx) : SameExcept [.links, .stages] s (s.resetUnit p) :=
  .trans (.trans ((modLink_frame s p _).mono (by simp)) ((modRequesters_frame _ p _).mono (by simp)))
    ((modStage_frame _ p _).mono (by simp))

theorem linkReset_frame (p : PortIx) : SameExcept eventParts s (s.linkReset p) := by
  unfold State.linkReset
  dsimp only
  have a : SameExcept eventParts s (if takesRequests s.links[p].mode then s.giveUpIngress p else s) :=
    .ite (giveUpIngress_frame s p) .rfl_
  have b := a.trans ((markStale_frame _ p).mono (by decide))
  exact .trans (.ite (b.trans ((portLoss_frame _ p false).mono (by decide))) b) ((resetUnit_frame _ p).mono (by decide))

theorem enterFailed_frame (p : PortIx) : SameExcept eventParts s (s.enterFailed p) := by
  unfold State.enterFailed
  dsimp only
  have a : SameExcept eventParts s (s.modLink p LinkUnit.failing) := (modLink_frame s p _).mono (by decide)
  have b : SameExcept eventParts s (if takesRequests s.links[p].mode then (s.modLink p LinkUnit.failing).giveUpIngress p
      else s.modLink p LinkUnit.failing) := .ite (a.trans (giveUpIngress_frame _ p)) a
  exact .ite (b.trans ((portLoss_frame _ p false).mono (by decide))) (b.trans ((raise_frame _ _ _).mono (by decide)))

theorem changeMode_frame (p : PortIx) (m : PortMode) : SameExcept eventParts s (s.changeMode p m) := by
  unfold State.changeMode
  dsimp only
  have a : SameExcept eventParts s (if takesRequests s.links[p].mode then s.giveUpIngress p else s) :=
    .ite (giveUpIngress_frame s p) .rfl_
  have b := a.trans ((markStale_frame _ p).mono (by decide))
  exact .trans (.trans (.ite (b.trans ((portLoss_frame _ p true).mono (by decide))) b) ((modLink_frame _ p _).mono (by decide)))
    ((resetUnit_frame _ p).mono (by decide))

theorem restoreDone_frame (p : PortIx) : SameExcept [.windows, .jobs, .causes] s (s.restoreDone p) := by
  unfold State.restoreDone
  dsimp only
  set s1 : State := List.foldl _ s (s.returning p) with hs1
  have a : SameExcept [.windows, .jobs, .causes] s s1 := .foldl (fun s w => (setLeg_frame s w _ _).mono (by simp)) _ s
  refine .ite ((a.trans ?_).trans ((endJob_frame _ _ _ _).mono (by simp))) .rfl_
  exact fun x h => by cases x <;> first | rfl | exact absurd (by simp) h

theorem trainingComplete_frame (p : PortIx) :
    SameExcept [.links, .stages, .windows, .jobs, .causes] s (s.trainingComplete p) :=
  .trans (.trans ((modLink_frame s p _).mono (by simp)) ((modRequesters_frame _ p _).mono (by simp)))
    ((restoreDone_frame _ p).mono (by simp))

theorem hearPartner_frame (p : PortIx) : SameExcept [.links, .stages, .windows, .jobs, .causes] s (s.hearPartner p) :=
  .ite (((modLink_frame s p _).mono (by simp)).trans (trainingComplete_frame _ p)) ((modLink_frame s p _).mono (by simp))

theorem decideRetrain_frame (p : PortIx) (q : Seq) : SameExcept eventParts s (s.decideRetrain p q) :=
  .ite ((retrainSuccess_frame s p q).mono (by decide)) (enterFailed_frame s p)

/-! ### Monitors -/

theorem adjustLevels_frame (p : PortIx) (up : TenantIx → Bool) :
    SameExcept [.contrib, .pacers, .tenants] s (s.adjustLevels p up) := by
  unfold State.adjustLevels
  refine .foldl (fun s t => ?_) _ s
  exact .ite .rfl_ (((modContrib_frame s t p _).mono (by simp)).trans ((repace_frame _ t).mono (by simp)))

theorem recordJudgement_frame (p : PortIx) (c : Bool) : SameExcept [.monitors, .causes] s (s.recordJudgement p c) :=
  .ite (((modMonitor_frame s p _).mono (by simp)).trans ((raise_frame _ _ _).mono (by simp)))
    ((modMonitor_frame s p _).mono (by simp))

theorem evaluate_frame (p : PortIx) : SameExcept [.monitors, .causes, .contrib, .pacers, .tenants] s (s.evaluate p) :=
  ((recordJudgement_frame s p _).mono (by simp)).trans ((adjustLevels_frame _ p _).mono (by simp))

end Sys2Proof.Machine
end

