-- ==== Sys2Proof/Laws/Watch.lean ====
section
/-! SUPPORT. The consumer watch: what only the dispatch of a write and the settling of a leg change (R133, R134). -/

namespace Sys2Proof.Machine

/-- The watch list and the consumer index are the same before and after. -/
def WatchKept (s t : State) : Prop := t.ring.watch = s.ring.watch ∧ t.ring.cons = s.ring.cons

theorem WatchKept.rfl_ {s : State} : WatchKept s s := ⟨rfl, rfl⟩

theorem WatchKept.trans {s t u : State} (h : WatchKept s t) (k : WatchKept t u) : WatchKept s u :=
  ⟨k.1.trans h.1, k.2.trans h.2⟩

theorem WatchKept.ite {s t u : State} {c : Prop} [Decidable c] (h : WatchKept s t) (k : WatchKept s u) :
    WatchKept s (if c then t else u) := by
  split
  · exact h
  · exact k

theorem WatchKept.foldl {α : Type} {f : State → α → State} (h : ∀ s a, WatchKept s (f s a)) (l : List α) (s : State) :
    WatchKept s (l.foldl f s) := by
  induction l generalizing s with
  | nil => exact .rfl_
  | cons a l ih => exact (h s a).trans (ih (f s a))

/-- Whatever leaves the ring alone keeps the watch. -/
theorem SameExcept.watch {parts : List Part} {s t : State} (h : SameExcept parts s t) (k : Part.ring ∉ parts) : WatchKept s t := by
  have e : t.ring = s.ring := h .ring k
  exact ⟨by rw [e], by rw [e]⟩

variable (s : State)

theorem report_watch (j : FabricJob) (st : Status) (d : Option LineData) : WatchKept s (s.report j st d) := by
  cases j with
  | ringRecord => exact .ite ⟨rfl, rfl⟩ ⟨rfl, rfl⟩
  | ringIndex => exact .ite ⟨rfl, rfl⟩ ⟨rfl, rfl⟩
  | copySlot k => exact (copyReport_frame s k st d).watch (by decide)

theorem finish_watch (i : OttIx) (st : Status) : WatchKept s (s.finish i st) := by
  unfold State.finish
  dsimp only
  split
  · exact .trans (.ite (.trans ((respond_frame s _ _ _ _ _ _).watch (by decide)) ((meter_frame _ _ _ _).watch (by decide)))
      ((respond_frame s _ _ _ _ _ _).watch (by decide))) ((freeEntry_frame _ i).watch (by decide))
  · exact .trans (.ite (.trans (report_watch s _ _ _) ((meter_frame _ _ _ _).watch (by decide))) (report_watch s _ _ _))
      ((freeEntry_frame _ i).watch (by decide))
  · exact (freeEntry_frame s i).watch (by decide)
  · exact .rfl_

theorem cancelWaiting_watch (i : OttIx) (x : Side) : WatchKept s (s.cancelWaiting i x) :=
  ((modOttLeg_frame s i x _).watch (by decide)).trans (finish_watch _ i _)

theorem cancelLostWaiting_watch : WatchKept s s.cancelLostWaiting :=
  .foldl (fun s i => .foldl (fun s x => .ite (cancelWaiting_watch s i x) .rfl_) _ s) _ s

theorem singleLegLoss_watch (w : WindowIx) (x : Side) : WatchKept s (s.singleLegLoss w x) :=
  ((loseLegs_frame s w _).watch (by decide)).trans (cancelLostWaiting_watch _)

theorem readLegFailed_watch (i : OttIx) (x : Side) : WatchKept s (s.readLegFailed i x) :=
  .ite ((decideReissue_frame s i x).watch (by decide)) (finish_watch s i _)

theorem writeLegSettled_watch (i : OttIx) (x : Side) (way : SettleWay) : WatchKept s (s.writeLegSettled i x way) := by
  have a : WatchKept s (if way.progress = .doneFailed then s.singleLegLoss (s.ott.entries[i]).window x else s) :=
    .ite (singleLegLoss_watch s _ x) .rfl_
  exact .ite a (a.trans (finish_watch _ i _))

/-- After its counts, a settlement leaves the watch alone. -/
theorem settle_watch (i : OttIx) (x : Side) (way : SettleWay) : WatchKept (s.settleCounts i x way) (s.settle i x way) := by
  have a := (modOttLeg_frame (s.settleCounts i x way) i x fun l =>
    { l with progress := way.progress, failStatus := way.failStatus }).watch (by decide)
  refine .ite ?_ (a.trans (writeLegSettled_watch _ i x way))
  split
  · exact (a.trans ((modEntry_frame _ i _).watch (by decide))).trans (finish_watch _ i _)
  · exact a.trans (readLegFailed_watch _ i x)

end Sys2Proof.Machine
end

