-- ==== Sys2Proof/Tests/Slice0.lean ====
section
/-! SUPPORT. Tests: the checks of WellFormed, frames and messages written out from Chapter 11, worked cases of the manual, and a
concrete state that meets the hypotheses of each statement. -/

-- One theorem at a time: each evaluation holds a whole State, and many at once hold many.
set_option Elab.async false

namespace Sys2Proof.Tests

open Sys2Proof Sys2Proof.Machine

/-! ### WellFormed refuses an ill-formed term of each check -/

theorem test_wellFormed_cred_count : (Instr.credReceived 0 0 0).WellFormed = false ∧ (Instr.credReceived 0 0 65).WellFormed = false
    ∧ (Instr.credReceived 0 0 1).WellFormed = true ∧ (Instr.credReceived 0 0 64).WellFormed = true := by decide

theorem test_wellFormed_rdata : (Instr.rdataReceived 0 0 0 0 .good none).WellFormed = false
    ∧ (Instr.rdataReceived 0 0 0 0 .poison (some (Vector.replicate 64 0))).WellFormed = false
    ∧ (Instr.rdataReceived 0 0 0 0 .lost none).WellFormed = true := by decide

theorem test_wellFormed_amount : (Instr.adjustTenant 1 (2 ^ 31)).WellFormed = false ∧ (Instr.adjustTenant 256 0).WellFormed = false
    ∧ (Instr.adjustTenant 1 (-2 ^ 31)).WellFormed = true := by decide

theorem test_wellFormed_window_length : (Instr.setWindow 0 1 0 0 0 6 0 0 0 0 0 0).WellFormed = false
    ∧ (Instr.setWindow 0 1 0 1 0 6 0 0 0 0 0 0).WellFormed = true := by decide

theorem test_wellFormed_width : (Instr.setPortMode 256 0).WellFormed = false ∧ (Instr.setEpoch 65536).WellFormed = false
    ∧ (Instr.setEpoch 65535).WellFormed = true := by decide

/-! ### Frames and messages, byte by byte (R176, R178) -/

/-- No row of the table gives bits, so no word spells a command. -/
theorem test_table_word : decodeTableWord 32 0x01 = none := by decide

/-- SET_EPOCH is the twelfth name of Table 10-2; 3600 is 0E10H. -/
theorem test_frame_set_epoch : decodeFrame ⟨[12, 2, 0x0E, 0x10], false⟩ = .setEpoch 3600 := by decide

/-- ADJUST_TENANT(5, −10): a signed argument of four bytes in two's complement. -/
theorem test_frame_adjust : decodeFrame ⟨[14, 5, 5, 0xFF, 0xFF, 0xFF, 0xF6], false⟩ = .adjustTenant 5 (-10) := by decide

/-- SET_TENANT(14, card 6, profile 2, ceiling 10, cap 2, floor 0): the ceiling at six bytes. -/
theorem test_frame_set_tenant :
    decodeFrame ⟨[3, 12, 14, 6, 2, 1, 0, 0, 0, 0, 0, 10, 2, 0], false⟩ = .setTenant 14 6 2 1 10 2 0 := by decide

/-- SET_WINDOW of length 0 is the clear form. -/
theorem test_frame_window_clear :
    decodeFrame ⟨[7, 24, 9, 0, 0, 0, 0, 0, 0, 0, 0, 0, 0, 0, 0, 0, 0, 0, 0, 0, 0, 0, 0, 0, 0, 0], false⟩ = .setWindowClear 9 := by
  decide

/-- A code that names no command, a short frame, a frame of the wrong length and one cut within a byte are malformed (R163). -/
theorem test_frame_malformed : decodeFrame ⟨[37, 0], false⟩ = .malformedCommand 37 ∧ decodeFrame ⟨[], true⟩ = .malformedCommand 0
    ∧ decodeFrame ⟨[12, 2, 1], false⟩ = .malformedCommand 12 ∧ decodeFrame ⟨[30, 1, 0], false⟩ = .malformedCommand 30
    ∧ decodeFrame ⟨[30, 0], true⟩ = .malformedCommand 30 := by decide

/-- RD with sequence number 3, requester 2, tag 1234H, line 5; its CRC computed outside the model from the polynomial of R2. -/
theorem test_message_rd : receivedBytes 4 [1, 3, 2, 0x12, 0x34, 0, 0, 0, 0, 0, 5, 10, 73] = .rdReceived 4 3 2 0x1234 5 := by
  decide +kernel

/-- LACK(41) passes its CRC; with one bit changed it is a CRC discard. -/
theorem test_message_lack : receivedBytes 4 [8, 41, 34, 161] = .lackReceived 4 41 ∧ receivedBytes 4 [8, 40, 34, 161] = .crcDiscard 4 := by
  decide +kernel

/-- CRED of 65 is malformed, a TRN of mode 3 with the fresh flag set and its reserved flag bits set is read. -/
theorem test_message_training : receivedBytes 4 [10, 2, 65, 117, 66] = .crcDiscard 4
    ∧ receivedBytes 4 [11, 3, 7, 0xFF, 153, 191] = .trnReceived 4 .memory 7 true := by decide +kernel

/-- Table 11-2: leg bit 14, generation in bits 13 to 10, index in bits 9 to 0. -/
theorem test_forward_tag : forwardTag 1023 5 .mirror = 0x57FF#16 := by decide

/-- The producer index is stored least significant byte first (R177). -/
theorem test_index_line : (indexLine 8 0x01020304#32)[8] = 4 ∧ (indexLine 8 0x01020304#32)[11] = 1 := by decide +kernel

/-! ### A small part for one-step tests -/

/-- A link unit in an ACTIVE session of the given mode. -/
def activeLink (mode : PortMode) : LinkUnit :=
  { LinkUnit.released with
    mode := mode, state := .active, trnOwed := none, trainTimer := none, heard := true, partnerMode := some .server
    sendCredit := Vector.replicate 16 8, recvCredit := Vector.replicate 16 2 }

/-- Port 0 is a SERVER port with requester 0 ENABLED for tenant 1, ports 6 and 7 are MEMORY ports, and tenant 1 has window 0, mirrored on
them. -/
def lab : State :=
  { State.reset with
    links := mapAt (mapAt (mapAt State.reset.links 0 fun _ => activeLink .server) 6 fun _ => activeLink .memory) 7
      fun _ => activeLink .memory
    stages := mapAt State.reset.stages 0 fun g => { g with requesters := mapAt g.requesters 0 fun _ => ⟨true, 1, 4, 4, 0, []⟩ }
    windows := mapAt State.reset.windows 0 fun _ =>
      ⟨true, true, 1, 0, 1, .readWrite, ⟨6, 0, 0, .inService⟩, ⟨7, 5, 0, .inService⟩, 0⟩
    tenants := mapAt State.reset.tenants 1 fun r => { r with state := .active } }

/-- The same part with one link unit changed. -/
def labLink (p : PortIx) (f : LinkUnit → LinkUnit) : State := { lab with links := mapAt lab.links p f }

/-- What a command leaves, seen through `f`. -/
def after {α : Type} (c : Instr) (s : State) (f : State → α) : Option α :=
  match exec c s with
  | .next t => some (f t)
  | .fault _ => none
  | .refused _ => none

/-- A read request for line 3. -/
def read3 : Request := ⟨0, 7, 3, .rd⟩

/-- A write request for line 3. -/
def write3 : Request := ⟨0, 7, 3, .wr (Vector.replicate 64 1)⟩

/-! ### Worked cases of the manual -/

/-- Section 1.9.1: the CRC failure after RD 40. -/
theorem test_damaged_request :
    after (.crcDiscard 0) (labLink 0 fun u => { u with expSeq := 41, ackOwed := 1 })
      (fun t => (t.links[0].expSeq, t.links[0].episode, t.links[0].lnakOwed, t.links[0].health, t.links[0].counters.crcDiscards))
      = some (41, true, true, 16, 1) := by decide +kernel

/-- Section 1.9.1: LNAK(41) leaves and K becomes 0. -/
theorem test_lnak_leaves :
    after (.transmitArbiter 0) (labLink 0 fun u => { u with expSeq := 41, ackOwed := 1, lnakOwed := true })
      (fun t => (t.links[0].output, t.links[0].ackOwed)) = some (some (.lnak 41), 0) := by decide +kernel

/-- Section 2.7.2: a reduced grant leaves the credit in force, with nothing owed to cancel. -/
theorem test_reduced_grant :
    after (.setRequester 0 0 1 1 4)
      { lab with stages := mapAt lab.stages 0 fun g => { g with requesters := mapAt g.requesters 0 fun _ => ⟨true, 1, 8, 8, 0, [read3, read3]⟩ } }
      (fun t => let e := (t.stages[0]).requesters[0]; (e.grant, e.inForce, e.owed)) = some (4, 8, 0) := by decide +kernel

/-- Section 5.2.1: legs of tenants 3, 5, 7 and 0 on port 6 and the levels before the evaluation; a fresh sample above the latency mark
judges the port CONGESTED. -/
def shares : State :=
  let set := fun (t : TenantIx) (n level : Nat) (c : Vector (Vector Contribution 16) 64) => mapAt c t fun row => mapAt row 6 fun _ => ⟨n, level⟩
  { lab with
    time := 200
    monitors := mapAt lab.monitors 6 fun m => { m with inFlight := 40, lastSample := some 51, fresh := true }
    contrib := set 3 18 1 (set 5 12 0 (set 7 6 2 (set 0 4 0 (set 12 0 1 lab.contrib)))) }

/-- Section 5.2.1: the levels after the evaluation. -/
theorem test_share_levels :
    after (.reliefTimerExpiry 6) shares
      (fun t => [3, 5, 7, 0, 12].map fun k : TenantIx => ((t.contrib[k])[(6 : PortIx)]).level) = some [2, 1, 1, 0, 0] := by
  decide +kernel

/-- Section 5.2.1 with the share at 256: only the largest rises. -/
theorem test_share_largest :
    after (.reliefTimerExpiry 6) { shares with settings := { shares.settings with share := 256 } }
      (fun t => [3, 5, 7, 0, 12].map fun k : TenantIx => ((t.contrib[k])[(6 : PortIx)]).level) = some [2, 0, 1, 0, 0] := by
  decide +kernel

/-- Section 6.12.1: one epoch charged under NEAREST and under UP. -/
theorem test_charge_epoch :
    let r := { Tenant.unused with acc := 1019084800000, adj := -10, balance := 250000 }
    let nearest := chargeAtClose r ⟨2048, 3072, 64, .nearest, true⟩ false
    let up := chargeAtClose r ⟨2048, 3072, 64, .up, true⟩ false
    nearest.charge = 60732 ∧ nearest.acc = 3145728 ∧ nearest.balance = 310732 ∧ up.charge = 60733 ∧ up.acc = -13631488
      ∧ up.balance = 310733 := by decide +kernel

/-- Section 6.12.2: −2.25 BU and −2.5 BU under the four modes. -/
theorem test_negative_total :
    [Rounding.nearest, .up, .down, .trunc].map (fun m => (roundUnits m (-37748736), roundUnits m (-41943040)))
      = [(-2, -3), (-2, -2), (-3, -3), (-2, -2)] := by decide +kernel

/-- Section 6.12.3: the fifth line caps the tenant. -/
theorem test_ceiling_crossed :
    let s := { lab with
      tenants := mapAt lab.tenants 30 fun r =>
        { r with state := .active, card := 9, ceiling := some 10, cap := 2, acc := 159383552 }
      cards := mapAt lab.cards 9 fun _ => ⟨65536, 131072, 128, .nearest, true⟩ }
    let r := (s.meter 30 true false).tenants[30]
    r.acc = 176160768 ∧ r.capped = true ∧ r.cappedInEpoch = true ∧ r.rl = 1 := by decide +kernel

/-- Section 10.6.1: the empty response after reset, and the answer to SET_EPOCH(3600). -/
theorem test_read_after_reset : after (.readFrame 5) State.reset (fun t => t.mgmt.miso) = some [0, 0, 0, 0, 0, 0] := by decide +kernel

theorem test_set_epoch_answer :
    after (.setEpoch 3600) State.reset (fun t => (t.mgmt.response, t.closer.timer)) =
      some (⟨12, .ok, false, []⟩, some ⟨0, 3600000000⟩) := by decide +kernel

/-! ### One-step tests, their results from the rules -/

/-- WRM with no receive credit is an overrun (R11). -/
theorem test_overrun :
    after (.wrmReceived 0 0 0 7 3 (Vector.replicate 64 0) 1) (labLink 0 fun u => { u with recvCredit := Vector.replicate 16 0 })
      (fun t => (t.links[0].expSeq, t.links[0].counters.overruns, (t.causes.entries[10]).pending)) = some (0, 1, true) := by
  decide +kernel

/-- The replay timer's expiry at Q = 3 enters RETRAIN (R9). -/
theorem test_replay_limit :
    after (.replayTimerExpiry 6)
      { (labLink 6 fun u => { u with replayCount := 3, sendSeq := 1, retry := [.request read3], replayTimer := some ⟨0, 16⟩ }) with time := 16 }
      (fun t => (t.links[6].state, t.links[6].attempt, t.links[6].health)) = some (.retrain, some 1, 64) := by decide +kernel

/-- A write to a mirrored window leaves on both legs with tags that differ in bit 14 (R57, R66). -/
theorem test_mirrored_write :
    after (.dispatch 0)
      { lab with stages := mapAt lab.stages 0 fun g => { g with requesters := mapAt g.requesters 0 fun e => { e with queue := [write3] } } }
      (fun t => ((t.links[6].txQueue.map fun m => match m with | .request r => (r.tag, r.line) | .response _ => (0, 0)),
        t.links[7].txQueue.map fun m => match m with | .request r => (r.tag, r.line) | .response _ => (0, 0)))
      = some ([(0x0400, 3)], [(0x4400, 163843)]) := by decide +kernel

/-- HOLD_ALERT at depth 15 answers STATE (R173). -/
theorem test_hold_limit :
    after .holdAlert { lab with causes := { lab.causes with holdDepth := 15 } } (fun t => (t.causes.holdDepth, t.mgmt.response.status))
      = some (15, .state) := by decide +kernel

/-- A second command frame is lost while one is in hand, and the answer carries the overlap flag (R163). -/
theorem test_overlap :
    after .readTime { lab with mgmt := { lab.mgmt with inHand := some ⟨[30, 0], false⟩, overlap := true } }
      (fun t => (t.mgmt.response.overlap, t.mgmt.overlap, t.mgmt.inHand)) = some (true, false, none) := by decide +kernel

/-! ### States that meet the hypotheses of the statements -/

theorem test_witness_StepRunsFrontCommand : ({ lab with pending := [.readTime, .closeEpoch] } : State).pending = .readTime :: [.closeEpoch] := rfl

theorem test_witness_FrameDecodesToCommand :
    (Instr.setEpoch 65535).WellFormed = true ∧ encodeFrame (.setEpoch 65535) = some ⟨[12, 2, 255, 255], false⟩ := by decide

theorem test_witness_MessageBytesReceived : messageOk (.cred 2 64) = true ∧ messageOk (.payload 1 (.request write3)) = true
    ∧ messageOk (.payload 1 (.response ⟨.rdata, 0, 7, .lost, none⟩)) = true := by decide

/-- The small part with the whole credit of every requester accounted for, and a command waiting. -/
def accounted : State :=
  { lab with
    links := lab.links.map fun u => { u with recvCredit := Vector.replicate 16 0 }
    stages := mapAt lab.stages 0 fun g => { g with requesters := mapAt g.requesters 0 fun e => { e with owed := 3, queue := [read3] } }
    pending := [.transmitArbiter 0] }

theorem test_accounted_links : accounted.LinksInRange := by
  have attempt : ∀ p : PortIx, accounted.links[p].attempt = none := by decide +kernel
  unfold State.LinksInRange LinkUnit.InRange
  refine fun p => ⟨?_, ?_, ?_, fun k h => absurd ((attempt p).symm.trans h) nofun, ?_, ?_, ?_⟩
  all_goals (revert p; decide +kernel)

theorem test_accounted_accounts : accounted.AccountsInRange := by
  refine fun p r => ⟨?_, ?_, ?_, ?_, ?_, ?_, ?_⟩
  all_goals (revert p r; decide +kernel)

theorem test_witness_EveryStepKeepsRanges : accounted.InRange ∧ ∃ t, step accounted = .next t := by
  refine ⟨⟨test_accounted_links, test_accounted_accounts, ?_⟩, _, rfl⟩
  unfold State.CausesInRange State.HoldListInRange State.FabricTenantActive
  decide +kernel

theorem test_witness_EventsLeaveSettings : (Instr.sweepVisit).command = none ∧ (∀ f, Instr.sweepVisit ≠ .commandFrame f)
    ∧ (∀ n, Instr.sweepVisit ≠ .readFrame n) ∧ (∀ b, Instr.sweepVisit ≠ .malformedCommand b) ∧ ∃ t, exec .sweepVisit lab = .next t :=
  ⟨rfl, nofun, nofun, nofun, _, rfl⟩

theorem test_witness_AcceptedRequestJoinsQueue : lab.running ∧ lab.links[(0 : PortIx)].state = .active
    ∧ takesRequests lab.links[(0 : PortIx)].mode = true ∧ 1 ≤ lab.links[(0 : PortIx)].recvCredit[(0 : ReqId)]
    ∧ ((lab.stages[(0 : PortIx)]).requesters[(0 : ReqId)]).enabled = true := ⟨rfl, by decide +kernel⟩

theorem test_witness_DisabledRequesterAnswered :
    let s := { lab with stages := mapAt lab.stages 0 fun g => { g with requesters := mapAt g.requesters 0 fun _ => ⟨false, 1, 4, 1, 0, []⟩ } }
    s.running ∧ s.links[(0 : PortIx)].state = .active ∧ takesRequests s.links[(0 : PortIx)].mode = true
      ∧ 1 ≤ s.links[(0 : PortIx)].recvCredit[(0 : ReqId)] ∧ ((s.stages[(0 : PortIx)]).requesters[(0 : ReqId)]).enabled = false
      ∧ 1 ≤ ((s.stages[(0 : PortIx)]).requesters[(0 : ReqId)]).inForce := ⟨rfl, by decide +kernel⟩

theorem test_witness_CreditOverrun :
    let s := labLink 0 fun u => { u with recvCredit := Vector.replicate 16 0 }
    s.running ∧ s.links[(0 : PortIx)].state = .active
      ∧ (takesRequests s.links[(0 : PortIx)].mode = false ∨ s.links[(0 : PortIx)].recvCredit[(0 : ReqId)] = 0)
      ∧ takesRequests s.links[(6 : PortIx)].mode = false := ⟨rfl, by decide +kernel⟩

theorem test_witness_PayloadOutOfSequence : lab.running ∧ messageOk (.payload 255 (.request read3)) = true
    ∧ lab.links[(0 : PortIx)].state = .active ∧ (255 : Seq) ≠ lab.links[(0 : PortIx)].expSeq
    ∧ lab.links[(1 : PortIx)].state ≠ .active := ⟨rfl, by decide +kernel⟩

theorem test_witness_DamagedMessageDiscarded : lab.running ∧ lab.links[(0 : PortIx)].state = .active
    ∧ lab.links[(1 : PortIx)].state ≠ .active := ⟨rfl, by decide +kernel⟩

/-- A link unit of three buffered messages, the sequence numbers 254, 255 and 0. -/
def buffered (u : LinkUnit) : LinkUnit :=
  { u with sendSeq := 1, retry := [.request read3, .request read3, .request read3], replayTimer := some ⟨0, 16⟩ }

theorem test_witness_LackRemovesAcknowledged :
    let s := labLink 0 buffered
    let r := labLink 0 fun u => { buffered u with state := .retrain }
    let u := s.links[(0 : PortIx)]
    s.running ∧ u.oldest = 254 ∧ ((0 : Seq) - u.oldest).toNat < u.retry.length ∧ u.state = .active
      ∧ r.links[(0 : PortIx)].state = .retrain ∧ u.retry.length ≤ ((1 : Seq) - u.oldest).toNat := ⟨rfl, by decide +kernel⟩

theorem test_witness_LnakRemovesAndReplays :
    let s := labLink 0 buffered
    let q := labLink 0 fun u => { buffered u with replayCount := 3 }
    let u := s.links[(0 : PortIx)]
    s.running ∧ u.state = .active ∧ ((0 : Seq) - u.oldest).toNat < u.retry.length ∧ u.replayCount < 3
      ∧ (((254 : Seq) - u.oldest).toNat = 0 ∧ 3 ≤ q.links[(0 : PortIx)].replayCount)
      ∧ (((1 : Seq) - u.oldest).toNat = u.retry.length ∧ 0 < ((1 : Seq) - u.oldest).toNat)
      ∧ u.retry.length < ((2 : Seq) - u.oldest).toNat ∧ lab.links[(0 : PortIx)].retry = [] := ⟨rfl, by decide +kernel⟩

theorem test_witness_CredRaisesSendCredit : lab.running ∧ 1 ≤ 64 ∧ 64 ≤ 64 ∧ takesOffers lab.links[(6 : PortIx)].state = true
    ∧ (labLink 6 fun u => { u with state := .failed }).links[(6 : PortIx)].state = .failed := ⟨rfl, by decide +kernel⟩

/-- The small part with entry 5 of the OTT holding a request of port 0, its primary leg SENT on port 6. -/
def inFlight (body : ReqBody) (mirror : LegProgress) : State :=
  { lab with ott := { lab.ott with entries := mapAt lab.ott.entries 5 fun e => { e with
      state := .live, gen := 1, origin := .ingress 0 0 7, tenant := 1, window := 0, body := body, line := 3
      primary := { OttLeg.none with progress := .sent, port := 6, timeout := 2000 }
      mirror := { OttLeg.none with progress := mirror, port := 7, timeout := 2000 } } } }

theorem test_witness_TrainingCompletes :
    let r := { labLink 6 fun u => { u with state := .training } with
      jobs := { lab.jobs with link := ⟨.active, 0⟩, linkPort := 6 }
      windows := mapAt lab.windows 255 fun _ => ⟨true, false, 1, 8, 1, .readWrite, ⟨6, 0, 0, .lost⟩, ⟨0, 0, 0, .absent⟩, 0⟩ }
    let w := r.windows[(255 : WindowIx)]
    lab.running ∧ lab.links[(1 : PortIx)].state = .training ∧ lab.links[(1 : PortIx)].trnSent = true ∧ lab.linkJobOn 1 = false
      ∧ (r.links[(6 : PortIx)].state = .training ∧ r.links[(6 : PortIx)].trnSent = true ∧ r.linkJobOn 6 = true)
      ∧ (carriesLegs r.links[(6 : PortIx)].mode = true ∧ w.configured = true ∧ w.mirror.state = .absent ∧ w.primary.port = 6
        ∧ w.primary.state = .lost) := ⟨rfl, by decide +kernel⟩

/-- The premises of IngressGivenUp and PortLegsLost, met by port 0, a SERVER port, and port 6, a MEMORY port. -/
theorem test_witness_FreshTrnFailsLink_losses :
    let s := inFlight .rd .none
    let e := s.ott.entries[(5 : OttIx)]
    let r := inFlight .rd .waiting
    (takesRequests s.links[(0 : PortIx)].mode = true ∧ carriesLegs s.links[(0 : PortIx)].mode = false ∧ e.state = .live
        ∧ e.origin = .ingress 0 0 7 ∧ (∀ x ∈ bothSides, (e.leg x).progress ≠ .waiting)
        ∧ (r.ott.entries[(5 : OttIx)]).origin = .ingress 0 0 7 ∧ ((r.ott.entries[(5 : OttIx)]).leg .mirror).progress = .waiting)
      ∧ (carriesLegs lab.links[(6 : PortIx)].mode = true ∧ (lab.windows[(0 : WindowIx)]).enabled = true
        ∧ ((lab.windows[(0 : WindowIx)]).leg .primary).port = 6 ∧ ((lab.windows[(0 : WindowIx)]).leg .primary).state = .inService
        ∧ ((lab.windows[(0 : WindowIx)]).leg .mirror).port ≠ 6 ∧ lab.copy.window ≠ some 0) := by decide +kernel

theorem test_witness_FreshTrnFailsLink : lab.running ∧ lab.links[(0 : PortIx)].state = .active
    ∧ takesRequests lab.links[(0 : PortIx)].mode = true := ⟨rfl, by decide +kernel⟩

theorem test_witness_RetrainDecidedByPartner :
    let s := labLink 0 fun u => { buffered u with state := .retrain, attempt := some 1 }
    let u := s.links[(0 : PortIx)]
    s.running ∧ u.state = .retrain ∧ ((1 : Seq) - u.oldest).toNat ≤ u.retry.length ∧ ((0 : Seq) - u.oldest).toNat < u.retry.length
      ∧ u.retry.length < ((2 : Seq) - u.oldest).toNat
      ∧ (let a := (labLink 0 buffered).links[(0 : PortIx)]
        a.state = .active ∧ ((0 : Seq) - a.oldest).toNat < a.retry.length ∧ a.replayCount < 3
          ∧ (((254 : Seq) - a.oldest).toNat = 0 ∧ 3 ≤ (labLink 0 fun u => { buffered u with replayCount := 3 }).links[(0 : PortIx)].replayCount)
          ∧ ((1 : Seq) - a.oldest).toNat = a.retry.length ∧ a.retry.length < ((2 : Seq) - a.oldest).toNat) := ⟨rfl, by decide +kernel⟩

theorem test_witness_ArbiterSendsControl :
    let u := activeLink .server
    lab.running ∧ takesOffers u.state = true ∧ ({ u with trnrOwed := some 9 } : LinkUnit).trnrOwed = some 9
      ∧ (State.reset.links[(0 : PortIx)].trnrOwed = none ∧ State.reset.links[(0 : PortIx)].trnOwed = some true
        ∧ takesOffers State.reset.links[(0 : PortIx)].state = true)
      ∧ (u.state = .active ∧ u.trnrOwed = none ∧ u.trnOwed = none ∧ u.lnakOwed = false
        ∧ ({ u with lnakOwed := true } : LinkUnit).lnakOwed = true ∧ 16 ≤ ({ u with ackOwed := 16 } : LinkUnit).ackOwed) :=
  ⟨rfl, by decide +kernel⟩

theorem test_witness_ArbiterSendsCreditAndPayload :
    let s := { lab with stages := mapAt lab.stages 0 fun g => { g with requesters := mapAt g.requesters 3 fun e => { e with owed := 2 } } }
    let b := labLink 6 fun u => { buffered u with replayPos := some 255, txQueue := [.request read3], ackOwed := 15 }
    let u := s.links[(0 : PortIx)]
    let v := b.links[(6 : PortIx)]
    s.running ∧ u.state = .active ∧ u.trnrOwed = none ∧ u.trnOwed = none ∧ u.lnakOwed = false ∧ u.ackOwed < 16
      ∧ (takesRequests u.mode = true ∧ 1 ≤ ((s.stages[(0 : PortIx)]).requesters[(3 : ReqId)]).owed
        ∧ ∀ k : ReqId, k < 3 → ((s.stages[(0 : PortIx)]).requesters[k]).owed = 0)
      ∧ (takesRequests v.mode = false ∧ v.replayPos = some 255 ∧ v.retry[((255 : Seq) - v.oldest).toNat]? = some (.request read3))
      ∧ (v.txQueue = .request read3 :: [] ∧ v.retry.length < 48 ∧ ({ v with replayPos := none } : LinkUnit).replayPos = none)
      ∧ (lab.links[(6 : PortIx)].txQueue = [] ∧ 1 ≤ v.ackOwed) := ⟨rfl, by decide +kernel⟩

theorem test_witness_ReplayTimerExpires :
    let s := { labLink 0 fun u => { buffered u with replayCount := 2 } with time := 16 }
    let r := { labLink 0 fun u => { buffered u with replayCount := 3 } with time := 16 }
    s.running ∧ timerDue s.links[(0 : PortIx)].replayTimer s.time = true ∧ s.links[(0 : PortIx)].replayCount < 3
      ∧ timerDue r.links[(0 : PortIx)].replayTimer r.time = true ∧ 3 ≤ r.links[(0 : PortIx)].replayCount := ⟨rfl, by decide +kernel⟩

theorem test_witness_TrainTimerExpires :
    let s := { labLink 0 fun u => { u with state := .retrain, attempt := some 2, trainTimer := some ⟨0, 200⟩ } with time := 200 }
    let r := { labLink 0 fun u => { u with state := .retrain, attempt := some 3, trainTimer := some ⟨0, 200⟩ } with time := 200 }
    s.running ∧ timerDue s.links[(0 : PortIx)].trainTimer s.time = true
      ∧ (s.links[(1 : PortIx)].state = .training ∧ timerDue s.links[(1 : PortIx)].trainTimer s.time = true)
      ∧ (s.links[(0 : PortIx)].state = .retrain ∧ s.links[(0 : PortIx)].attempt = some 2 ∧ 2 < 3)
      ∧ (r.links[(0 : PortIx)].attempt = some 3 ∧ 3 ≤ 3) := ⟨rfl, by decide +kernel⟩

theorem test_witness_DecayTimerLowersHealth :
    let s := { labLink 0 fun u => { u with health := 257 } with time := 1000 }
    s.running ∧ s.links[(0 : PortIx)].decayTimer.due s.time = true ∧ s.links[(0 : PortIx)].healthState = .good
      ∧ s.settings.weakMark ≤ s.links[(0 : PortIx)].health - 1 := ⟨rfl, by decide +kernel⟩

/-- The small part with one request at the head of requester 0's sub-queue. -/
def queued (q : Request) : State :=
  { lab with stages := mapAt lab.stages 0 fun g => { g with requesters := mapAt g.requesters 0 fun e => { e with queue := [q] } } }

theorem test_witness_DispatchAnswersNoroute :
    let q := { read3 with line := 32768 }
    (queued q).running ∧ takesRequests (queued q).links[(0 : PortIx)].mode = true ∧ takesOffers (queued q).links[(0 : PortIx)].state = true
      ∧ (queued q).nextHead 0 = some (0, q) ∧ (queued q).lookup ((queued q).requesterTenant 0 0) q.body q.line = .noroute :=
  ⟨rfl, by decide +kernel⟩

theorem test_witness_DispatchAnswersNoroute_window :
    let with0 := fun (q : Request) (f : Window → Window) => { queued q with windows := mapAt lab.windows 0 f }
    let denied := with0 write3 fun w => { w with access := .readOnly }
    let lost := with0 read3 fun w => { w with primary := { w.primary with state := .lost }, mirror := { w.mirror with state := .lost } }
    denied.nextHead 0 = some (0, write3) ∧ denied.findWindow (denied.requesterTenant 0 0) write3.line.toNat = some 0
      ∧ write3.body ≠ .rd ∧ (denied.windows[(0 : WindowIx)]).access = .readOnly
      ∧ lost.nextHead 0 = some (0, read3) ∧ lost.findWindow (lost.requesterTenant 0 0) read3.line.toNat = some 0 ∧ read3.body = .rd
      ∧ (lost.windows[(0 : WindowIx)]).primary.state ≠ .inService ∧ (lost.windows[(0 : WindowIx)]).mirror.state ≠ .inService := by
  decide +kernel

theorem test_witness_DispatchAllocatesEntry :
    let s := queued { write3 with line := 32767 }
    s.running ∧ takesRequests s.links[(0 : PortIx)].mode = true ∧ s.nextHead 0 = some (0, { write3 with line := 32767 })
      ∧ s.lookup (s.requesterTenant 0 0) write3.body 32767 = .routed 0 [.primary, .mirror]
      ∧ s.ott.serverFree = 0 :: s.ott.serverFree.tail := ⟨rfl, by decide +kernel⟩

/-- R31, R58: a dispatched head leaves its sub-queue and its credit is owed; each leg takes one send credit and counts in flight. -/
theorem test_dispatch_departs :
    after (.dispatch 0) (queued write3) (fun t => (((t.stages[0]).requesters[0]).queue.length, ((t.stages[0]).requesters[0]).owed,
      (t.links[6].sendCredit)[0], (t.monitors[7]).inFlight, ((t.contrib[1])[7]).inFlight)) = some (0, 1, 7, 1, 1) := by decide +kernel

theorem test_witness_DispatchAllocatesEntry_read :
    (queued read3).nextHead 0 = some (0, read3) ∧ read3.body = .rd
      ∧ (queued read3).lookup ((queued read3).requesterTenant 0 0) read3.body read3.line = .routed 0 [.primary] ∧ write3.body ≠ .rd := by
  decide +kernel

/-- R86: the first read on an ARMED port is its sample from its sent time. -/
theorem test_sample_taken :
    after (.dispatch 0) { queued read3 with time := 9, monitors := mapAt lab.monitors 6 fun m => { m with sample := .armed } }
      (fun t => (((t.ott.entries[(0 : OttIx)]).leg .primary).sample, (t.monitors[6]).sample, (t.monitors[6]).sampleStart))
      = some (true, .outstanding, 9) := by decide +kernel

theorem test_witness_DispatchTakesNoHeldHead :
    let slot : CopySlot := ⟨.writing, 3, true, false, 0, true, none⟩
    let s := { queued write3 with copy := { lab.copy with state := .copying, window := some 0, slots := Vector.replicate 4 slot } }
    s.nextHead 0 = some (0, write3) ∧ s.lookup (s.requesterTenant 0 0) write3.body write3.line = .routed 0 [.primary, .mirror]
      ∧ write3.body ≠ .rd ∧ s.copy.state = .copying ∧ s.copy.window = some 0 ∧ s.copy.slotHolding write3.line.toNat = some 0
      ∧ (s.copy.slots[(0 : SlotIx)]).pinned = true := by decide +kernel

theorem test_witness_ReadSteering :
    let w := lab.windows[(0 : WindowIx)]
    let weak := labLink 6 fun u => { u with healthState := .weak }
    let both := { weak with links := mapAt weak.links 7 fun u => { u with healthState := .weak } }
    let lost := { w with primary := { w.primary with state := .lost } }
    let alone := { w with mirror := { w.mirror with state := .lost } }
    (alone.primary.state = .inService ∧ alone.mirror.state ≠ .inService) ∧ lab.links[w.primary.port].healthState = .good
      ∧ (w.primary.state = .inService ∧ w.mirror.state = .inService ∧ weak.links[w.primary.port].healthState = .weak
        ∧ weak.links[w.mirror.port].healthState = .good)
      ∧ (both.links[w.primary.port].healthState = .weak ∧ both.links[w.mirror.port].healthState = .weak)
      ∧ lost.primary.state ≠ .inService := by decide +kernel

/-- The small part with a record write pending; tenant 0 has window 1 on port 6 when `open0`. -/
def recordPending (open0 : Bool) : State :=
  { lab with
    fabric := [⟨.ringRecord, 5, .wr (Vector.replicate 64 0)⟩]
    windows := mapAt lab.windows 1 fun _ => ⟨open0, open0, 0, 0, 1, .readWrite, ⟨6, 9, 0, .inService⟩, ⟨0, 0, 0, .absent⟩, 0⟩ }

theorem test_witness_FabricRequestDispatched :
    let q : FabricReq := ⟨.ringRecord, 5, .wr (Vector.replicate 64 0)⟩
    (recordPending true).running ∧ ((recordPending true).fabric.find? fun k => !((recordPending true).fabricHolds k).held) = some q
      ∧ (recordPending true).fabricLookup q = .routed 1 [.primary]
      ∧ (recordPending true).ott.fabricFree = 992 :: (recordPending true).ott.fabricFree.tail
      ∧ ((recordPending false).fabric.find? fun k => !((recordPending false).fabricHolds k).held) = some q
      ∧ (recordPending false).fabricLookup q = .noroute := ⟨rfl, by decide +kernel⟩

/-- The small part rebuilding the mirror of window 0, whose last lines are 0 to 3: slot 0 holds line 0, slot 1 line 1, the others are FREE. -/
def rebuilding (state : EngineState) (slot0 slot1 : CopySlot) : State :=
  { lab with
    windows := mapAt lab.windows 0 fun w => { w with mirror := { w.mirror with state := .rebuilding } }
    copy := ⟨state, some 0, .mirror, 0, 32768, 0, 2, 0, .none, #v[slot0, slot1, .freed, .freed]⟩ }

theorem test_witness_FabricRequestDispatched_slot :
    let s := { rebuilding .copying ⟨.reading, 0, false, false, 0, false, none⟩ .freed with fabric := [⟨.copySlot 0, 0, .rd⟩] }
    s.running ∧ (s.fabric.find? fun k => !(s.fabricHolds k).held) = some ⟨.copySlot 0, 0, .rd⟩
      ∧ s.fabricLookup ⟨.copySlot 0, 0, .rd⟩ = .routed 0 [.primary] ∧ s.ott.fabricFree = 992 :: s.ott.fabricFree.tail :=
  ⟨rfl, by decide +kernel⟩

theorem test_witness_FabricRequestDispatched_read :
    let s := { recordPending true with fabric := [⟨.ringRecord, 5, .rd⟩] }
    (s.fabric.find? fun k => !(s.fabricHolds k).held) = some ⟨.ringRecord, 5, .rd⟩
      ∧ s.fabricLookup ⟨.ringRecord, 5, .rd⟩ = .routed 1 [.primary] ∧ s.ott.fabricFree = 992 :: s.ott.fabricFree.tail
      ∧ ∀ k : SlotIx, (FabricJob.ringRecord) ≠ .copySlot k := by decide +kernel

theorem test_witness_ReadSteering_lookup :
    let with0 := fun f : Window → Window => { lab with windows := mapAt lab.windows 0 f }
    let lost := with0 fun w => { w with primary := { w.primary with state := .lost }, mirror := { w.mirror with state := .lost } }
    lab.findWindow 1 32768 = none ∧ lab.findWindow 1 32767 = some 0 ∧ lost.findWindow 1 0 = some 0
      ∧ (write3.body ≠ .rd ∧ ((with0 fun w => { w with access := .readOnly }).windows[(0 : WindowIx)]).access = .readOnly)
      ∧ ¬(read3.body ≠ .rd ∧ (lost.windows[(0 : WindowIx)]).access = .readOnly)
      ∧ (∀ x ∈ bothSides, ((lost.windows[(0 : WindowIx)]).leg x).state ≠ .inService)
      ∧ ¬(write3.body ≠ .rd ∧ (lab.windows[(0 : WindowIx)]).access = .readOnly)
      ∧ ((lab.windows[(0 : WindowIx)]).leg .mirror).state = .inService := by decide +kernel

/-- R57: a write below the frontier, at line 2, goes to the rebuilding mirror too, and one at the frontier only to the survivor. -/
theorem test_write_fan_out :
    let s := rebuilding .copying .freed .freed
    (s.lookup 1 write3.body 1, s.lookup 1 write3.body 2) = (.routed 0 [.primary, .mirror], .routed 0 [.primary]) := by decide +kernel

/-- The part with the entry of `inFlight` ORPHAN at its deadline, and port 6 FAILED and under a sweep at that entry. -/
def orphaned (body : ReqBody) (mirror : LegProgress) : State :=
  let s := inFlight body mirror
  { s with
    time := 2000
    sweep := ⟨some 6, 5, []⟩
    links := mapAt s.links 6 fun u => { u with state := .failed }
    ott := { s.ott with entries := mapAt s.ott.entries 5 fun e => { e with state := .orphan } } }

/-- A command settles a leg in each of the four ways of SettledBy. -/
theorem test_witness_SettledBy :
    let r := inFlight .rd .none
    let w := inFlight write3.body .none
    let tag := forwardTag 5 1 .primary
    r.SettledBy (.rdataReceived 6 0 0 tag .lost none) (tagIndex tag) (tagSide tag) (.response .fault none)
      ∧ w.SettledBy (.wackReceived 6 0 0 tag .good) (tagIndex tag) (tagSide tag) (.response .good none)
      ∧ (orphaned .rd .none).SettledBy (.completionTimeout 5 .primary) 5 .primary .timeout
      ∧ (orphaned .rd .none).SettledBy .sweepVisit 5 .primary .abandoned :=
  ⟨.inl ⟨6, 0, _, .lost, none, rfl, rfl, by decide +kernel⟩, .inr (.inl ⟨6, 0, _, .good, rfl, by decide +kernel⟩),
    .inr (.inr (.inl ⟨rfl, rfl, by decide +kernel⟩)), .inr (.inr (.inr ⟨rfl, rfl, rfl, 6, rfl, by decide +kernel⟩))⟩

theorem test_witness_GoodReadFinishes_orphan :
    (orphaned .rd .none).running ∧ (orphaned .rd .none).SettledBy (.completionTimeout 5 .primary) 5 .primary .timeout
      ∧ ((orphaned .rd .none).ott.entries[(5 : OttIx)]).state = .orphan
      ∧ ((orphaned .rd .none).ott.entries[(5 : OttIx)]).body = .rd :=
  ⟨rfl, .inr (.inr (.inl ⟨rfl, rfl, by decide +kernel⟩)), by decide +kernel⟩

theorem test_witness_GoodWriteFinishes_orphan :
    let s := orphaned write3.body .doneGood
    s.running ∧ s.SettledBy .sweepVisit 5 .primary .abandoned ∧ s.LastSent 5 .primary .abandoned
      ∧ (s.ott.entries[(5 : OttIx)]).state = .orphan ∧ (s.ott.entries[(5 : OttIx)]).body ≠ .rd :=
  ⟨rfl, .inr (.inr (.inr ⟨rfl, rfl, rfl, 6, rfl, by decide +kernel⟩)), .inl (by decide +kernel), by decide +kernel⟩

/-- R87: a sampled read that times out at 2000 µs gives the time since its start as a fresh sample; a sweep gives none. -/
theorem test_sample_captured :
    let s := orphaned .rd .none
    let m := { s with
      monitors := mapAt s.monitors 6 fun m => { m with inFlight := 1, sample := .outstanding, sampleStart := 500 }
      ott := { s.ott with entries := mapAt s.ott.entries 5 fun e => { e with primary := { e.primary with sample := true } } } }
    let seen := fun t : State => ((t.monitors[6]).sample, (t.monitors[6]).lastSample, (t.monitors[6]).fresh, (t.monitors[6]).inFlight)
    after (.completionTimeout 5 .primary) m seen = some (.idle, some 1500, true, 0)
      ∧ after .sweepVisit m seen = some (.idle, none, false, 0) := by decide +kernel

theorem test_witness_GoodReadFinishes :
    let s := inFlight .rd .none
    let tag := forwardTag 5 1 .primary
    s.running ∧ s.links[(6 : PortIx)].state = .active
      ∧ s.matches_ 6 ⟨.rdata, 0, tag, .good, some (Vector.replicate 64 0)⟩ = true ∧ (s.ott.entries[tagIndex tag]).state = .live
      ∧ (s.ott.entries[tagIndex tag]).origin = .ingress 0 0 7 ∧ takesOffers s.links[(0 : PortIx)].state = true
      ∧ (tagIndex tag).1 < 992 ∧ s.links[(0 : PortIx)].mode = .server
      ∧ ((s.ott.entries[tagIndex tag]).leg (otherSide (tagSide tag))).progress ≠ .doneGood := ⟨rfl, by decide +kernel⟩

theorem test_witness_GoodReadFinishes_failed :
    let s := inFlight .rd .none
    let r := { s with windows := mapAt s.windows 0 fun w => { w with mirror := { w.mirror with state := .rebuilding } } }
    let tag := forwardTag 5 1 .primary
    s.running ∧ s.links[(6 : PortIx)].state = .active ∧ (Status.lost) ≠ .good
      ∧ s.matches_ 6 ⟨.rdata, 0, tag, .lost, none⟩ = true ∧ (s.ott.entries[tagIndex tag]).state = .live
      ∧ (s.ott.entries[tagIndex tag]).origin = .ingress 0 0 7 ∧ takesOffers s.links[(0 : PortIx)].state = true
      ∧ ((s.ott.entries[tagIndex tag]).reissued = false ∧ ((s.windows[(0 : WindowIx)]).leg .mirror).state = .inService)
      ∧ ¬((r.ott.entries[tagIndex tag]).reissued = false ∧ ((r.windows[(0 : WindowIx)]).leg .mirror).state = .inService) :=
  ⟨rfl, by decide +kernel⟩

/-- R69, R74: a LOST that a MEMORY port carries is taken as FAULT and finishes the read POISON; a TRUNK port's passes through. -/
theorem test_read_failure :
    let s := inFlight .rd .none
    let lone := { s with windows := mapAt s.windows 0 fun w => { w with mirror := { w.mirror with state := .lost } } }
    let trunk := { lone with links := mapAt lone.links 6 fun u => { u with mode := .trunk } }
    let status := fun s => after (.rdataReceived 6 0 0 (forwardTag 5 1 .primary) .lost none) s fun t =>
      t.links[0].txQueue.map fun m => match m with | .response r => r.status | .request _ => .good
    (status lone, status trunk) = (some [.poison], some [.lost]) := by decide +kernel

theorem test_witness_GoodWriteFinishes :
    let s := inFlight write3.body .doneGood
    let r := inFlight write3.body .sent
    let tag := forwardTag 5 1 .primary
    s.running ∧ s.links[(6 : PortIx)].state = .active ∧ s.matches_ 6 ⟨.wack, 0, tag, .good, none⟩ = true
      ∧ (s.ott.entries[tagIndex tag]).state = .live ∧ (s.ott.entries[tagIndex tag]).origin = .ingress 0 0 7
      ∧ takesOffers s.links[(0 : PortIx)].state = true
      ∧ ((s.ott.entries[tagIndex tag]).leg (otherSide (tagSide tag))).progress ≠ .sent
      ∧ r.matches_ 6 ⟨.wack, 0, tag, .good, none⟩ = true
      ∧ ((r.ott.entries[tagIndex tag]).leg (otherSide (tagSide tag))).progress = .sent := ⟨rfl, by decide +kernel⟩

theorem test_witness_GoodWriteFinishes_failed :
    let s := inFlight write3.body .none
    let r := inFlight write3.body .sent
    let tag := forwardTag 5 1 .primary
    tagIndex tag = 5 ∧ tagSide tag = .primary ∧ s.matches_ 6 ⟨.wack, 0, tag, .denied, none⟩ = true
      ∧ r.matches_ 6 ⟨.wack, 0, tag, .lost, none⟩ = true ∧ takenStatus s.links[(6 : PortIx)].mode .denied = .fault
      ∧ ((s.windows[(0 : WindowIx)]).leg .primary).state = .inService ∧ (s.ott.entries[(5 : OttIx)]).window = 0
      ∧ ((s.ott.entries[(5 : OttIx)]).leg .mirror).progress = .none ∧ ((r.ott.entries[(5 : OttIx)]).leg .mirror).progress = .sent := by
  decide +kernel

theorem test_witness_GoodWriteFinishes_noneWaiting : ∀ j : OttIx, ¬∃ x : Side,
    (((inFlight write3.body .none).ott.entries[j]).leg x).progress = .waiting := by
  have h : ∀ e ∈ (inFlight write3.body .none).ott.entries.toList, e.primary.progress ≠ .waiting ∧ e.mirror.progress ≠ .waiting := by
    decide +kernel
  rintro j ⟨x, hx⟩
  have := h _ (Vector.mem_toList_iff.mpr (Vector.getElem_mem j.2))
  cases x
  · exact this.1 hx
  · exact this.2 hx

theorem test_witness_GoodWriteFinishes_timeout :
    let s := { inFlight write3.body .none with
      time := 2000
      windows := mapAt lab.windows 0 fun w => { w with primary := { w.primary with state := .lost } }
      copy := { lab.copy with state := .copying, window := some 0, rebuilding := .primary } }
    let e := s.ott.entries[(5 : OttIx)]
    e.state = .live ∧ e.origin = .ingress 0 0 7 ∧ e.body ≠ .rd ∧ (e.leg .primary).progress = .sent
      ∧ (e.leg .primary).timeout ≤ (s.time - (e.leg .primary).sentTime).toNat ∧ ((s.windows[e.window]).leg .primary).state = .lost
      ∧ (s.copy.state = .copying ∧ s.copy.window = some e.window ∧ s.copy.rebuilding = .primary) := by decide +kernel

/-- R139: a window that loses one leg keeps the other, and raises LEG_LOST, the third cause, with its number. -/
theorem test_single_leg_loss :
    let t := lab.loseLegs 0 fun x => x == .primary
    (((t.windows[(0 : WindowIx)]).leg .primary).state, ((t.windows[(0 : WindowIx)]).leg .mirror).state,
      (t.causes.entries[(2 : Fin 14)]).pending) = (.lost, .inService, true) := by decide +kernel

theorem test_witness_LateResponseOnlyCounted :
    let r : Response := ⟨.wack, 0, 0x8000, .good, none⟩
    lab.running ∧ lab.links[(6 : PortIx)].state = .active
      ∧ messageOk (.payload lab.links[(6 : PortIx)].expSeq (.response r)) = true ∧ lab.matches_ 6 r = false := ⟨rfl, by decide +kernel⟩

theorem test_witness_ReadLegTimesOut :
    let s := { inFlight .rd .none with time := 2000 }
    let r := { s with windows := mapAt s.windows 0 fun w => { w with mirror := { w.mirror with state := .lost } } }
    let e := s.ott.entries[(5 : OttIx)]
    s.running ∧ e.state = .live ∧ e.origin = .ingress 0 0 7 ∧ e.body = .rd ∧ e.reissued = false ∧ (e.leg .primary).progress = .sent
      ∧ (e.leg .primary).timeout ≤ (s.time - (e.leg .primary).sentTime).toNat
      ∧ ((s.windows[e.window]).leg .mirror).state = .inService ∧ ((r.windows[e.window]).leg .mirror).state ≠ .inService
      ∧ takesOffers r.links[(0 : PortIx)].state = true := ⟨rfl, by decide +kernel⟩

theorem test_witness_ReissueTakesCredit :
    let s := inFlight .rd .waiting
    let r := { s with links := mapAt s.links 7 fun u => { u with sendCredit := Vector.replicate 16 0 } }
    let e := { s.ott.entries[(5 : OttIx)] with reissued := true }
    let s1 := { s with ott := { s.ott with entries := mapAt s.ott.entries 5 fun _ => e } }
    s1.running ∧ (s1.ott.entries[(5 : OttIx)]).waitingSide = some .mirror ∧ takesOffers s1.links[(7 : PortIx)].state = true
      ∧ 1 ≤ s1.links[(7 : PortIx)].sendCredit[s1.carriedId ((s1.windows[(0 : WindowIx)]).leg .mirror)]
      ∧ r.links[(7 : PortIx)].sendCredit[r.carriedId ((r.windows[(0 : WindowIx)]).leg .mirror)] = 0 := ⟨rfl, by decide +kernel⟩

theorem test_witness_SweepVisitSettlesEntry :
    let sweep : Sweep := ⟨some 6, 5, [7]⟩
    let down := fun s : State => { s with sweep := sweep, links := mapAt s.links 6 fun u => { u with state := .failed } }
    let read := down (inFlight .rd .none)
    let lone := down { inFlight .rd .none with windows := mapAt lab.windows 0 fun w => { w with mirror := { w.mirror with state := .lost } } }
    let write := down (inFlight write3.body .sent)
    let last := down (inFlight write3.body .doneGood)
    let both := { write with windows := lab.windows, ott := { write.ott with entries := mapAt write.ott.entries 5 fun e =>
      { e with mirror := { e.mirror with port := 6 } } } }
    let leg := fun (s : State) (x : Side) => s.sweepable 6 ((s.ott.entries[(5 : OttIx)]).leg x)
    read.running ∧ read.sweep.port = some 6 ∧ read.sweep.position.1 + 1 < 1024
      ∧ (leg read .primary = true ∧ leg read .mirror = false ∧ (read.ott.entries[(5 : OttIx)]).body = .rd
        ∧ ((read.windows[(0 : WindowIx)]).leg .mirror).state = .inService)
      ∧ (leg lone .primary = true ∧ leg lone .mirror = false ∧ ((lone.windows[(0 : WindowIx)]).leg .mirror).state ≠ .inService)
      ∧ (leg write .primary = true ∧ leg write .mirror = false ∧ ((write.ott.entries[(5 : OttIx)]).leg .mirror).progress = .sent)
      ∧ (leg last .primary = true ∧ ((last.ott.entries[(5 : OttIx)]).leg .mirror).progress ≠ .sent)
      ∧ (leg both .primary = true ∧ leg both .mirror = true)
      ∧ (∀ x, x ∈ bothSides → lab.sweepable 6 ((lab.ott.entries[(5 : OttIx)]).leg x) = false)
      ∧ ({ sweep with position := 1023 } : Sweep).position.1 = 1023 ∧ sweep.queue = 7 :: [] := ⟨rfl, by decide +kernel⟩

theorem test_witness_ClearEvaluationLowersLevels :
    let s := { lab with time := 100 }
    s.running ∧ (s.monitors[(6 : PortIx)]).reliefTimer.due s.time = true ∧ s.judgedCongested 6 = false := ⟨rfl, by decide +kernel⟩

theorem test_witness_CongestedEvaluationRaisesContributors :
    shares.running ∧ (shares.monitors[(6 : PortIx)]).reliefTimer.due shares.time = true ∧ shares.judgedCongested 6 = true
      ∧ (0 < (shares.monitors[(6 : PortIx)]).inFlight ∧ 0 < ((shares.contrib[(5 : TenantIx)])[(6 : PortIx)]).inFlight
        ∧ shares.settings.share * (shares.monitors[(6 : PortIx)]).inFlight ≤ ((shares.contrib[(5 : TenantIx)])[(6 : PortIx)]).inFlight * 256)
      ∧ (((shares.contrib[(7 : TenantIx)])[(6 : PortIx)]).inFlight * 256 < shares.settings.share * (shares.monitors[(6 : PortIx)]).inFlight
        ∧ ((shares.contrib[(7 : TenantIx)])[(6 : PortIx)]).inFlight < ((shares.contrib[(3 : TenantIx)])[(6 : PortIx)]).inFlight)
      ∧ (shares.monitors[(6 : PortIx)]).portState = .clear := ⟨rfl, by decide +kernel⟩

/-- The small part with tenant 1 at floor `floor`, its pacer as given, and closed widths of 5 µs at level 2 and 0 at level 1. -/
def paced (floor : Nat) (p : Pacer) : State :=
  { lab with
    time := 20
    tenants := mapAt lab.tenants 1 fun r => { r with floor := floor }
    profiles := Vector.replicate 4 ⟨⟨7, 0⟩, ⟨20, 5⟩, ⟨20, 10⟩⟩
    pacers := mapAt lab.pacers 1 fun _ => p }

theorem test_witness_PacerPhases :
    let closed := paced 2 ⟨2, .closed, some ⟨15, 5⟩⟩
    let opened := paced 2 ⟨2, .opened, some ⟨0, 20⟩⟩
    let free := paced 1 ⟨1, .opened, some ⟨0, 20⟩⟩
    let rest := paced 2 ⟨0, .opened, none⟩
    closed.running ∧ (timerDue (closed.pacers[(1 : TenantIx)]).timer closed.time = true ∧ (closed.pacers[(1 : TenantIx)]).phase = .closed)
      ∧ (timerDue (opened.pacers[(1 : TenantIx)]).timer opened.time = true
        ∧ 0 < ((opened.profiles[(opened.tenants[(1 : TenantIx)]).profile]).entry 2).closedUs)
      ∧ (timerDue (free.pacers[(1 : TenantIx)]).timer free.time = true
        ∧ ((free.profiles[(free.tenants[(1 : TenantIx)]).profile]).entry 1).closedUs = 0)
      ∧ (rest.pacers[(1 : TenantIx)]).level < rest.effectiveLevel 1
      ∧ ((paced 1 ⟨0, .opened, none⟩).pacers[(1 : TenantIx)]).level < (paced 1 ⟨0, .opened, none⟩).effectiveLevel 1
      ∧ ((paced 0 ⟨2, .closed, none⟩).effectiveLevel 1 = 0 ∧ 0 < ((paced 0 ⟨2, .closed, none⟩).pacers[(1 : TenantIx)]).level)
      ∧ ((paced 2 ⟨3, .closed, none⟩).pacers[(1 : TenantIx)].level ≠ (paced 2 ⟨3, .closed, none⟩).effectiveLevel 1
        ∧ ((paced 2 ⟨3, .closed, none⟩).tenants[(1 : TenantIx)]).state ≠ .unused)
      ∧ ((paced 2 ⟨3, .opened, none⟩).effectiveLevel 1 = 2 ∧ ((paced 2 ⟨3, .opened, none⟩).pacers[(1 : TenantIx)]).timer = none
        ∧ 0 < (((paced 2 ⟨3, .opened, none⟩).profiles[(0 : Fin 4)]).entry 2).closedUs)
      ∧ ((paced 1 ⟨3, .opened, none⟩).effectiveLevel 1 = 1 ∧ (((paced 1 ⟨3, .opened, none⟩).profiles[(0 : Fin 4)]).entry 1).closedUs = 0)
      ∧ ((paced 2 ⟨3, .closed, some ⟨15, 10⟩⟩).pacers[(1 : TenantIx)]).timer ≠ none
      ∧ (closed.pacers[(1 : TenantIx)]).level = closed.effectiveLevel 1 := ⟨rfl, by decide +kernel⟩

theorem test_witness_ChargeKeepsTotal :
    let r := { Tenant.unused with acc := 2 ^ 95 - 1, adj := 2 ^ 47 - 1 }
    (chargeAtClose r ⟨0, 0, 0, .nearest, true⟩ false).clamped = true
      ∧ (chargeAtClose Tenant.unused ⟨0, 0, 0, .nearest, true⟩ false).carried = true
      ∧ (chargeAtClose Tenant.unused ⟨0, 0, 0, .nearest, true⟩ true).carried = false := by decide +kernel

theorem test_witness_ChargeKeepsTotal_balance :
    let c := fun (balance acc : Int) => (chargeAtClose { Tenant.unused with balance := balance, acc := acc } .reset false).charge
    ((2 : Int) ^ 47 - 2 + c (2 ^ 47 - 2) (2 ^ 24) = 2 ^ 47 - 1) ∧ ((2 : Int) ^ 47 - 1 < 2 ^ 47 - 1 + c (2 ^ 47 - 1) (2 ^ 24))
      ∧ -(2 : Int) ^ 47 + c (-(2 ^ 47)) (-(2 ^ 24)) < -2 ^ 47 := by decide +kernel

/-- Tenant 1 with an accumulator of `acc` and a ceiling of 3 BU, on a card that charges 1 BU for each read. -/
def capping (acc : Int) (capped : Bool) : State :=
  { lab with
    cards := mapAt lab.cards 0 fun c => { c with rr := 2 ^ 16 }
    tenants := mapAt lab.tenants 1 fun r => { r with acc := acc, ceiling := some 3, cap := 2, capped := capped } }

theorem test_witness_MeterAddsOneLine :
    let acc := fun s : State => ((s.meter 1 true false).tenants[(1 : TenantIx)]).acc
    (((capping (2 ^ 25) false).tenants[(1 : TenantIx)]).capped = false ∧ (3 : Int) ≤ acc (capping (2 ^ 25) false) / 2 ^ 24)
      ∧ ¬(3 : Int) ≤ acc (capping (2 ^ 25 - 1) false) / 2 ^ 24
      ∧ acc (capping (2 ^ 95 - 1) true) ≠ 2 ^ 95 - 1 + 2 ^ 24 := by decide +kernel

/-- R111: the addition that brings the accumulator to the ceiling caps the tenant and raises TENANT_CAPPED with it; one 2^-24 BU less
does not. -/
theorem test_ceiling_reached :
    let seen := fun s : State => let t := s.meter 1 true false
      ((t.tenants[(1 : TenantIx)]).capped, (t.tenants[(1 : TenantIx)]).cappedInEpoch, (t.causes.entries[(6 : Fin 14)]).detail,
        (t.pacers[(1 : TenantIx)]).level)
    (seen (capping (2 ^ 25) false), seen (capping (2 ^ 25 - 1) false)) = ((true, true, 1, 2), (false, false, 0, 0)) := by
  decide +kernel

/-- Table 6-4: 2.5 and −2.5 BU round to 3 and −3 in NEAREST. -/
theorem test_nearest_half :
    roundUnits .nearest (5 * 2 ^ 23) = 3 ∧ roundUnits .nearest (-5 * 2 ^ 23) = -3 ∧ roundUnits .up (5 * 2 ^ 23) = 3
      ∧ roundUnits .up (-5 * 2 ^ 23) = -2 ∧ roundUnits .down (-5 * 2 ^ 23) = -3 ∧ roundUnits .trunc (-5 * 2 ^ 23) = -2 := by
  decide +kernel

/-- Section 7.7, step 4: a closer that is WAITING stays WAITING when a record leaves the full hold list. -/
theorem test_waiting_stays :
    let s := { lab with
      closer := { lab.closer with state := .waiting, position := 21 }
      holdList := List.replicate 8 (buildRecord 0 .unused .reset (chargeAtClose .unused .reset false) false 0) }
    ((s.recordReport .good).closer.state, (s.recordReport .good).holdList.length) = (.waiting, 7) := by decide +kernel

/-- R94: a level that falls from 3 to a floor of 2 raises a highest level of 0 to 2. -/
theorem test_fall_raises_highest :
    let s := { lab with
      tenants := mapAt lab.tenants 1 fun r => { r with floor := 2 }
      pacers := mapAt lab.pacers 1 fun _ => ⟨3, .closed, some ⟨0, 9⟩⟩ }
    (((s.repace 1).tenants[(1 : TenantIx)]).highest, ((s.repace 1).pacers[(1 : TenantIx)]).level) = (2, 2) := by decide +kernel

/-- R98: a fall from 3 to 2 lets the CLOSED phase of the old level run out. -/
theorem test_fall_keeps_phase :
    ((paced 2 ⟨3, .closed, some ⟨15, 10⟩⟩).repace 1).pacers[(1 : TenantIx)] = ⟨2, .closed, some ⟨15, 10⟩⟩ := by decide +kernel

/-- The small part with a walk at tenant 1. -/
def walking (kind : WalkKind) (st : TenantState) : State :=
  { lab with
    closer := { lab.closer with state := .walking, kind := kind, position := 1, walkJob := true, timer := some ⟨0, 1000000⟩, period := 1 }
    tenants := mapAt lab.tenants 1 fun r => { r with state := st } }

theorem test_witness_CloseStepOpensNextEpoch :
    let s := walking .full .active
    let r := { s with closer := { s.closer with position := 0 } }
    s.running ∧ s.closer.state ≠ .idle ∧ s.closer.kind = .full ∧ s.holdList.length < 8
      ∧ (s.tenants[s.closer.position]).state = .active
      ∧ (r.tenants[r.closer.position]).state = .active ∧ r.nextActive 1 = some 1 := ⟨rfl, by decide +kernel⟩

theorem test_witness_CloseStepOpensNextEpoch_last :
    let s := { walking .full .active with closer := { (walking .full .active).closer with pendingFlag := true } }
    s.nextActive 2 = none ∧ s.closer.position.1 + 1 = 2 ∧ s.closer.walkJob = true ∧ s.closer.pendingFlag = true
      ∧ s.FabricTenantActive ∧ (walking .full .active).closer.pendingFlag = false :=
  ⟨by decide +kernel, rfl, rfl, rfl, by unfold State.FabricTenantActive; decide +kernel, rfl⟩

/-- R123, R124: the close of the last ACTIVE tenant ends the job's walk of one record, and the pended walk starts at tenant 0. -/
theorem test_walk_ends :
    after .close { walking .full .active with closer := { (walking .full .active).closer with pendingFlag := true } }
      (fun t => (t.jobs.close, t.closer.state, t.closer.position, t.closer.pendingFlag)) = some (⟨.done, 1⟩, .walking, 0, false) := by
  decide +kernel

theorem test_witness_FinalCloseRetiresTenant :
    let s := walking .retire .retiring
    s.running ∧ s.closer.state ≠ .idle ∧ s.closer.kind = .retire ∧ s.holdList.length < 8
      ∧ (s.tenants[s.closer.position]).state = .retiring ∧ s.closer.walkJob = true ∧ s.closer.pendingFlag = false :=
  ⟨rfl, by decide +kernel⟩

/-- The charge of a close is clamped, and one is not, in the states that the close statements' BALANCE_SATURATED clauses name. -/
theorem test_witness_close_saturates :
    let r := { Tenant.unused with state := .active, balance := 2 ^ 47 - 1, acc := 2 ^ 24 }
    (chargeAtClose r .reset false).balanceCut = true ∧ (chargeAtClose r .reset true).balanceCut = true
      ∧ ((chargeAtClose .unused .reset false).clamped = false ∧ (chargeAtClose .unused .reset false).balanceCut = false) := by
  decide +kernel

theorem test_witness_EpochTimerExpires :
    let s := { walking .full .active with time := 1000000 }
    let i := { s with closer := { s.closer with state := .idle } }
    let p := { s with closer := { s.closer with pendingFlag := true, lateCount := 65535 } }
    s.running ∧ s.FabricTenantActive ∧ timerDue s.closer.timer s.time = true ∧ i.closer.state = .idle
      ∧ (s.closer.state ≠ .idle ∧ s.closer.pendingFlag = false) ∧ (p.closer.state ≠ .idle ∧ p.closer.pendingFlag = true) :=
  ⟨rfl, by unfold State.FabricTenantActive; decide +kernel⟩

/-- The small part with one billing record held and a ring of 16 slots. -/
def ringed : State :=
  { lab with
    time := 1000
    holdList := [buildRecord 1 .unused .reset (chargeAtClose .unused .reset false) false 7]
    ring := { lab.ring with configured := true, slots := 16, base := 64, producerLoc := 4096, consumerLoc := 4100, prod := 15 } }

theorem test_witness_RingWriterIssues :
    let r := { ringed with ring := { ringed.ring with writer := .stalled, stalled := some .record, retryTimer := some ⟨0, 1000⟩ } }
    let i := { r with ring := { r.ring with stalled := some .index }, holdList := [] }
    ringed.running ∧ ringed.holdList = [buildRecord 1 .unused .reset (chargeAtClose .unused .reset false) false 7]
      ∧ (ringed.ring.configured = true ∧ ringed.ring.writer = .idle
        ∧ BitVec.ofNat 32 ringed.ring.slots - (ringed.ring.prod - ringed.ring.cons) ≠ 0)
      ∧ (timerDue r.ring.retryTimer r.time = true ∧ r.ring.stalled = some .record)
      ∧ (timerDue i.ring.retryTimer i.time = true ∧ i.ring.stalled = some .index) := ⟨rfl, rfl, by decide +kernel⟩

/-- The ring's part with entry 992 the write of `job`, its primary leg SENT on port 6, at its deadline, and its mirror leg as given. -/
def reporting (job : FabricJob) (body : ReqBody) (mirror : LegProgress) : State :=
  let s := inFlight body .none
  { ringed with
    time := 2000
    ott := { s.ott with entries := mapAt s.ott.entries 992 fun e => { e with
      state := .live, gen := 1, origin := .fabric job, tenant := 0, window := 1, body := body
      primary := { OttLeg.none with progress := .sent, port := 6, timeout := 2000 }
      mirror := { OttLeg.none with progress := mirror, port := 7, timeout := 2000 } } } }

theorem test_witness_RingWriterIssues_report :
    let s := reporting .ringRecord write3.body .none
    let tag := forwardTag 992 1 .primary
    let i := reporting .ringIndex write3.body .doneGood
    let m := reporting .ringRecord write3.body .sent
    let other := fun s : State => ((s.ott.entries[(992 : OttIx)]).leg .mirror).progress
    s.running ∧ s.SettledBy (.wackReceived 6 0 0 tag .good) (tagIndex tag) (tagSide tag) (.response .good none)
      ∧ i.SettledBy (.completionTimeout 992 .primary) 992 .primary .timeout ∧ m.SettledBy (.completionTimeout 992 .primary) 992 .primary .timeout
      ∧ ((tagIndex tag, tagSide tag) = (992, .primary) ∧ (s.ott.entries[(992 : OttIx)]).state = .live
        ∧ (s.ott.entries[(992 : OttIx)]).body ≠ .rd ∧ (s.ott.entries[(992 : OttIx)]).origin = .fabric .ringRecord
        ∧ (i.ott.entries[(992 : OttIx)]).origin = .fabric .ringIndex ∧ (other s, other i, other m) = (.none, .doneGood, .sent)) :=
  ⟨rfl, .inr (.inl ⟨6, 0, _, .good, rfl, by decide +kernel⟩), .inr (.inr (.inl ⟨rfl, rfl, by decide +kernel⟩)),
    .inr (.inr (.inl ⟨rfl, rfl, by decide +kernel⟩)), by decide +kernel⟩

/-- R81, R130 to R132: the GOOD WACK of a record write raises P and issues the index write, that of an index write makes the writer IDLE, and
a record write that a sweep abandons stalls the writer. -/
theorem test_ring_reports :
    let good := fun job => after (.wackReceived 6 0 0 (forwardTag 992 1 .primary) .good) (reporting job write3.body .none)
      fun t => (t.ring.writer, t.ring.prod, t.holdList.length, t.fabric.length)
    good .ringRecord = some (.writingIndex, 16, 0, 1) ∧ good .ringIndex = some (.idle, 15, 1, 0)
      ∧ after .sweepVisit { reporting .ringRecord write3.body .none with
          sweep := ⟨some 6, 992, []⟩, links := mapAt lab.links 6 fun u => { u with state := .failed } }
        (fun t => (t.ring.stalled, t.holdList.length)) = some (some .record, 1) := by decide +kernel

theorem test_witness_ConsumerValueTested :
    ((ringed.ring.prod - 15).toNat ≤ ringed.ring.slots ∧ ((15 : RingIx) - ringed.ring.cons).toNat ≤ (ringed.ring.prod - ringed.ring.cons).toNat)
      ∧ ¬((ringed.ring.prod - 16).toNat ≤ ringed.ring.slots
        ∧ ((16 : RingIx) - ringed.ring.cons).toNat ≤ (ringed.ring.prod - ringed.ring.cons).toNat) := by decide +kernel

/-- The ring's part with tenant 0's window 1 on ports 6 and 7 over the ring; entry 5's primary leg is a write that the watch recorded. -/
def watching : State :=
  { ringed with
    windows := mapAt lab.windows 1 fun _ => ⟨true, true, 0, 0, 1, .readWrite, ⟨6, 9, 0, .inService⟩, ⟨7, 9, 0, .inService⟩, 0⟩
    ott := (inFlight write3.body .none).ott
    ring := { ringed.ring with watch := [⟨5, 1, .primary, 15⟩, ⟨5, 1, .mirror, 16⟩] } }

theorem test_witness_ConsumerValueTested_settled :
    let tag := forwardTag 5 1 .primary
    watching.running ∧ watching.links[(6 : PortIx)].state = .active ∧ watching.matches_ 6 ⟨.wack, 0, tag, .good, none⟩ = true
      ∧ watching.matches_ 6 ⟨.wack, 0, tag, .lost, none⟩ = true
      ∧ (watching.ring.watch.filter fun e => e.entry == tagIndex tag && e.gen == 1 && e.side == tagSide tag) = [⟨5, 1, .primary, 15⟩]
      ∧ (SettleWay.timeout.progress ≠ .doneGood ∧ SettleWay.abandoned.progress ≠ .doneGood) := ⟨rfl, by decide +kernel⟩

/-- The consumer's write of its index, in line 64 at the bytes 4 to 7, by requester 0 of tenant 0. -/
def consumerWrite : State :=
  { watching with stages := mapAt lab.stages 0 fun g =>
      { g with requesters := mapAt g.requesters 0 fun _ => ⟨true, 0, 4, 4, 0, [{ write3 with line := 64 }]⟩ } }

theorem test_witness_ConsumerValueTested_recorded :
    let q := { write3 with line := 64 }
    let f := { watching with fabric := [⟨.ringIndex, 64, q.body⟩] }
    consumerWrite.running ∧ takesRequests consumerWrite.links[(0 : PortIx)].mode = true ∧ consumerWrite.nextHead 0 = some (0, q)
      ∧ consumerWrite.lookup (consumerWrite.requesterTenant 0 0) q.body q.line = .routed 1 [.primary, .mirror]
      ∧ consumerWrite.ott.serverFree = 0 :: consumerWrite.ott.serverFree.tail ∧ consumerWrite.ring.consumerLoc.toNat % 4 = 0
      ∧ (f.fabric.find? fun k => !(f.fabricHolds k).held) = some ⟨.ringIndex, 64, q.body⟩
      ∧ f.fabricLookup ⟨.ringIndex, 64, q.body⟩ = .routed 1 [.primary, .mirror]
      ∧ f.ott.fabricFree = 992 :: f.ott.fabricFree.tail := ⟨rfl, by decide +kernel⟩

/-- R133: both legs of the mirrored write are recorded with the value its bytes 4 to 7 hold. -/
theorem test_watch_records :
    after (.dispatch 0) { consumerWrite with ring := { consumerWrite.ring with watch := [] } } (fun t => t.ring.watch)
      = some [⟨0, 1, .primary, 0x01010101⟩, ⟨0, 1, .mirror, 0x01010101⟩] := by decide +kernel

/-- R133, R134: the GOOD leg gives its value and leaves the list; the other leg stays recorded. -/
theorem test_watch_takes :
    after (.wackReceived 6 0 0 (forwardTag 5 1 .primary) .good) watching (fun t => (t.ring.cons, t.ring.watch))
      = some (15, [⟨5, 1, .mirror, 16⟩]) := by decide +kernel

theorem test_witness_ManagementFrames :
    let s := { lab with mgmt := { lab.mgmt with inHand := some ⟨[99, 0], false⟩ } }
    lab.running ∧ lab.mgmt.inHand = none ∧ s.mgmt.inHand = some ⟨[99, 0], false⟩ ∧ s.inHandIs (.malformedCommand 99) = true :=
  ⟨rfl, by decide +kernel⟩

theorem test_witness_SetPortModeRule :
    let s := { lab with jobs := { lab.jobs with link := ⟨.active, 0⟩, linkPort := 15 } }
    lab.mayTake (.setPortMode 16 0) ∧ lab.mayTake (.setPortMode 15 5) ∧ s.mayTake (.setPortMode 15 4)
      ∧ (s.jobs.link.state = .active ∧ s.jobs.linkPort = 15) ∧ ¬(lab.jobs.link.state = .active ∧ lab.jobs.linkPort = 15)
      ∧ .listen = lab.links[(15 : PortIx)].mode ∧ .server ≠ lab.links[(15 : PortIx)].mode
      ∧ (lab.mayTake (.setPortMode 0 0) ∧ takesRequests lab.links[(0 : PortIx)].mode = true ∧ .off ≠ lab.links[(0 : PortIx)].mode
        ∧ ((inFlight .rd .none).ott.entries[(5 : OttIx)]).state = .live
        ∧ ((inFlight .rd .none).ott.entries[(5 : OttIx)]).origin = .ingress 0 0 7
        ∧ (∀ x, x ∈ bothSides → (((inFlight .rd .none).ott.entries[(5 : OttIx)]).leg x).progress ≠ .waiting)
        ∧ (((inFlight .rd .waiting).ott.entries[(5 : OttIx)]).leg .mirror).progress = .waiting)
      ∧ (carriesLegs lab.links[(6 : PortIx)].mode = true ∧ (lab.windows[(0 : WindowIx)]).configured = true
        ∧ ((lab.windows[(0 : WindowIx)]).leg .primary).port = 6 ∧ ((lab.windows[(0 : WindowIx)]).leg .primary).state = .inService) :=
  ⟨⟨rfl, rfl⟩, ⟨rfl, rfl⟩, ⟨rfl, rfl⟩, by decide +kernel, by decide +kernel, by decide +kernel, by decide +kernel,
    ⟨⟨rfl, rfl⟩, by decide +kernel⟩, by decide +kernel⟩

/-- The small part with the link of port 0 FAILED while its requester 0, of grant 4, still absorbs a fall from 8. -/
def halfAbsorbed : State :=
  { labLink 0 fun u => { u with state := .failed } with
    stages := mapAt lab.stages 0 fun g => { g with requesters := mapAt g.requesters 0 fun _ => ⟨true, 1, 4, 8, 0, []⟩ } }

/-- On the ACTIVE link the target 4 rises to 64, falls to 3 or stays; on the FAILED one it stays or rises to 5. -/
theorem test_witness_SetRequesterWritesEntry :
    let e := lab.stages[(0 : PortIx)].requesters[(0 : ReqId)]
    let h := halfAbsorbed.stages[(0 : PortIx)].requesters[(0 : ReqId)]
    lab.mayTake (.setRequester 0 0 (flagCode true) 1 64) ∧ lab.mayTake (.setRequester 0 0 (flagCode true) 1 3)
      ∧ halfAbsorbed.mayTake (.setRequester 0 0 (flagCode true) 1 4) ∧ halfAbsorbed.mayTake (.setRequester 0 0 (flagCode true) 1 5)
      ∧ (1 : TenantIx) ≠ 0 ∧ 64 + lab.othersGrants 0 0 ≤ 64 ∧ 5 + halfAbsorbed.othersGrants 0 0 ≤ 64
      ∧ lab.requesterBlocked 0 0 true 1 = false ∧ halfAbsorbed.requesterBlocked 0 0 true 1 = false
      ∧ takesRequests lab.links[(0 : PortIx)].mode = true ∧ lab.links[(0 : PortIx)].state = .active
      ∧ halfAbsorbed.links[(0 : PortIx)].state = .failed ∧ e.enabled = true ∧ e.grant = 4 ∧ e.inForce < 64 ∧ 3 ≤ e.inForce
      ∧ h.enabled = true ∧ h.grant = 4 ∧ h.inForce = 8 :=
  ⟨⟨rfl, rfl⟩, ⟨rfl, rfl⟩, ⟨rfl, rfl⟩, ⟨rfl, rfl⟩, by decide +kernel⟩

/-- R29: on a FAILED link, a grant written again leaves the credit in force of a fall still being absorbed; a grant of 5 sets it. -/
theorem test_same_target_kept :
    let inForce := fun grant => after (.setRequester 0 0 1 1 grant) halfAbsorbed fun t => ((t.stages[0]).requesters[0]).inForce
    (inForce 4, inForce 5) = (some 8, some 5) := by decide +kernel

theorem test_witness_TenantCommandsWriteRecord :
    lab.mayTake (.setTenant 1 15 3 1 (2 ^ 47 - 1) 3 3) ∧ lab.mayTake (.setTenant 1 15 3 0 (2 ^ 47) 3 3) ∧ lab.mayTake (.adjustTenant 1 (-2 ^ 31)) ∧ lab.mayTake (.clearSticky 1)
      ∧ (lab.tenants[(1 : TenantIx)]).state ≠ .retiring ∧ (lab.tenants[(1 : TenantIx)]).state ≠ .unused :=
  ⟨⟨rfl, rfl⟩, ⟨rfl, rfl⟩, ⟨rfl, rfl⟩, ⟨rfl, rfl⟩, by decide +kernel⟩

theorem test_witness_CardAndProfileWritten :
    lab.mayTake (.setRateCard 15 (2 ^ 32 - 1) 0 255 (roundingCode .trunc) (flagCode true)) ∧ lab.mayTake (.setProfile 3 3 65535 0)
      ∧ lab.mayTake (.setProfile 3 4 0 0) := ⟨⟨rfl, rfl⟩, ⟨rfl, rfl⟩, ⟨rfl, rfl⟩⟩

theorem test_witness_WindowWritten :
    lab.mayTake (.setWindow 9 1 1 1 (accessCode .readWrite) 6 0 0 1 7 0 0)
      ∧ lab.mayTake (.setWindow 9 1 1 1 (accessCode .readWrite) 6 0 0 0 99 (2 ^ 32) 99) ∧ lab.mayTake (.setWindowClear 9)
      ∧ (lab.windows[(9 : WindowIx)]).enabled = false ∧ (lab.windows[(9 : WindowIx)]).outstanding = 0
      ∧ (lab.tenants[(1 : TenantIx)]).state = .active
      ∧ (¬∃ v : WindowIx, v ≠ 9 ∧ (lab.windows[v]).configured = true ∧ (lab.windows[v]).tenant = 1
        ∧ 1 < (lab.windows[v]).base + (lab.windows[v]).length ∧ (lab.windows[v]).base < 1 + 1)
      ∧ ∃ v : WindowIx, v ≠ 9 ∧ (lab.windows[v]).configured = true ∧ (lab.windows[v]).tenant = 1
        ∧ 0 < (lab.windows[v]).base + (lab.windows[v]).length ∧ (lab.windows[v]).base < 0 + 1 :=
  ⟨⟨rfl, rfl⟩, ⟨rfl, rfl⟩, ⟨rfl, rfl⟩, by decide +kernel⟩

theorem test_witness_WindowEnabledAndDisabled :
    let s := { lab with windows := mapAt lab.windows 0 fun w => { w with enabled := false } }
    let c := { lab with copy := { lab.copy with state := .draining, window := some 0 } }
    let w := s.windows[(0 : WindowIx)]
    s.mayTake (.enableWindow 0) ∧ lab.mayTake (.disableWindow 0) ∧ c.mayTake (.disableWindow 0) ∧ w.configured = true
      ∧ (s.tenants[w.tenant]).state = .active ∧ w.primary.state = .inService
      ∧ (carriesLegs s.links[w.primary.port].mode = true ∧ s.links[w.primary.port].state = .active)
      ∧ (carriesLegs s.links[w.mirror.port].mode = true ∧ s.links[w.mirror.port].state = .active)
      ∧ (∀ v : WindowIx, v ≠ 0 → (s.windows[v]).enabled = false) ∧ lab.copy.state = .idle
      ∧ (c.copy.state ≠ .idle ∧ c.copy.window = some 0) := ⟨⟨rfl, rfl⟩, ⟨rfl, rfl⟩, ⟨rfl, rfl⟩, by decide +kernel⟩

theorem test_witness_TimingMarksAndEpochWritten :
    lab.mayTake (.setTiming 255 10000 65535 10000 16 992) ∧ lab.mayTake (.setMarks 1023 1023 256 65535 256)
      ∧ lab.mayTake (.setEpoch 65535) := ⟨⟨rfl, rfl⟩, ⟨rfl, rfl⟩, ⟨rfl, rfl⟩⟩

theorem test_witness_BillingRingConfigured :
    lab.mayTake (.setBillingRing 0 (2 ^ 16) (2 ^ 52 - 4) 4) ∧ ringed.mayTake (.setBillingRing 0 (2 ^ 16) (2 ^ 52 - 4) 4)
      ∧ lab.ring.configured = false ∧ (ringed.ring.configured = true ∧ ringed.holdList ≠ []) :=
  ⟨⟨rfl, rfl⟩, ⟨rfl, rfl⟩, by decide +kernel⟩

theorem test_witness_CloseJobsStart :
    let s := { lab with tenants := mapAt lab.tenants 63 fun r => { r with state := .active } }
    lab.mayTake .closeEpoch ∧ lab.closer.state = .idle ∧ lab.FabricTenantActive ∧ (walking .full .active).closer.state ≠ .idle
      ∧ s.mayTake (.removeTenant 63) ∧ (63 : TenantIx) ≠ 0 ∧ (s.tenants[(63 : TenantIx)]).state = .active
      ∧ (∀ w : WindowIx, (s.windows[w]).configured = true → (s.windows[w]).tenant ≠ 63)
      ∧ (∀ (p : PortIx) (r : ReqId), ((s.stages[p]).requesters[r]).enabled = true → ((s.stages[p]).requesters[r]).tenant ≠ 63)
      ∧ ∀ p : PortIx, ((s.contrib[(63 : TenantIx)])[p]).inFlight = 0 :=
  ⟨⟨rfl, rfl⟩, rfl, by unfold State.FabricTenantActive; decide +kernel, by decide +kernel, ⟨rfl, rfl⟩, by decide +kernel⟩

theorem test_witness_LinkResetCommands :
    let s := { lab with time := 600, jobs := { lab.jobs with link := ⟨.active, 0⟩, linkPort := 6, deadline := some ⟨0, 600⟩ } }
    lab.mayTake (.linkReset 6) ∧ lab.mayTake (.restoreLink 6) ∧ lab.mayTake (.linkReset 0) ∧ lab.linkJobOn 6 = false ∧ lab.jobs.link.state ≠ .active
      ∧ lab.links[(6 : PortIx)].mode ≠ .off ∧ carriesLegs lab.links[(6 : PortIx)].mode = true
      ∧ (s.jobs.link.state = .active ∧ s.jobs.linkPort = 6 ∧ timerDue s.jobs.deadline s.time = true) :=
  ⟨⟨rfl, rfl⟩, ⟨rfl, rfl⟩, ⟨rfl, rfl⟩, by decide +kernel⟩

theorem test_witness_RebuildStartsAndAborts :
    let s := { lab with windows := mapAt lab.windows 0 fun w => { w with mirror := { w.mirror with state := .lost } } }
    let c := { lab with copy := { lab.copy with state := .copying, window := some 0 } }
    let w := s.windows[(0 : WindowIx)]
    s.mayTake (.startRebuild 0) ∧ c.mayTake .abortRebuild ∧ lab.mayTake .abortRebuild ∧ s.jobs.rebuild.state ≠ .active
      ∧ w.enabled = true ∧ (w.leg .mirror).state = .lost ∧ (w.leg (otherSide .mirror)).state = .inService
      ∧ carriesLegs s.links[(w.leg .mirror).port].mode = true ∧ s.links[(w.leg .mirror).port].state = .active
      ∧ s.awaitsSweep (w.leg .mirror).port = false ∧ 1 ≤ w.length ∧ (c.copy.state = .copying ∧ c.copy.window = some 0)
      ∧ lab.copy.state = .idle := ⟨⟨rfl, rfl⟩, ⟨rfl, rfl⟩, ⟨rfl, rfl⟩, by decide +kernel⟩

theorem test_witness_RebuildStartsAndAborts_reports :
    let reading : CopySlot := ⟨.reading, 0, true, false, 0, false, none⟩
    let writing : CopySlot := ⟨.writing, 1, false, true, 3, false, some (Vector.replicate 64 1)⟩
    let s := rebuilding .copying reading writing
    let r := rebuilding .copying { reading with redo := true } { writing with sent := true }
    let d := rebuilding .draining reading .freed
    let p := rebuilding .copying { reading with sent := false } writing
    d.mayTake .abortRebuild ∧ (s.copy.state = .copying ∧ s.copy.window = some 0 ∧ d.copy.state = .draining)
      ∧ ((s.copy.slots[(0 : SlotIx)]).state = .reading ∧ (s.copy.slots[(0 : SlotIx)]).redo = false
        ∧ (r.copy.slots[(0 : SlotIx)]).redo = true ∧ (s.copy.slots[(1 : SlotIx)]).state = .writing)
      ∧ (∀ k : SlotIx, ((d.copyReport 0 .lost none).copy.slots[k]).state = .free)
      ∧ ((s.copyReport 0 .lost none).copy.state = .idle ∧ (r.copyReport 0 .lost none).copy.state = .draining)
      ∧ (s.copy.slotHolding 0 = some 0 ∧ s.copy.slotHolding 1 = some 1 ∧ s.copy.slotHolding 32767 = none)
      ∧ ((s.copy.slots[(0 : SlotIx)]).sent = true ∧ (p.copy.slots[(0 : SlotIx)]).sent = false
        ∧ (s.copy.slots[(1 : SlotIx)]).sent = false ∧ (r.copy.slots[(1 : SlotIx)]).sent = true) :=
  ⟨⟨rfl, rfl⟩, by decide +kernel⟩

/-- R152, R150: a copy write of line 0 moves the cursor to line 1, and the free slots 0, 2 and 3 take the lines 2, 3 and 4. -/
theorem test_copy_write_moves :
    let s := rebuilding .copying ⟨.writing, 0, true, false, 0, false, none⟩ ⟨.reading, 1, true, false, 0, false, none⟩
    let t := s.copyReport 0 .good none
    (t.copy.cursor, t.copy.frontier, t.copy.slots.toList.map (·.line), t.fabric.length) = (1, 5, [2, 1, 3, 4], 3) := by decide +kernel

/-- R153: the copy write of the last line held ends the rebuild with the redo total. -/
theorem test_rebuild_completes :
    let r := rebuilding .copying ⟨.writing, 32767, true, false, 0, false, none⟩ .freed
    let t := ({ r with copy := { r.copy with cursor := 32767, frontier := 32768, redoTotal := 5 } } : State).copyReport 0 .good none
    (t.copy.state, t.jobs.rebuild, ((t.windows[(0 : WindowIx)]).leg .mirror).state) = (.idle, ⟨.done, 5⟩, .inService) := by
  decide +kernel

/-- Window 0 under rebuild with entry 992 the copy request of slot 0: a read on the survivor, or a write on the mirror's port. -/
def copyRequest (state : EngineState) (body : ReqBody) : State :=
  let s := inFlight body .none
  let slot : CopySlot := ⟨if isRead body then .reading else .writing, 0, true, false, 0, false, none⟩
  let sent : OttLeg := { OttLeg.none with progress := .sent, port := if isRead body then 6 else 7, timeout := 2000 }
  { rebuilding state slot .freed with
    time := 2000
    ott := { s.ott with entries := mapAt s.ott.entries 992 fun e => { e with
      state := .live, gen := 1, origin := .fabric (.copySlot 0), tenant := 0, window := 0, body := body
      primary := if isRead body then sent else .none
      mirror := if isRead body then .none else sent } } }

theorem test_witness_RebuildStartsAndAborts_entry :
    let tag := forwardTag 992 1 .primary
    let back := forwardTag 992 1 .mirror
    let r := copyRequest .copying .rd
    let w := copyRequest .copying write3.body
    let d := copyRequest .draining write3.body
    let data : LineData := Vector.replicate 64 7
    let reissued := { r with windows := lab.windows }
    let e := fun s : State => s.ott.entries[(992 : OttIx)]
    let swept := { w with sweep := ⟨some 7, 992, []⟩, links := mapAt w.links 7 fun u => { u with state := .failed } }
    (r.running ∧ (e r).origin = .fabric (.copySlot 0) ∧ (e r).state = .live ∧ (e r).body = .rd ∧ (e w).body ≠ .rd
        ∧ (tagIndex tag, tagSide tag, tagSide back) = (992, .primary, .mirror))
      ∧ r.SettledBy (.rdataReceived 6 0 0 tag .good (some data)) (tagIndex tag) (tagSide tag) (.response .good (some data))
      ∧ r.SettledBy (.completionTimeout 992 .primary) 992 .primary .timeout
      ∧ reissued.SettledBy (.completionTimeout 992 .primary) 992 .primary .timeout
      ∧ w.SettledBy (.wackReceived 7 0 0 back .good) (tagIndex back) (tagSide back) (.response .good none)
      ∧ swept.SettledBy .sweepVisit 992 .mirror .abandoned
      ∧ w.SettledBy (.completionTimeout 992 .mirror) 992 .mirror .timeout ∧ d.SettledBy (.completionTimeout 992 .mirror) 992 .mirror .timeout
      ∧ ((reissued.windows[(0 : WindowIx)]).leg .mirror).state = .inService ∧ ((r.windows[(0 : WindowIx)]).leg .mirror).state ≠ .inService
      ∧ ((e w).leg .primary).progress = .none ∧ (w.copy.state, w.copy.window, w.copy.rebuilding) = (.copying, some (e w).window, .mirror)
      ∧ ((w.windows[(0 : WindowIx)]).leg .mirror).state = .rebuilding ∧ d.copy.state = .draining :=
  ⟨⟨rfl, by decide +kernel⟩, .inl ⟨6, 0, _, .good, some (Vector.replicate 64 7), rfl, rfl, by decide +kernel⟩,
    .inr (.inr (.inl ⟨rfl, rfl, by decide +kernel⟩)), .inr (.inr (.inl ⟨rfl, rfl, by decide +kernel⟩)),
    .inr (.inl ⟨7, 0, _, .good, rfl, by decide +kernel⟩), .inr (.inr (.inr ⟨rfl, rfl, rfl, 7, rfl, by decide +kernel⟩)),
    .inr (.inr (.inl ⟨rfl, rfl, by decide +kernel⟩)), .inr (.inr (.inl ⟨rfl, rfl, by decide +kernel⟩)), by decide +kernel⟩

/-- R81, R157: a copy write that a sweep abandons fails the rebuild, and with no other slot held the engine is IDLE. -/
theorem test_copy_write_abandoned :
    let w := copyRequest .copying write3.body
    after .sweepVisit { w with sweep := ⟨some 7, 992, []⟩, links := mapAt w.links 7 fun u => { u with state := .failed } }
      (fun t => (t.copy.state, t.copy.reason, t.jobs.rebuild.state, ((t.windows[(0 : WindowIx)]).leg .mirror).state))
      = some (.idle, .rebuildLegLost, .failed, .lost) := by decide +kernel

theorem test_witness_ReadingCommandsAnswer : lab.mayTake (.readPort 15) ∧ lab.mayTake (.readRequester 15 15) ∧ lab.mayTake (.readWindow 255)
    ∧ lab.mayTake (.readCongestion 15 63) ∧ lab.mayTake (.readJob 2) := ⟨⟨rfl, rfl⟩, ⟨rfl, rfl⟩, ⟨rfl, rfl⟩, ⟨rfl, rfl⟩, ⟨rfl, rfl⟩⟩

/-- The small part with one cause pending. -/
def alerting (c : Fin 14) (depth : Nat) : State :=
  { lab with causes := ⟨mapAt lab.causes.entries c fun _ => ⟨true, 3, true⟩, depth⟩ }

theorem test_witness_ReadCauseTakesLowest :
    (alerting 13 0).mayTake .readCause ∧ ((alerting 13 0).causes.entries[(13 : Fin 14)]).pending = true
      ∧ (∀ k : Fin 14, k < 13 → ((alerting 13 0).causes.entries[k]).pending = false) ∧ lab.mayTake .readCause
      ∧ ∀ k : Fin 14, (lab.causes.entries[k]).pending = false := ⟨⟨rfl, rfl⟩, by decide +kernel, by decide +kernel, ⟨rfl, rfl⟩, by decide +kernel⟩

/-- The same part with the frame of a command in hand. -/
def alertingHolding (i : Instr) (c : Fin 14) (depth : Nat) : State :=
  { alerting c depth with mgmt := { lab.mgmt with inHand := encodeFrame i } }

/-- The command in hand may be taken, for an enable flag at both bounds of the causes and one beyond, and for the hold depth. -/
theorem test_witness_AnsweredWith_inHand : ∀ i : Instr,
    i = .setCauseEnable 1 ∨ i = .clearCauseEnable 14 ∨ i = .setCauseEnable 15 ∨ i = .holdAlert ∨ i = .releaseAlert →
      (alertingHolding i 13 15).mayTake i ∧ (alertingHolding i 13 15).mgmt.inHand ≠ none := by
  rintro i (rfl | rfl | rfl | rfl | rfl) <;> exact ⟨⟨rfl, by decide +kernel⟩, by decide +kernel⟩

theorem test_witness_CauseEnableWritten :
    (alerting 13 0).mayTake (.setCauseEnable 14) ∧ lab.mayTake (.clearCauseEnable 15)
      ∧ ((alerting 13 0).causes.entries[(13 : Fin 14)]).enabled = true ∧ ((alerting 13 0).causes.entries[(13 : Fin 14)]).pending = true
      ∧ (alerting 13 0).causes.holdDepth = 0 := ⟨⟨rfl, rfl⟩, ⟨rfl, rfl⟩, by decide +kernel⟩

theorem test_witness_AlertHeldAndReleased :
    (alerting 13 14).mayTake .holdAlert ∧ (alerting 13 14).causes.holdDepth < 15 ∧ (alerting 13 15).mayTake .holdAlert
      ∧ (alerting 13 15).causes.holdDepth = 15 ∧ (alerting 13 1).mayTake .releaseAlert ∧ (alerting 13 1).mayTake .readCause
      ∧ (alerting 13 0).alert = true := ⟨⟨rfl, rfl⟩, by decide +kernel, ⟨rfl, rfl⟩, rfl, ⟨rfl, rfl⟩, ⟨rfl, rfl⟩, by decide +kernel⟩

theorem test_witness_ResetAndTimeBase : State.held.resetAsserted = true ∧ lab.running
    ∧ (Expiry.relief 15).due { lab with time := 100 } = true := ⟨rfl, rfl, by decide +kernel⟩

/-- At fabric time 0 nothing is due in the small part: its timers have just started, and no leg is SENT or WAITING. -/
theorem test_witness_ResetAndTimeBase_quiet : ∀ x : Expiry, x.due lab = false := by
  have legs : ∀ e ∈ lab.ott.entries.toList, e.primary.expiring 0 = false ∧ e.mirror.expiring 0 = false := by decide +kernel
  have ports : ∀ p : PortIx, timerDue lab.links[p].replayTimer 0 = false ∧ timerDue lab.links[p].trainTimer 0 = false
      ∧ lab.links[p].decayTimer.due 0 = false ∧ (lab.monitors[p]).reliefTimer.due 0 = false := by decide +kernel
  have pacers : ∀ k : TenantIx, timerDue (lab.pacers[k]).timer 0 = false := by decide +kernel
  rintro (p | p | p | ⟨i, x⟩ | p | k | _ | _ | _)
  · exact (ports p).1
  · exact (ports p).2.1
  · exact (ports p).2.2.1
  · have h := legs _ (Vector.mem_toList_iff.mpr (Vector.getElem_mem i.2))
    cases x
    · exact h.1
    · exact h.2
  · exact (ports p).2.2.2
  · exact pacers k
  · rfl
  · rfl
  · rfl

/-- R169: a tick takes an expiry that is due at the fabric time of its own tick, and the timer restarts there. -/
theorem test_expiry_at_its_tick :
    let s := { labLink 0 buffered with time := 16 }
    (Expiry.replay 0).due s = true ∧ (s.takeExpiry (.replay 0)).links[(0 : PortIx)].replayTimer = some ⟨16, 16⟩
      ∧ (Expiry.replay 0).due (s.takeExpiry (.replay 0)) = false ∧ (Expiry.replay 0).due { s with time := 15 } = false := by
  decide +kernel

/-- R169, R8: the tick that finds the replay timer due takes its expiry first and then raises fabric time. -/
theorem test_tick_takes_expiry :
    after .fabricTimeTick { labLink 0 buffered with time := 16 }
      (fun t => (t.time, t.links[0].counters.replayExpiries, t.links[0].replayTimer)) = some (17, 1, some ⟨16, 16⟩) := by
  decide +kernel

end Sys2Proof.Tests
end

/-! PROOF. The cause register's enable flags, the alert hold depth and the ALERT output (R172, R173). -/

namespace Sys2Proof.Machine

/-! ### What the taking of a command leaves -/

/-- A command whose rule refuses it is answered with the refusal's status, and nothing else changes (R164). -/
theorem take_refuse {s : State} {i : Instr} {cmd : State → Reply} {status : MgmtStatus} (h : s.mayTake i)
    (hcmd : cmd s = s.refuse status) :
    ∃ t, s.take i cmd = .next t ∧ s.AnsweredWith i.code status [] t.mgmt ∧ SameExcept [.mgmt] s t := by
  refine ⟨_, take_may h cmd, ?_, ?_⟩ <;> rw [hcmd]
  · have hanswer := answer_answeredWith s (s.refuse status) i.code rfl
    rwa [show (s.refuse status).data = [] from rfl, ite_self] at hanswer
  · exact answer_frame (s.refuse status) i.code

/-- A command whose rule makes the state `u` and answers OK leaves `u` but for the management port, which answers (R162). -/
theorem take_okay {s u : State} {i : Instr} {cmd : State → Reply} (h : s.mayTake i) (hcmd : cmd s = u.okay)
    (hmgmt : u.mgmt = s.mgmt) :
    ∃ t, s.take i cmd = .next t ∧ s.AnsweredWith i.code .ok [] t.mgmt ∧ SameExcept [.mgmt] u t := by
  refine ⟨_, take_may h cmd, ?_, ?_⟩ <;> rw [hcmd]
  · simpa [State.okay] using answer_answeredWith s u.okay i.code hmgmt
  · exact answer_frame u.okay i.code

/-! ### The ALERT output -/

/-- A new cause register leaves every other part. -/
theorem causes_frame (s : State) (r : CauseRegister) : SameExcept [.causes] s { s with causes := r } := fun x h => by
  cases x <;> first | rfl | exact absurd (by simp) h

/-- Some cause of the register is both pending and enabled. -/
def CauseRegister.wantsAlert (r : CauseRegister) : Prop :=
  ∃ k : Fin 14, (r.entries[k]).pending = true ∧ (r.entries[k]).enabled = true

/-- ALERT's condition, the cause read by its place in the register (R173). -/
theorem alert_iff (s : State) :
    s.alert = true ↔ s.resetAsserted = false ∧ s.causes.holdDepth = 0 ∧ s.causes.wantsAlert := by
  have anyEntry : (s.causes.entries.toList.any fun e => e.pending && e.enabled) = true ↔ s.causes.wantsAlert := by
    simp only [List.any_eq_true, Bool.and_eq_true, CauseRegister.wantsAlert, Vector.mem_toList_iff, Vector.mem_iff_getElem]
    constructor
    · rintro ⟨_, ⟨k, hk, rfl⟩, hpe⟩
      exact ⟨⟨k, hk⟩, hpe⟩
    · rintro ⟨k, hpe⟩
      exact ⟨_, ⟨k.1, k.2, rfl⟩, hpe⟩
  simp only [State.alert, Bool.and_eq_true, Bool.not_eq_true', beq_iff_eq, anyEntry, and_assoc]

/-- Out of reset, ALERT depends on the cause register alone. -/
theorem alert_iff_of_running {s : State} (h : s.running) :
    s.alert = true ↔ s.causes.holdDepth = 0 ∧ s.causes.wantsAlert := by
  rw [alert_iff]
  exact and_iff_right h

/-- The management port plays no part in ALERT. -/
theorem SameExcept.alert_eq {u t : State} (h : SameExcept [.mgmt] u t) : t.alert = u.alert := by
  have hcauses : t.causes = u.causes := h .causes (by simp)
  have hreset : t.resetAsserted = u.resetAsserted := h .resetPin (by simp)
  simp only [State.alert, hcauses, hreset]

/-! ### The enable flags (R172) -/

/-- Changing an entry that the change leaves as it is changes nothing. -/
theorem mapAt_of_fixed {α : Type} {n : Nat} {v : Vector α n} {i : Fin n} {f : α → α} (h : f v[i] = v[i]) :
    mapAt v i f = v := by
  rw [mapAt, h]
  exact Vector.set_getElem_self i.2

/-- The part with the enable flag of one cause written. -/
def State.withEnable (s : State) (c : Fin 14) (on : Bool) : State := s.modCause c fun e => { e with enabled := on }

section withEnable
variable (s : State) (c : Fin 14) (on : Bool)

@[simp] theorem State.withEnable_entries :
    (s.withEnable c on).causes.entries = mapAt s.causes.entries c fun e => { e with enabled := on } := rfl
@[simp] theorem State.withEnable_holdDepth : (s.withEnable c on).causes.holdDepth = s.causes.holdDepth := rfl

theorem withEnable_frame : SameExcept [.causes] s (s.withEnable c on) := causes_frame s _

/-- The pending flags stand. -/
theorem withEnable_pending (k : Fin 14) :
    ((s.withEnable c on).causes.entries[k]).pending = (s.causes.entries[k]).pending := by
  simp only [State.withEnable_entries, Fin.getElem_fin, mapAt_get]
  split <;> rfl

/-- The written flag has its new value, and every other stands. -/
theorem withEnable_enabled (k : Fin 14) :
    ((s.withEnable c on).causes.entries[k]).enabled = if k = c then on else (s.causes.entries[k]).enabled := by
  simp only [State.withEnable_entries, Fin.getElem_fin, mapAt_get, eq_comm (a := c)]
  split <;> rfl

variable {s c on} in
/-- Writing a flag to the value it holds changes nothing. -/
theorem withEnable_of_enabled (h : (s.causes.entries[c]).enabled = on) : s.withEnable c on = s := by
  have hentries : mapAt s.causes.entries c (fun e => { e with enabled := on }) = s.causes.entries :=
    mapAt_of_fixed (by rw [← h])
  rw [State.withEnable, State.modCause, hentries]

/-- A cause calls for ALERT after the write when it is pending and its flag, as written, is set. -/
theorem wantsAlert_withEnable :
    (s.withEnable c on).causes.wantsAlert ↔
      ∃ k : Fin 14, (s.causes.entries[k]).pending = true ∧ (if k = c then on else (s.causes.entries[k]).enabled) = true := by
  simp only [CauseRegister.wantsAlert, withEnable_pending, withEnable_enabled]

/-- A number of 1 to 14 writes that cause's flag and is answered OK. -/
theorem writeCauseEnable_valid : s.writeCauseEnable (c.1 + 1) on = (s.withEnable c on).okay := by
  simp [State.writeCauseEnable, toIx, State.withEnable]

variable {n : Nat}

/-- Any other number is refused with BAD_ARG. -/
theorem writeCauseEnable_invalid (h : n = 0 ∨ 14 < n) : s.writeCauseEnable n on = s.refuse .badArg := by
  rcases h with rfl | h
  · rfl
  · simp [State.writeCauseEnable, toIx, show ¬ n - 1 < 14 by omega]

/-- The command that writes an enable flag: SET_CAUSE_ENABLE or CLEAR_CAUSE_ENABLE. -/
def enableCommand (n : Nat) (on : Bool) : Instr := if on then .setCauseEnable n else .clearCauseEnable n

/-- The two commands' codes are 33 and 34 (R178). -/
theorem enableCommand_code : (enableCommand n on).code = if on then 33 else 34 := by cases on <;> rfl

/-- Both commands take the one rule of R172, each with its own value of the flag. -/
theorem exec_enableCommand :
    exec (enableCommand n on) s = s.take (enableCommand n on) fun s => s.writeCauseEnable n on := by cases on <;> rfl

end withEnable

/-- After power-on reset every enable flag is clear (R172). -/
theorem reset_enabled (c : Fin 14) : (State.reset.causes.entries[c]).enabled = false := by
  simp [State.reset, State.held]

/-- Settles O58: the command's rule writes one flag, and ALERT's condition is read off the written register. -/
theorem causeEnableWritten : Obligations.CauseEnableWritten := by
  refine ⟨fun s n on => ?_, reset_enabled⟩
  show s.mayTake (enableCommand n on) → _
  intro may
  constructor
  · rintro c rfl
    obtain ⟨t, hexec, hanswer, hframe⟩ := take_okay may (cmd := (·.writeCauseEnable (c.1 + 1) on))
      (writeCauseEnable_valid s c on) rfl
    rw [← exec_enableCommand] at hexec
    rw [enableCommand_code] at hanswer
    have hcauses : t.causes = (s.withEnable c on).causes := hframe .causes (by simp)
    have hrunning : (s.withEnable c on).running := may.1
    have halert : t.alert = true ↔ t.causes.holdDepth = 0 ∧ ∃ k : Fin 14, (s.causes.entries[k]).pending = true
        ∧ (if k = c then on else (s.causes.entries[k]).enabled) = true := by
      rw [hframe.alert_eq, alert_iff_of_running hrunning, wantsAlert_withEnable, hcauses]
    refine ⟨t, hexec, hanswer, ?_, ?_, ?_, ?_, halert, ?_⟩
    · rw [hcauses, State.withEnable_entries]
    · rw [hcauses, State.withEnable_holdDepth]
    · intro hflag
      rwa [withEnable_of_enabled hflag] at hframe
    · rintro rfl hpending hdepth
      exact halert.mpr ⟨by rw [hcauses, State.withEnable_holdDepth, hdepth], c, hpending, if_pos rfl⟩
    · exact ((withEnable_frame s c on).mono (by simp)).trans (hframe.mono (by simp))
  · intro hn
    have hrefused := take_refuse may (cmd := (·.writeCauseEnable n on)) (writeCauseEnable_invalid s on hn)
    rwa [← exec_enableCommand, enableCommand_code] at hrefused

/-! ### The hold depth (R173) -/

/-- The part with the alert hold depth at `n`. -/
def State.withHoldDepth (s : State) (n : Nat) : State := { s with causes := { s.causes with holdDepth := n } }

section withHoldDepth
variable (s : State) (n : Nat)

theorem withHoldDepth_frame : SameExcept [.causes] s (s.withHoldDepth n) := causes_frame s _

variable {s} in
/-- Out of reset, ALERT at depth `n` is the wish of the causes at `n = 0` alone. -/
theorem alert_withHoldDepth (h : s.running) : (s.withHoldDepth n).alert = true ↔ n = 0 ∧ s.causes.wantsAlert :=
  alert_iff_of_running (s := s.withHoldDepth n) h

variable {s} in
/-- Below 15 HOLD_ALERT raises the depth. -/
theorem holdAlert_below (h : s.causes.holdDepth < 15) :
    s.holdAlert = (s.withHoldDepth (s.causes.holdDepth + 1)).okay := if_pos h

variable {s} in
/-- At 15 HOLD_ALERT is refused with STATE. -/
theorem holdAlert_full (h : s.causes.holdDepth = 15) : s.holdAlert = s.refuse .state :=
  if_neg (by simp [h, Config.holdDepthMax])

/-- RELEASE_ALERT lowers the depth, or leaves it at 0. -/
theorem releaseAlert_eq : s.releaseAlert = (s.withHoldDepth (s.causes.holdDepth - 1)).okay := rfl

/-- READ_CAUSE answers the same at any depth, and leaves the depth. -/
theorem readCause_withHoldDepth :
    (s.withHoldDepth n).readCause = { s.readCause with state := s.readCause.state.withHoldDepth n } := by
  have hfirst : (s.withHoldDepth n).firstCause = s.firstCause := rfl
  rw [State.readCause, State.readCause, hfirst]
  cases s.firstCause <;> rfl

variable {s}

/-- A command that sets the depth to `n` and answers OK leaves the rest of the part, and ALERT follows the new depth. -/
theorem take_setsHoldDepth {i : Instr} {cmd : State → Reply} (may : s.mayTake i)
    (hcmd : cmd s = (s.withHoldDepth n).okay) :
    ∃ t, s.take i cmd = .next t ∧ s.AnsweredWith i.code .ok [] t.mgmt ∧ t.causes = { s.causes with holdDepth := n }
      ∧ (t.alert = true ↔ n = 0 ∧ s.causes.wantsAlert) ∧ SameExcept [.causes, .mgmt] s t := by
  obtain ⟨t, htake, hanswer, hframe⟩ := take_okay may hcmd rfl
  refine ⟨t, htake, hanswer, hframe .causes (by simp), ?_, ?_⟩
  · rw [hframe.alert_eq, alert_withHoldDepth n may.1]
  · exact ((withHoldDepth_frame s n).mono (by simp)).trans (hframe.mono (by simp))

/-- READ_CAUSE taken at another depth differs in that depth alone. -/
theorem exec_readCause_withHoldDepth (may : s.mayTake .readCause) :
    ∃ t u, exec .readCause s = .next t ∧ exec .readCause (s.withHoldDepth n) = .next u
      ∧ u.mgmt = t.mgmt ∧ u.causes.entries = t.causes.entries ∧ u.causes.holdDepth = n := by
  refine ⟨_, _, take_may may State.readCause, take_may (s := s.withHoldDepth n) may State.readCause, ?_⟩
  rw [readCause_withHoldDepth]
  exact ⟨rfl, rfl, rfl⟩

end withHoldDepth

/-- Settles O59: each of the two commands sets the depth, and raising and reading causes do not look at it. -/
theorem alertHeldAndReleased : Obligations.AlertHeldAndReleased := by
  refine fun s => ⟨alert_iff s, ?hold, ?holdFull, ?release, fun n x d => ⟨rfl, rfl⟩, ?read⟩
  case hold =>
    intro may hdepth
    obtain ⟨t, hexec, hanswer, hcauses, halert, hframe⟩ := take_setsHoldDepth _ may (holdAlert_below hdepth)
    have hlow : t.alert = false := by simpa using halert
    exact ⟨t, hexec, hanswer, hcauses, hlow, hframe⟩
  case holdFull => exact fun may hdepth => take_refuse may (holdAlert_full hdepth)
  case release =>
    intro may
    have hreleased := take_setsHoldDepth _ may (releaseAlert_eq s)
    rwa [Nat.sub_eq_zero_iff_le] at hreleased
  case read => exact fun n may => exec_readCause_withHoldDepth n may

end Sys2Proof.Machine

/-! PROOF. The ranges of the state tables: what a quiet operation keeps, and what the ranges say of one port. -/

namespace Sys2Proof.Machine

/-! ### Ports and the rest of the ranges -/

/-- What the credit accounts of port `p` rest on is the same before and after: link state, mode, receive credits and the
requester map. -/
def SamePort (s t : State) (p : PortIx) : Prop :=
  t.links[p].state = s.links[p].state ∧ t.links[p].mode = s.links[p].mode ∧ t.links[p].recvCredit = s.links[p].recvCredit
    ∧ (t.stages[p]).requesters = (s.stages[p]).requesters

/-- The ranges besides the credit accounts. -/
def State.CoreInRange (s : State) : Prop :=
  s.LinksInRange ∧ s.CausesInRange ∧ s.HoldListInRange ∧ s.FabricTenantActive

/-- The ranges are the credit accounts and the others. -/
theorem inRange_iff {s : State} : s.InRange ↔ s.CoreInRange ∧ s.AccountsInRange := by
  simp only [State.InRange, State.CoreInRange]
  tauto

/-- An operation is quiet when it touches no credit account and keeps the other ranges. -/
structure Quiet (s t : State) : Prop where
  ports : ∀ p, SamePort s t p
  core : s.CoreInRange → t.CoreInRange

theorem SamePort.rfl_ {s : State} {p : PortIx} : SamePort s s p := ⟨rfl, rfl, rfl, rfl⟩

theorem SamePort.trans {s t u : State} {p : PortIx} (h : SamePort s t p) (k : SamePort t u p) : SamePort s u p :=
  ⟨k.1.trans h.1, k.2.1.trans h.2.1, k.2.2.1.trans h.2.2.1, k.2.2.2.trans h.2.2.2⟩

/-- A port whose accounts rest on the same values keeps its accounts in range. -/
theorem SamePort.account {s t : State} {p : PortIx} (h : SamePort s t p) {r : ReqId} (a : s.AccountInRange p r) :
    t.AccountInRange p r := by
  obtain ⟨hstate, hmode, hcredit, hreq⟩ := h
  simpa only [State.AccountInRange, hstate, hmode, hcredit, hreq] using a

namespace Quiet

theorem rfl_ {s : State} : Quiet s s := ⟨fun _ => .rfl_, id⟩

theorem trans {s t u : State} (h : Quiet s t) (k : Quiet t u) : Quiet s u :=
  ⟨fun p => (h.ports p).trans (k.ports p), fun c => k.core (h.core c)⟩

theorem ite {s t u : State} {c : Prop} [Decidable c] (h : Quiet s t) (k : Quiet s u) : Quiet s (if c then t else u) := by
  split
  · exact h
  · exact k

theorem foldl {α : Type} {f : State → α → State} (h : ∀ s a, Quiet s (f s a)) (l : List α) (s : State) :
    Quiet s (l.foldl f s) := by
  induction l generalizing s with
  | nil => exact .rfl_
  | cons a l ih => exact (h s a).trans (ih (f s a))

/-- A quiet operation keeps every range. -/
theorem inRange {s t : State} (h : Quiet s t) (r : s.InRange) : t.InRange := by
  rw [inRange_iff] at r ⊢
  exact ⟨h.core r.1, fun p q => (h.ports p).account (r.2 p q)⟩

end Quiet

/-- The parts that the ranges speak of. -/
def rangeParts : List Part := [.links, .stages, .causes, .holdList, .tenants]

/-- Whatever leaves those parts alone is quiet. -/
theorem SameExcept.quiet {parts : List Part} {s t : State} (h : SameExcept parts s t) (d : ∀ f ∈ rangeParts, f ∉ parts) :
    Quiet s t := by
  have hl : t.links = s.links := h .links (d _ (by decide))
  have hs : t.stages = s.stages := h .stages (d _ (by decide))
  have hc : t.causes = s.causes := h .causes (d _ (by decide))
  have hh : t.holdList = s.holdList := h .holdList (d _ (by decide))
  have ht : t.tenants = s.tenants := h .tenants (d _ (by decide))
  refine ⟨fun p => by simp [SamePort, hl, hs], fun c => ?_⟩
  simpa only [State.CoreInRange, State.LinksInRange, State.CausesInRange, State.HoldListInRange, State.FabricTenantActive,
    hl, hc, hh, ht] using c

/-! ### Quiet updates -/

section updates
variable (s : State)

/-- Changing one link unit is quiet when its state, mode and receive credits stay and it stays in range. -/
theorem modLink_quiet (p : PortIx) {f : LinkUnit → LinkUnit}
    (keeps : (f s.links[p]).state = s.links[p].state ∧ (f s.links[p]).mode = s.links[p].mode
      ∧ (f s.links[p]).recvCredit = s.links[p].recvCredit)
    (range : (s.links[p]).InRange → (f s.links[p]).InRange) : Quiet s (s.modLink p f) := by
  obtain ⟨hstate, hmode, hcredit⟩ := keeps
  constructor
  · intro q
    by_cases hq : p = q
    · subst hq
      simpa [SamePort] using ⟨hstate, hmode, hcredit⟩
    · simp [SamePort, hq]
  · rintro ⟨links, rest⟩
    refine ⟨fun q => ?_, rest⟩
    by_cases hq : p = q
    · subst hq
      simpa using range (links p)
    · simpa [hq] using links q

/-- Changing a stage besides its requester map is quiet. -/
theorem modStage_quiet (p : PortIx) {f : IngressStage → IngressStage} (h : ∀ g, (f g).requesters = g.requesters) :
    Quiet s (s.modStage p f) := by
  refine ⟨fun q => ?_, id⟩
  by_cases hq : p = q
  · subst hq
    simp [SamePort, h]
  · simp [SamePort, hq]

/-- Raising a cause is quiet: the raised cause is pending. -/
theorem raise_quiet (c : Cause) (d : BitVec 16) : Quiet s (s.raise c d) := by
  refine ⟨fun q => .rfl_, ?_⟩
  rintro ⟨links, ⟨entries, depth⟩, rest⟩
  refine ⟨links, ⟨fun k => ?_, depth⟩, rest⟩
  by_cases hk : causeIx c = k
  · subst hk
    simp only [State.raise, Fin.getElem_fin, mapAt_get_self]
    split <;> simp_all
  · simpa [State.raise, hk] using entries k

/-- Changing a tenant record besides its state is quiet. -/
theorem modTenant_quiet (t : TenantIx) {f : Tenant → Tenant} (h : ∀ r, (f r).state = r.state) : Quiet s (s.modTenant t f) := by
  refine ⟨fun q => .rfl_, ?_⟩
  rintro ⟨links, causes, hold, tenant⟩
  refine ⟨links, causes, hold, ?_⟩
  simp only [State.FabricTenantActive, State.modTenant_tenants, Fin.getElem_fin, mapAt_get] at tenant ⊢
  split
  · rw [h]; exact tenant
  · exact tenant

/-- A change of the counters of a link unit is quiet. -/
theorem modCounters_quiet (p : PortIx) (f : LinkCounters → LinkCounters) : Quiet s (s.modCounters p f) :=
  modLink_quiet s p ⟨rfl, rfl, rfl⟩ id

end updates

/-! ### Quiet operations of the link units -/

section links
variable (s : State)

theorem offer_quiet (p : PortIx) (m : Payload) : Quiet s (s.offer p m) := by
  refine modLink_quiet s p ?_ fun ⟨hretry, hcount, hack, hattempt, hcredit, hhealth, htimer⟩ => ?_
  · split <;> exact ⟨rfl, rfl, rfl⟩
  · split
    · refine ⟨hretry, hcount, hack, hattempt, fun r => ?_, hhealth, htimer⟩
      cases m with
      | response => exact hcredit r
      | request q =>
        have := hcredit r
        simp only [Fin.getElem_fin, mapAt_get] at this ⊢
        split <;> omega
    · exact ⟨hretry, hcount, hack, hattempt, hcredit, hhealth, htimer⟩

theorem respond_quiet (p : PortIx) (read : Bool) (r : ReqId) (tag : Tag) (st : Status) (d : Option LineData) :
    Quiet s (s.respond p read r tag st d) := offer_quiet s p _

theorem testHealth_quiet (p : PortIx) : Quiet s (s.testHealth p) := by
  unfold State.testHealth
  dsimp only
  split
  · exact .ite ((modLink_quiet s p ⟨rfl, rfl, rfl⟩ id).trans (raise_quiet _ _ _)) .rfl_
  · exact .ite (modLink_quiet s p ⟨rfl, rfl, rfl⟩ id) .rfl_

theorem addHealth_quiet (p : PortIx) (n : Nat) : Quiet s (s.addHealth p n) := by
  refine .trans (modLink_quiet s p ⟨rfl, rfl, rfl⟩ ?_) (testHealth_quiet _ p)
  rintro ⟨hretry, hcount, hack, hattempt, hcredit, -, htimer⟩
  exact ⟨hretry, hcount, hack, hattempt, hcredit, Nat.min_le_left _ _, htimer⟩

theorem openEpisode_quiet (p : PortIx) : Quiet s (s.openEpisode p) := by
  refine modLink_quiet s p ?_ ?_ <;> split
  · exact ⟨rfl, rfl, rfl⟩
  · exact ⟨rfl, rfl, rfl⟩
  · exact id
  · exact id

theorem discardHandling_quiet (p : PortIx) : Quiet s (s.discardHandling p) :=
  (addHealth_quiet s p _).trans (openEpisode_quiet _ p)

theorem damaged_quiet (p : PortIx) : Quiet s (s.damaged p) :=
  .ite ((modCounters_quiet s p _).trans (discardHandling_quiet _ p)) .rfl_

theorem outOfSequence_quiet (p : PortIx) : Quiet s (s.outOfSequence p) :=
  (modCounters_quiet s p _).trans (discardHandling_quiet _ p)

theorem overrun_quiet (p : PortIx) : Quiet s (s.overrun p) :=
  ((modCounters_quiet s p _).trans (raise_quiet _ _ _)).trans (discardHandling_quiet _ p)

theorem lateResponse_quiet (p : PortIx) : Quiet s (s.lateResponse p) := modCounters_quiet s p _

theorem acceptPayload_quiet (p : PortIx) : Quiet s (s.acceptPayload p) := by
  refine modLink_quiet s p ⟨rfl, rfl, rfl⟩ ?_
  rintro ⟨hretry, hcount, -, hattempt, hcredit, hhealth, htimer⟩
  exact ⟨hretry, hcount, Nat.min_le_left _ _, hattempt, hcredit, hhealth, htimer⟩

theorem answerTrn_quiet (p : PortIx) (m : PortMode) (q : Seq) : Quiet s (s.answerTrn p m q) :=
  modLink_quiet s p ⟨rfl, rfl, rfl⟩ id

/-- Removing buffered messages changes the buffer and the replay position alone. -/
theorem dropAcked_eq (u : LinkUnit) (d : Nat) :
    u.dropAcked d = { u with retry := u.retry.drop d, replayPos := (u.dropAcked d).replayPos } := rfl

/-- Removing buffered messages keeps a link unit in range. -/
theorem LinkUnit.InRange.dropAcked {u : LinkUnit} (h : u.InRange) (d : Nat) : (u.dropAcked d).InRange := by
  obtain ⟨hretry, rest⟩ := h
  refine ⟨?_, rest⟩
  simp only [LinkUnit.dropAcked, List.length_drop]
  omega

/-- In ACTIVE an acknowledgement is quiet. -/
theorem ackProgress_quiet {p : PortIx} (ha : s.links[p].state = .active) (d : Nat) : Quiet s (s.ackProgress p d) := by
  refine modLink_quiet s p ⟨rfl, rfl, rfl⟩ fun h => ?_
  obtain ⟨hretry, -, hack, hattempt, hcredit, hhealth, -⟩ := h.dropAcked d
  exact ⟨hretry, Nat.zero_le _, hack, hattempt, hcredit, hhealth, fun k => absurd ha k⟩

/-- In ACTIVE the start of a replay is quiet. -/
theorem startReplay_quiet {p : PortIx} (ha : s.links[p].state = .active) (q : Seq) : Quiet s (s.startReplay p q) := by
  refine modLink_quiet s p ⟨rfl, rfl, rfl⟩ ?_
  rintro ⟨hretry, hcount, hack, hattempt, hcredit, hhealth, -⟩
  exact ⟨hretry, hcount, hack, hattempt, hcredit, hhealth, fun k => absurd ha k⟩

end links

/-! ### Quiet operations of the other blocks -/

section blocks
variable (s : State)

theorem raiseHighest_quiet (t : TenantIx) : Quiet s (s.raiseHighest t) :=
  modTenant_quiet s t fun r => by split <;> rfl

theorem modPacer_quiet (t : TenantIx) (f : Pacer → Pacer) : Quiet s (s.modPacer t f) :=
  (modPacer_frame s t f).quiet (by decide)

theorem beginOpen_quiet (t : TenantIx) : Quiet s (s.beginOpen t) := (modPacer_quiet s t _).trans (raiseHighest_quiet _ t)

theorem beginClosed_quiet (t : TenantIx) : Quiet s (s.beginClosed t) :=
  .ite ((modPacer_quiet s t _).trans (raiseHighest_quiet _ t)) (modPacer_quiet s t _)

theorem resumePacing_quiet (t : TenantIx) : Quiet s (s.resumePacing t) := .ite (beginOpen_quiet s t) .rfl_

theorem changeLevel_quiet (t : TenantIx) (n : Nat) : Quiet s (s.changeLevel t n) := by
  have first := (modPacer_quiet s t fun p => { p with level := n }).trans (raiseHighest_quiet _ t)
  exact .ite (first.trans (beginClosed_quiet _ t))
    (.ite (first.trans (modPacer_quiet _ t _)) (first.trans (resumePacing_quiet _ t)))

theorem repace_quiet (t : TenantIx) : Quiet s (s.repace t) := .ite .rfl_ (changeLevel_quiet s t _)

theorem retune_quiet (t : TenantIx) : Quiet s (s.retune t) := .ite (resumePacing_quiet s t) (changeLevel_quiet s t _)

theorem markOverflow_quiet (t : TenantIx) : Quiet s (s.markOverflow t) :=
  (modTenant_quiet s t (by intro; rfl)).trans (raise_quiet _ _ _)

theorem capTenant_quiet (t : TenantIx) : Quiet s (s.capTenant t) :=
  (modTenant_quiet s t (by intro; rfl)).trans (raise_quiet _ _ _)

theorem ceilingAfterMetering_quiet (t : TenantIx) : Quiet s (s.ceilingAfterMetering t) :=
  .ite ((capTenant_quiet s t).trans (repace_quiet _ t)) .rfl_

/-- Counting a line leaves the tenant's state. -/
@[simp] theorem countLine_state (r : Tenant) (read congested : Bool) : (r.countLine read congested).state = r.state := by
  unfold Tenant.countLine
  split <;> split <;> rfl

theorem meter_quiet (t : TenantIx) (read congested : Bool) : Quiet s (s.meter t read congested) := by
  unfold State.meter
  dsimp only
  refine .trans (.trans ?_ (modTenant_quiet _ t fun r => countLine_state r read congested)) (ceilingAfterMetering_quiet _ t)
  exact .ite (modTenant_quiet s t (by intro; rfl)) ((modTenant_quiet s t (by intro; rfl)).trans (markOverflow_quiet _ t))

theorem ceilingAfterSetting_quiet (t : TenantIx) : Quiet s (s.ceilingAfterSetting t) :=
  .ite (.ite .rfl_ ((capTenant_quiet s t).trans (repace_quiet _ t)))
    ((modTenant_quiet s t (by intro; rfl)).trans (repace_quiet _ t))

theorem endJob_quiet (k : JobSlot) (how : JobState) (n : Nat) : Quiet s (s.endJob k how n) :=
  ((setJob_frame s k _).quiet (by decide)).trans (raise_quiet _ _ _)

theorem stallRing_quiet (w : RingWrite) : Quiet s (s.stallRing w) := by
  refine .trans (SameExcept.quiet (parts := [.ring]) ?_ (by decide)) (raise_quiet _ _ _)
  exact fun x h => by cases x <;> first | rfl | exact absurd (by simp) h

theorem dropHeld_quiet : Quiet s s.dropHeld := by
  refine ⟨fun p => .rfl_, ?_⟩
  rintro ⟨links, causes, hold, tenant⟩
  refine ⟨links, causes, ?_, tenant⟩
  simp only [State.HoldListInRange, State.dropHeld, List.length_tail] at hold ⊢
  omega

/-- A new ring is quiet. -/
theorem ring_quiet (r : Ring) : Quiet s { s with ring := r } :=
  SameExcept.quiet (parts := [.ring]) (fun x h => by cases x <;> first | rfl | exact absurd (by simp) h) (by decide)

/-- A new copy engine is quiet. -/
theorem copy_quiet (c : CopyEngine) : Quiet s { s with copy := c } :=
  SameExcept.quiet (parts := [.copy]) (fun x h => by cases x <;> first | rfl | exact absurd (by simp) h) (by decide)

/-- New job slots are quiet. -/
theorem jobs_quiet (j : Jobs) : Quiet s { s with jobs := j } :=
  SameExcept.quiet (parts := [.jobs]) (fun x h => by cases x <;> first | rfl | exact absurd (by simp) h) (by decide)

/-- A new closer is quiet. -/
theorem closer_quiet (c : Closer) : Quiet s { s with closer := c } :=
  SameExcept.quiet (parts := [.closer]) (fun x h => by cases x <;> first | rfl | exact absurd (by simp) h) (by decide)

theorem recordReport_quiet (st : Status) : Quiet s (s.recordReport st) :=
  .ite (((dropHeld_quiet s).trans (ring_quiet _ _)).trans ((issueIndex_frame _).quiet (by decide))) (stallRing_quiet s _)

theorem indexReport_quiet (st : Status) : Quiet s (s.indexReport st) := .ite (ring_quiet s _) (stallRing_quiet s _)

theorem takeConsumerValue_quiet (v : RingIx) : Quiet s (s.takeConsumerValue v) := .ite (ring_quiet s _) (raise_quiet s _ _)

theorem closerIdle_quiet : Quiet s s.closerIdle := (closerIdle_frame s).quiet (by decide)

theorem startFullWalk_quiet (job : Bool) : Quiet s (s.startFullWalk job) := by
  unfold State.startFullWalk
  split
  · exact closer_quiet s _
  · exact .ite ((closerIdle_quiet s).trans (endJob_quiet _ _ _ _)) (closerIdle_quiet s)

theorem endWalk_quiet (n : Nat) : Quiet s (s.endWalk n) := by
  have a : Quiet s (if s.closer.walkJob then s.endJob .close .done n else s) := .ite (endJob_quiet s _ _ _) .rfl_
  exact a.trans (.ite ((closer_quiet _ _).trans (startFullWalk_quiet _ false)) (closerIdle_quiet _))

theorem moveWalk_quiet : Quiet s s.moveWalk := by
  unfold State.moveWalk
  split
  · exact closer_quiet s _
  · exact endWalk_quiet s _

theorem drainEnd_quiet : Quiet s s.drainEnd := .ite ((copy_quiet s _).trans (endJob_quiet _ _ _ _)) .rfl_

theorem setLeg_quiet (w : WindowIx) (x : Side) (st : LegState) : Quiet s (s.setLeg w x st) :=
  (setLeg_frame s w x st).quiet (by decide)

theorem failRebuild_quiet (r : FailReason) : Quiet s (s.failRebuild r) := by
  unfold State.failRebuild
  split
  · exact (((copy_quiet s _).trans (setLeg_quiet _ _ _ _)).trans ((withdrawPending_frame _).quiet (by decide))).trans
      (drainEnd_quiet _)
  · exact .rfl_

theorem completeRebuild_quiet : Quiet s s.completeRebuild := by
  unfold State.completeRebuild
  split
  · exact .ite (((copy_quiet s _).trans (setLeg_quiet _ _ _ _)).trans ((raise_quiet _ _ _).trans (endJob_quiet _ _ _ _))) .rfl_
  · exact .rfl_

theorem freeSlot_quiet (k : SlotIx) : Quiet s (s.freeSlot k) := (freeSlot_frame s k).quiet (by decide)

theorem copyReadDone_quiet (k : SlotIx) (d : LineData) : Quiet s (s.copyReadDone k d) :=
  ((modSlot_frame s k _).quiet (by decide)).trans ((issueFabric_frame _ _).quiet (by decide))

theorem copyWriteDone_quiet (k : SlotIx) : Quiet s (s.copyWriteDone k) :=
  (((freeSlot_quiet s k).trans (copy_quiet _ _)).trans ((fillSlots_frame _).quiet (by decide))).trans (completeRebuild_quiet _)

theorem copyReport_quiet (k : SlotIx) (st : Status) (d : Option LineData) : Quiet s (s.copyReport k st d) := by
  have failed (r : FailReason) : Quiet s ((s.freeSlot k).failRebuild r) := (freeSlot_quiet s k).trans (failRebuild_quiet _ r)
  unfold State.copyReport
  split
  · exact .rfl_
  · exact (freeSlot_quiet s k).trans (drainEnd_quiet _)
  · split
    · exact .rfl_
    · split
      · exact .ite ((redo_frame s k).quiet (by decide)) (copyReadDone_quiet s k _)
      · exact failed _
    · exact .ite (copyWriteDone_quiet s k) (failed _)

theorem report_quiet (j : FabricJob) (st : Status) (d : Option LineData) : Quiet s (s.report j st d) := by
  cases j with
  | ringRecord => exact recordReport_quiet s st
  | ringIndex => exact indexReport_quiet s st
  | copySlot k => exact copyReport_quiet s k st d

end blocks

/-! ### Quiet operations of the outstanding transaction table -/

section transactions
variable (s : State)

/-- A new outstanding transaction table is quiet. -/
theorem ott_quiet (o : Ott) : Quiet s { s with ott := o } :=
  SameExcept.quiet (parts := [.ott]) (fun x h => by cases x <;> first | rfl | exact absurd (by simp) h) (by decide)

theorem modEntry_quiet (i : OttIx) (f : OttEntry → OttEntry) : Quiet s (s.modEntry i f) := ott_quiet s _

theorem modOttLeg_quiet (i : OttIx) (x : Side) (f : OttLeg → OttLeg) : Quiet s (s.modOttLeg i x f) := ott_quiet s _

theorem modWindow_quiet (w : WindowIx) (f : Window → Window) : Quiet s (s.modWindow w f) :=
  (modWindow_frame s w f).quiet (by decide)

theorem countEntry_quiet (o : Origin) (w : WindowIx) (f : Nat → Nat) : Quiet s (s.countEntry o w f) := by
  unfold State.countEntry
  dsimp only
  split
  · exact ((modWindow_quiet s w _).trans (ott_quiet _ _)).trans (modStage_quiet _ _ fun _ => rfl)
  · exact (modWindow_quiet s w _).trans (ott_quiet _ _)

theorem freeEntry_quiet (i : OttIx) : Quiet s (s.freeEntry i) := by
  have a := (modEntry_quiet s i fun e => .freed e.gen).trans
    (countEntry_quiet _ (s.ott.entries[i]).origin (s.ott.entries[i]).window fun n => n - 1)
  exact .ite (a.trans (ott_quiet _ _)) (a.trans (ott_quiet _ _))

theorem finish_quiet (i : OttIx) (st : Status) : Quiet s (s.finish i st) := by
  unfold State.finish
  dsimp only
  split
  · exact .trans (.ite ((respond_quiet s _ _ _ _ _ _).trans (meter_quiet _ _ _ _)) (respond_quiet s _ _ _ _ _ _))
      (freeEntry_quiet _ i)
  · exact .trans (.ite ((report_quiet s _ _ _).trans (meter_quiet _ _ _ _)) (report_quiet s _ _ _)) (freeEntry_quiet _ i)
  · exact freeEntry_quiet s i
  · exact .rfl_

theorem cancelWaitingOf_quiet (i : OttIx) (f : State → Side → Bool) : Quiet s (s.cancelWaitingOf i f) :=
  .foldl (fun s x => .ite ((modOttLeg_quiet s i x _).trans (finish_quiet _ i _)) .rfl_) _ s

theorem orphanPort_quiet (p : PortIx) : Quiet s (s.orphanPort p) :=
  .foldl (fun s i => (modEntry_quiet s i _).trans (cancelWaitingOf_quiet _ i _)) _ s

theorem cancelLostWaiting_quiet : Quiet s s.cancelLostWaiting := .foldl (fun s i => cancelWaitingOf_quiet s i _) _ s

theorem loseLegs_quiet (w : WindowIx) (hit : Side → Bool) : Quiet s (s.loseLegs w hit) := by
  unfold State.loseLegs
  dsimp only
  refine .ite ?_ .rfl_
  set s1 : State := bothSides.foldl _ s with hs1
  have a : Quiet s s1 := .foldl (fun s x => .ite (setLeg_quiet s w x _) .rfl_) _ s
  have b : Quiet s (match (s1.windows[w]).legCondition with
      | .unavailable => s1.raise .windowUnavailable (numDetail w.1)
      | _ => s1.raise .legLost (numDetail w.1)) := by
    split <;> exact a.trans (raise_quiet _ _ _)
  exact .ite (b.trans (failRebuild_quiet _ _)) (.ite (b.trans (failRebuild_quiet _ _)) b)

theorem singleLegLoss_quiet (w : WindowIx) (x : Side) : Quiet s (s.singleLegLoss w x) :=
  (loseLegs_quiet s w _).trans (cancelLostWaiting_quiet _)

theorem portLoss_quiet (p : PortIx) (m : Bool) : Quiet s (s.portLoss p m) :=
  ((raise_quiet s _ _).trans ((Quiet.foldl (fun s w => loseLegs_quiet s w _) _ _).trans (cancelLostWaiting_quiet _))).trans
    ((queueSweep_frame _ p).quiet (by decide))

theorem settleWatch_quiet (i : OttIx) (x : Side) (good : Bool) : Quiet s (s.settleWatch i x good) :=
  .ite ((ring_quiet s _).trans (.foldl (fun s v => takeConsumerValue_quiet s v) _ _)) (ring_quiet s _)

theorem settleCounts_quiet (i : OttIx) (x : Side) (way : SettleWay) : Quiet s (s.settleCounts i x way) := by
  have monitor (s : State) (p : PortIx) (f : Monitor → Monitor) : Quiet s (s.modMonitor p f) :=
    (modMonitor_frame s p f).quiet (by decide)
  unfold State.settleCounts
  dsimp only
  set l := (s.ott.entries[i]).leg x
  have a := ((modContrib_frame s (s.ott.entries[i]).tenant l.port fun c => { c with inFlight := c.inFlight - 1 }).quiet
    (by decide)).trans (monitor _ l.port fun m => { m with inFlight := m.inFlight - 1 })
  have timed {u : State} (h : Quiet s u) : Quiet s (if way = .timeout then u.addHealth l.port Config.timeoutHealth else u) :=
    .ite (h.trans (addHealth_quiet _ _ _)) h
  exact timed (.trans (.ite ((a.trans (monitor _ _ _)).trans (modOttLeg_quiet _ i x _)) a) (settleWatch_quiet _ i x _))

theorem readLegFailed_quiet (i : OttIx) (x : Side) : Quiet s (s.readLegFailed i x) :=
  .ite (modEntry_quiet s i _) (finish_quiet s i _)

theorem writeLegSettled_quiet (i : OttIx) (x : Side) (way : SettleWay) : Quiet s (s.writeLegSettled i x way) := by
  have a : Quiet s (if way.progress = .doneFailed then s.singleLegLoss (s.ott.entries[i]).window x else s) :=
    .ite (singleLegLoss_quiet s _ x) .rfl_
  exact .ite a (a.trans (finish_quiet _ i _))

theorem settle_quiet (i : OttIx) (x : Side) (way : SettleWay) : Quiet s (s.settle i x way) := by
  have a := (settleCounts_quiet s i x way).trans
    (modOttLeg_quiet _ i x fun l => { l with progress := way.progress, failStatus := way.failStatus })
  refine .ite ?_ (a.trans (writeLegSettled_quiet _ i x way))
  split
  · exact (a.trans (modEntry_quiet _ i _)).trans (finish_quiet _ i _)
  · exact a.trans (readLegFailed_quiet _ i x)

theorem takeResponse_quiet (p : PortIx) (r : Response) : Quiet s (s.takeResponse p r) :=
  .ite (settle_quiet s _ _ _) (lateResponse_quiet s p)

theorem receiveResponse_quiet (p : PortIx) (n : Seq) (r : Response) : Quiet s (s.receiveResponse p n r) :=
  .ite (.ite ((acceptPayload_quiet s p).trans (takeResponse_quiet _ p r)) (outOfSequence_quiet s p)) .rfl_

theorem visitEntry_quiet (p : PortIx) (i : OttIx) : Quiet s (s.visitEntry p i) :=
  .foldl (fun s x => .ite (settle_quiet s i x _) .rfl_) _ s

theorem sendLeg_quiet (i : OttIx) (x : Side) : Quiet s (s.sendLeg i x) :=
  ((offer_quiet s _ _).trans ((modContrib_frame _ _ _ _).quiet (by decide))).trans ((modMonitor_frame _ _ _).quiet (by decide))

theorem allocate_quiet (i : OttIx) (rest : List OttIx) (o : Origin) (t : TenantIx) (w : WindowIx) (b : ReqBody)
    (line : LineAddr) (sides : List Side) : Quiet s (s.allocate i rest o t w b line sides) := by
  refine .trans (.trans (SameExcept.quiet (parts := [.ott, .ring]) ?_ (by decide)) (modEntry_quiet _ i _))
    (countEntry_quiet _ _ _ _)
  exact fun x h => by cases x <;> first | rfl | exact absurd (by simp) h

theorem dispatchRoute_quiet (o : Origin) (t : TenantIx) (w : WindowIx) (b : ReqBody) (line : LineAddr) (sides : List Side) :
    Quiet s (s.dispatchRoute o t w b line sides) := by
  unfold State.dispatchRoute
  split
  · exact .rfl_
  · next i rest _ =>
    have a := (allocate_quiet s i rest o t w b line sides).trans
      (Quiet.foldl (f := fun s side => (s.sendLeg i side).takeSample i side)
        (fun s x => (sendLeg_quiet s i x).trans ((takeSample_frame _ i x).quiet (by decide))) sides _)
    dsimp only
    split
    · exact a
    · exact .ite a (a.trans ((engineSeesWrite_frame _ w line.toNat).quiet (by decide)))

theorem countRefused_quiet (t : TenantIx) (st : Status) : Quiet s (s.countRefused t st) := by
  unfold State.countRefused
  split
  · exact (modTenant_quiet s t (by intro; rfl)).trans (raise_quiet _ _ _)
  · exact modTenant_quiet s t (by intro; rfl)
  · exact .rfl_

theorem takeFabric_quiet (q : FabricReq) : Quiet s (s.takeFabric q) := by
  unfold State.takeFabric
  dsimp only
  have a : Quiet s { s with fabric := s.fabric.erase q } :=
    SameExcept.quiet (parts := [.fabric]) (fun x h => by cases x <;> first | rfl | exact absurd (by simp) h) (by decide)
  split
  · exact (a.trans (countRefused_quiet _ _ _)).trans (report_quiet _ _ _ _)
  · exact (a.trans (countRefused_quiet _ _ _)).trans (report_quiet _ _ _ _)
  · exact a.trans (report_quiet _ _ _ _)
  · exact (a.trans ((markSent_frame _ _).quiet (by decide))).trans (dispatchRoute_quiet _ _ _ _ _ _ _)

theorem restoreDone_quiet (p : PortIx) : Quiet s (s.restoreDone p) :=
  .ite (((Quiet.foldl (fun s w => setLeg_quiet s w _ _) _ s).trans (jobs_quiet _ _)).trans (endJob_quiet _ _ _ _)) .rfl_

theorem evaluate_quiet (p : PortIx) : Quiet s (s.evaluate p) := by
  refine .trans (t := s.recordJudgement p (s.judgedCongested p)) ?_ ?_
  · have a := fun f => (modMonitor_frame s p f).quiet (by decide)
    exact .ite ((a _).trans (raise_quiet _ _ _)) (a _)
  · exact .foldl (fun s t => .ite .rfl_ (((modContrib_frame s t p _).quiet (by decide)).trans (repace_quiet _ t))) _ _

end transactions

end Sys2Proof.Machine

/-! PROOF. Every step keeps the ranges, and the states after and during reset are in range. -/

namespace Sys2Proof.Machine

/-! ### One port changes -/

/-- When one port's link unit and requester map change, the ranges are those of the port, and the others stand. -/
theorem inRange_of_port {s t : State} {p : PortIx} (h : s.InRange) (frame : SameExcept [.links, .stages] s t)
    (others : ∀ q, q ≠ p → t.links[q] = s.links[q] ∧ (t.stages[q]).requesters = (s.stages[q]).requesters)
    (link : (t.links[p]).InRange) (accounts : ∀ r, t.AccountInRange p r) : t.InRange := by
  obtain ⟨hlinks, haccounts, hcauses, hhold, htenant⟩ := h
  refine ⟨fun q => ?_, fun q r => ?_, ?_, ?_, ?_⟩
  · by_cases hq : q = p
    · exact hq ▸ link
    · rw [(others q hq).1]; exact hlinks q
  · by_cases hq : q = p
    · exact hq ▸ accounts r
    · obtain ⟨hu, hr⟩ := others q hq
      exact SamePort.account ⟨by rw [hu], by rw [hu], by rw [hu], hr⟩ (haccounts q r)
  · rwa [State.CausesInRange, show t.causes = s.causes from frame .causes (by simp)]
  · rwa [State.HoldListInRange, show t.holdList = s.holdList from frame .holdList (by simp)]
  · rwa [State.FabricTenantActive, show t.tenants = s.tenants from frame .tenants (by simp)]

/-- Reading a link unit after it changed. -/
theorem modLink_get (s : State) (p : PortIx) (f : LinkUnit → LinkUnit) : (s.modLink p f).links[p] = f s.links[p] := by
  simp

/-- The other link units stand when one changes. -/
theorem modLink_other (s : State) {p q : PortIx} (f : LinkUnit → LinkUnit) (h : q ≠ p) :
    (s.modLink p f).links[q] = s.links[q] := by
  simp [Ne.symm h]

/-- When one link unit changes, the ranges are those of its port, and the others stand. -/
theorem inRange_modLink {s : State} {p : PortIx} {f : LinkUnit → LinkUnit} (h : s.InRange)
    (link : (f s.links[p]).InRange) (accounts : ∀ r, (s.modLink p f).AccountInRange p r) : (s.modLink p f).InRange := by
  refine inRange_of_port h ((modLink_frame s p f).mono (by simp)) (fun q hq => ?_) (by simpa using link) accounts
  simp [Ne.symm hq]

/-! ### Retrains -/

/-- A link unit of an ACTIVE link may enter RETRAIN or stay ACTIVE with its accounts as they are. -/
theorem account_of_session {s : State} {p : PortIx} {r : ReqId} {f : LinkUnit → LinkUnit} (h : s.AccountInRange p r)
    (before : s.links[p].state = .active ∨ s.links[p].state = .retrain)
    (after : (f s.links[p]).state = .active ∨ (f s.links[p]).state = .retrain)
    (mode : (f s.links[p]).mode = s.links[p].mode) (credit : (f s.links[p]).recvCredit = s.links[p].recvCredit) :
    (s.modLink p f).AccountInRange p r := by
  obtain ⟨hcredit, hgrant, hforce, hsum, -, -, hmode⟩ := h
  simp only [State.AccountInRange, State.modLink_stages, modLink_get, mode, credit]
  refine ⟨hcredit, hgrant, hforce, fun _ => hsum before, fun ha hr => ?_, fun k => ?_, hmode⟩
  · rcases after with k | k
    · exact absurd k ha
    · exact absurd k hr
  · rcases after with a | a <;> rcases k with k | k <;> rw [a] at k <;> cases k

theorem enterRetrain_inRange {s : State} {p : PortIx} (h : s.InRange) (ha : s.links[p].state = .active) :
    (s.enterRetrain p).InRange := by
  refine (modCounters_quiet _ p _).inRange (inRange_modLink h ?_ fun r => ?_)
  · obtain ⟨hretry, hcount, hack, -, hcredit, hhealth, -⟩ := h.1 p
    refine ⟨hretry, hcount, hack, ?_, hcredit, hhealth, fun _ => rfl⟩
    rintro k ⟨⟩
    decide
  · exact account_of_session (h.2.1 p r) (.inl ha) (.inr rfl) rfl rfl

theorem countedReplay_inRange {s : State} {p : PortIx} (h : s.InRange) (ha : s.links[p].state = .active) (q : Seq) :
    (s.countedReplay p q).InRange := by
  unfold State.countedReplay
  split
  · next hlow =>
    have raised : Quiet s (s.modLink p fun u => { u with replayCount := u.replayCount + 1 }) := by
      refine modLink_quiet s p ⟨rfl, rfl, rfl⟩ ?_
      rintro ⟨hretry, -, rest⟩
      exact ⟨hretry, hlow, rest⟩
    refine Quiet.inRange ((raised.trans (modCounters_quiet _ p _)).trans (startReplay_quiet _ ?_ q)) h
    simpa [State.modCounters] using ha
  · exact enterRetrain_inRange h ha

theorem replayFrom_inRange {s : State} {p : PortIx} (h : s.InRange) (ha : s.links[p].state = .active) (q : Seq) :
    (s.replayFrom p q).InRange := by
  have progress : Quiet s (if s.links[p].ahead q = 0 then s else s.ackProgress p (s.links[p].ahead q)) :=
    .ite .rfl_ (ackProgress_quiet s ha _)
  have replayed {t : State} (k : Quiet s t) : (if t.links[p].retry.isEmpty then t else t.countedReplay p q).InRange := by
    split
    · exact k.inRange h
    · exact countedReplay_inRange (k.inRange h) ((k.ports p).1.trans ha) q
  exact replayed progress

theorem retrainSuccess_inRange {s : State} {p : PortIx} (h : s.InRange) (hr : s.links[p].state = .retrain) (q : Seq) :
    (s.retrainSuccess p q).InRange := by
  have resumed : (s.modLink p fun u => { u.dropAcked (u.ahead q) with
      state := .active, replayCount := 0, ackOwed := 0, trainTimer := none, attempt := none, trnOwed := none }).InRange := by
    refine inRange_modLink h ?_ fun r => account_of_session (h.2.1 p r) (.inr hr) (.inl rfl) rfl rfl
    obtain ⟨hretry, -, -, -, hcredit, hhealth, -⟩ := (h.1 p).dropAcked (s.links[p].ahead q)
    refine ⟨hretry, Nat.zero_le _, Nat.zero_le _, ?_, hcredit, hhealth, fun k => absurd rfl k⟩
    rintro k ⟨⟩
  unfold State.retrainSuccess
  dsimp only
  split
  · exact resumed
  · exact (startReplay_quiet _ (by simp) q).inRange resumed

/-! ### A port emptied and restarted -/

/-- Everything is in range besides the accounts of port `p`, which keep their bounds and hold nothing on a port that takes no
requests. -/
def State.PortBounded (s : State) (p : PortIx) : Prop :=
  s.CoreInRange ∧ (∀ q, q ≠ p → ∀ r, s.AccountInRange q r)
    ∧ ∀ r : ReqId, let e := (s.stages[p]).requesters[r]
      s.links[p].recvCredit[r] ≤ Config.ingressSlots ∧ e.grant ≤ Config.ingressSlots ∧ e.inForce ≤ Config.ingressSlots
        ∧ (takesRequests s.links[p].mode = false → e.inForce = 0 ∧ e.queue = [] ∧ e.owed = 0)

/-- The same, with nothing queued or owed at port `p`. -/
def State.PortEmptied (s : State) (p : PortIx) : Prop :=
  s.PortBounded p ∧ ∀ r : ReqId, ((s.stages[p]).requesters[r]).queue = [] ∧ ((s.stages[p]).requesters[r]).owed = 0

theorem State.InRange.portBounded {s : State} (h : s.InRange) (p : PortIx) : s.PortBounded p := by
  obtain ⟨core, accounts⟩ := inRange_iff.mp h
  refine ⟨core, fun q _ r => accounts q r, fun r => ?_⟩
  obtain ⟨hcredit, hgrant, hforce, hsum, hidle, -, hmode⟩ := accounts p r
  refine ⟨hcredit, hgrant, hforce, fun m => ?_⟩
  have zero := hmode m
  refine ⟨zero, ?_⟩
  by_cases hs : s.links[p].state = .active ∨ s.links[p].state = .retrain
  · have sum := hsum hs
    exact ⟨List.eq_nil_of_length_eq_zero (by omega), by omega⟩
  · exact hidle (fun k => hs (.inl k)) (fun k => hs (.inr k))

theorem Quiet.portBounded {s t : State} (h : Quiet s t) {p : PortIx} (b : s.PortBounded p) : t.PortBounded p := by
  obtain ⟨core, others, bounds⟩ := b
  obtain ⟨-, hmode, hcredit, hreq⟩ := h.ports p
  refine ⟨h.core core, fun q hq r => (h.ports q).account (others q hq r), ?_⟩
  simpa only [hmode, hcredit, hreq] using bounds

theorem Quiet.portEmptied {s t : State} (h : Quiet s t) {p : PortIx} (b : s.PortEmptied p) : t.PortEmptied p := by
  refine ⟨h.portBounded b.1, ?_⟩
  simpa only [(h.ports p).2.2.2] using b.2

/-- Reading a requester entry after every one of its port changed. -/
@[simp] theorem modRequesters_get (s : State) (p : PortIx) (f : Requester → Requester) (r : ReqId) :
    (((s.modRequesters p f).stages[p]).requesters[r]) = f (((s.stages[p]).requesters)[r]) := by
  simp [State.modRequesters]

/-- The stages of the other ports stand when every requester entry of a port changes. -/
theorem modRequesters_other (s : State) {p q : PortIx} (f : Requester → Requester) (h : q ≠ p) :
    (s.modRequesters p f).stages[q] = s.stages[q] := by
  simp [State.modRequesters, Ne.symm h]

/-- Changing every requester entry of a port leaves the accounts of the others in range. -/
theorem modRequesters_others {s : State} {p : PortIx} (f : Requester → Requester)
    (h : ∀ q, q ≠ p → ∀ r, s.AccountInRange q r) : ∀ q, q ≠ p → ∀ r, (s.modRequesters p f).AccountInRange q r :=
  fun q hq r => SamePort.account (s := s) (t := s.modRequesters p f) ⟨rfl, rfl, rfl, by rw [modRequesters_other s f hq]⟩ (h q hq r)

/-- Giving up the ingress side empties a bounded port; a port that takes no requests is empty already. -/
theorem giveUp_portEmptied {s : State} {p : PortIx} (b : s.PortBounded p) :
    (if takesRequests s.links[p].mode then s.giveUpIngress p else s).PortEmptied p := by
  obtain ⟨core, others, bounds⟩ := b
  split
  · next hm =>
    refine (orphanPort_quiet _ p).portEmptied ⟨⟨core, modRequesters_others _ others, fun r => ?_⟩, fun r => ?_⟩
    · obtain ⟨hcredit, hgrant, hforce, -⟩ := bounds r
      dsimp only
      rw [modRequesters_get]
      exact ⟨hcredit, hgrant, hforce, fun k => absurd hm (by rw [show takesRequests s.links[p].mode = false from k]; decide)⟩
    · rw [modRequesters_get]; exact ⟨rfl, rfl⟩
  · next hm =>
    exact ⟨⟨core, others, bounds⟩, fun r => ((bounds r).2.2.2 (by simpa using hm)).2⟩

/-- Link state, mode and receive credits of every port stand when an ingress side is given up. -/
theorem giveUp_link (s : State) (p q : PortIx) (c : Bool) :
    ((if c then s.giveUpIngress p else s).links[q]).state = s.links[q].state
      ∧ ((if c then s.giveUpIngress p else s).links[q]).mode = s.links[q].mode := by
  split
  · have h := (orphanPort_quiet (s.modRequesters p fun e => { e with queue := [], owed := 0 }) p).ports q
    exact ⟨h.1, h.2.1⟩
  · exact ⟨rfl, rfl⟩

/-- A link unit reset is in range. -/
theorem restarted_inRange {u : LinkUnit} (h : u.InRange) (t : Timer) : (u.restarted t).InRange := by
  obtain ⟨-, -, -, -, -, hhealth, -⟩ := h
  refine ⟨Nat.zero_le _, Nat.zero_le _, Nat.zero_le _, ?_, fun r => ?_, hhealth, fun _ => rfl⟩
  · rintro k ⟨⟩
  · simp [LinkUnit.restarted]

/-- A link unit in FAILED is in range. -/
theorem failing_inRange {u : LinkUnit} (h : u.InRange) : u.failing.InRange := by
  obtain ⟨-, hcount, hack, -, hcredit, hhealth, -⟩ := h
  refine ⟨Nat.zero_le _, hcount, hack, ?_, hcredit, hhealth, fun _ => rfl⟩
  rintro k ⟨⟩

/-- The core ranges after one link unit changes within its own. -/
theorem modLink_core {s : State} {p : PortIx} {f : LinkUnit → LinkUnit} (h : s.CoreInRange)
    (link : (f s.links[p]).InRange) : (s.modLink p f).CoreInRange := by
  refine ⟨fun q => ?_, h.2⟩
  by_cases hq : p = q
  · subst hq; simpa using link
  · simpa [hq] using h.1 q

/-- The accounts of the other ports after one link unit changes. -/
theorem modLink_others {s : State} {p : PortIx} (f : LinkUnit → LinkUnit)
    (h : ∀ q, q ≠ p → ∀ r, s.AccountInRange q r) : ∀ q, q ≠ p → ∀ r, (s.modLink p f).AccountInRange q r :=
  fun q hq r => SamePort.account (by simp [SamePort, Ne.symm hq]) (h q hq r)

/-- A target never passes the grant, and is 0 on a port that takes no requests. -/
theorem target_le (e : Requester) (m : PortMode) : e.target m ≤ e.grant := by
  unfold Requester.target
  split <;> omega

theorem target_of_takes_none (e : Requester) {m : PortMode} (h : takesRequests m = false) : e.target m = 0 := by
  simp [Requester.target, h]

/-- The link reset of an emptied port brings it into range, whatever mode is put in force before. -/
theorem resetUnit_inRange {s : State} {p : PortIx} (m : PortMode) (h : s.PortEmptied p) :
    ((s.modLink p fun u => { u with mode := m }).resetUnit p).InRange := by
  obtain ⟨⟨core, others, bounds⟩, empty⟩ := h
  have moded : (s.modLink p fun u => { u with mode := m }).CoreInRange := modLink_core core (core.1 p)
  have reset := modLink_core (f := fun u => u.restarted (s.timer s.settings.trainTimeout)) moded
    (restarted_inRange (moded.1 p) _)
  refine (modStage_quiet _ p (f := fun g => { g with lastDispatched := 15 }) (by intro; rfl)).inRange
    (inRange_iff.mpr ⟨reset, fun q r => ?_⟩)
  by_cases hq : q = p
  · subst hq
    obtain ⟨-, hgrant, -, -⟩ := bounds r
    have hlow := target_le ((s.stages[q]).requesters[r]) m
    have hnone := target_of_takes_none ((s.stages[q]).requesters[r]) (m := m)
    unfold State.AccountInRange
    dsimp only
    rw [modRequesters_get]
    simp only [State.modRequesters, State.modStage_links, State.modLink_links, mapAt_mapAt, Fin.getElem_fin, mapAt_get_self,
      LinkUnit.restarted, State.modLink_stages, Vector.getElem_replicate]
    simp only [Fin.getElem_fin] at hgrant hlow hnone
    refine ⟨Nat.zero_le _, hgrant, hlow.trans hgrant, fun k => ?_, fun _ _ => ⟨(empty r).1, trivial⟩, fun _ => trivial, hnone⟩
    cases m <;> simp at k
  · exact modRequesters_others _ (modLink_others _ (modLink_others _ others)) q hq r

theorem markStale_quiet (s : State) (p : PortIx) : Quiet s (s.markStale p) := ott_quiet s _

theorem linkReset_inRange {s : State} (h : s.InRange) (p : PortIx) : (s.linkReset p).InRange := by
  unfold State.linkReset
  dsimp only
  have cleared := (markStale_quiet _ p).portEmptied (giveUp_portEmptied (h.portBounded p))
  set s2 : State := State.markStale _ p
  have lost : (if carriesLegs s.links[p].mode then s2.portLoss p false else s2).PortEmptied p := by
    split
    · exact (portLoss_quiet _ p _).portEmptied cleared
    · exact cleared
  set s3 : State := if carriesLegs s.links[p].mode then s2.portLoss p false else s2
  have kept := resetUnit_inRange s3.links[p].mode lost
  rwa [show (s3.modLink p fun u => { u with mode := s3.links[p].mode }) = s3 by
    rw [State.modLink, mapAt_of_fixed rfl]] at kept

theorem changeMode_inRange {s : State} (h : s.InRange) (p : PortIx) (m : PortMode) : (s.changeMode p m).InRange := by
  unfold State.changeMode
  dsimp only
  have cleared := (markStale_quiet _ p).portEmptied (giveUp_portEmptied (h.portBounded p))
  refine resetUnit_inRange m ?_
  split
  · exact (portLoss_quiet _ p _).portEmptied cleared
  · exact cleared

/-- An emptied port whose link is FAILED is in range. -/
theorem inRange_of_failed {s : State} {p : PortIx} (h : s.PortEmptied p) (hf : s.links[p].state = .failed) : s.InRange := by
  obtain ⟨⟨core, others, bounds⟩, empty⟩ := h
  refine inRange_iff.mpr ⟨core, fun q r => ?_⟩
  by_cases hq : q = p
  · subst hq
    obtain ⟨hcredit, hgrant, hforce, hmode⟩ := bounds r
    refine ⟨hcredit, hgrant, hforce, fun k => ?_, fun _ _ => empty r, fun k => ?_, fun k => (hmode k).1⟩ <;>
      simp only [hf, reduceCtorEq, or_self] at k
  · exact others q hq r

theorem enterFailed_inRange {s : State} (h : s.InRange) (p : PortIx) : (s.enterFailed p).InRange := by
  unfold State.enterFailed
  dsimp only
  obtain ⟨core, others, bounds⟩ := h.portBounded p
  have failed : (s.modLink p LinkUnit.failing).PortBounded p := by
    refine ⟨modLink_core core (failing_inRange (core.1 p)), modLink_others _ others, ?_⟩
    simpa [LinkUnit.failing] using bounds
  have cleared := giveUp_portEmptied failed
  have state : (s.modLink p LinkUnit.failing).links[p].state = .failed := by simp [LinkUnit.failing]
  have mode : takesRequests (s.modLink p LinkUnit.failing).links[p].mode = takesRequests s.links[p].mode := by
    simp [LinkUnit.failing]
  rw [mode] at cleared
  have gone := (giveUp_link (s.modLink p LinkUnit.failing) p p (takesRequests s.links[p].mode)).1.trans state
  set s2 : State := if takesRequests s.links[p].mode then _ else _
  have done {t : State} (q : Quiet s2 t) : t.InRange := inRange_of_failed (q.portEmptied cleared) ((q.ports p).1.trans gone)
  split
  · exact done (portLoss_quiet _ p _)
  · exact done (raise_quiet _ _ _)

/-! ### Training -/

theorem trainingComplete_inRange {s : State} {p : PortIx} (h : s.InRange) (ht : s.links[p].state = .training) :
    (s.trainingComplete p).InRange := by
  refine (restoreDone_quiet _ p).inRange (inRange_of_port h (p := p) ?_ (fun q hq => ?_) ?_ fun r => ?_)
  · exact ((modLink_frame s p _).mono (by simp)).trans ((modRequesters_frame _ p _).mono (by simp))
  · rw [modRequesters_other _ _ hq]
    exact ⟨by simp [State.modRequesters, Ne.symm hq], rfl⟩
  · obtain ⟨-, -, -, hattempt, hcredit, hhealth, -⟩ := h.1 p
    have trained : s.links[p].trained.InRange :=
      ⟨Nat.zero_le _, Nat.zero_le _, Nat.zero_le _, hattempt, hcredit, hhealth, fun _ => rfl⟩
    simpa only [State.modRequesters, State.modStage_links, modLink_get] using trained
  · obtain ⟨hcredit, hgrant, hforce, -, hidle, hnone, hmode⟩ := h.2.1 p r
    have queue := (hidle (by rw [ht]; decide) (by rw [ht]; decide)).1
    have credit := hnone (.inl ht)
    unfold State.AccountInRange
    dsimp only
    rw [modRequesters_get]
    simp only [State.modRequesters, State.modStage_links, State.modLink_links, State.modLink_stages, Fin.getElem_fin,
      mapAt_get_self, LinkUnit.trained] at *
    exact ⟨hcredit, hgrant, hforce, fun _ => by simp [queue, credit], fun k => absurd rfl k, by simp, hmode⟩

theorem hearPartner_inRange {s : State} {p : PortIx} (h : s.InRange) (ht : s.links[p].state = .training) :
    (s.hearPartner p).InRange := by
  have heard := (modLink_quiet s p (f := fun u => { u with heard := true }) ⟨rfl, rfl, rfl⟩ id).inRange h
  unfold State.hearPartner
  dsimp only
  split
  · exact trainingComplete_inRange heard (by simpa using ht)
  · exact heard

theorem decideRetrain_inRange {s : State} {p : PortIx} (h : s.InRange) (hr : s.links[p].state = .retrain) (q : Seq) :
    (s.decideRetrain p q).InRange := by
  unfold State.decideRetrain
  dsimp only
  split
  · exact retrainSuccess_inRange h hr q
  · exact enterFailed_inRange h p

/-! ### Credits -/

/-- Reading a requester entry after it changed. -/
@[simp] theorem modRequester_get (s : State) (p : PortIx) (r : ReqId) (f : Requester → Requester) :
    (((s.modRequester p r f).stages[p]).requesters[r]) = f (((s.stages[p]).requesters)[r]) := by
  simp [State.modRequester]

/-- The other requester entries stand when one changes. -/
theorem modRequester_other (s : State) (p : PortIx) {r k : ReqId} (f : Requester → Requester) (h : k ≠ r) :
    (((s.modRequester p r f).stages[p]).requesters[k]) = ((s.stages[p]).requesters)[k] := by
  simp [State.modRequester, Ne.symm h]

/-- The stages of the other ports stand when one requester entry changes. -/
theorem modRequester_otherPort (s : State) {p q : PortIx} (r : ReqId) (f : Requester → Requester) (h : q ≠ p) :
    (s.modRequester p r f).stages[q] = s.stages[q] := by
  simp [State.modRequester, Ne.symm h]

/-- One requester's entry changes, and with it its receive credit: the state is in range when the account is. -/
theorem inRange_of_account {s : State} {p : PortIx} {r : ReqId} {f : Requester → Requester} {g : LinkUnit → LinkUnit}
    (h : s.InRange) (link : (g s.links[p]).InRange)
    (same : (g s.links[p]).state = s.links[p].state ∧ (g s.links[p]).mode = s.links[p].mode)
    (credit : ∀ k, k ≠ r → (g s.links[p]).recvCredit[k] = s.links[p].recvCredit[k])
    (account : ((s.modRequester p r f).modLink p g).AccountInRange p r) : ((s.modRequester p r f).modLink p g).InRange := by
  refine inRange_of_port h (p := p) ?_ (fun q hq => ?_) (by simpa [State.modRequester] using link) fun k => ?_
  · exact ((modRequester_frame s p r f).mono (by simp)).trans ((modLink_frame _ p g).mono (by simp))
  · simp only [State.modLink_stages, modRequester_otherPort s r f hq]
    simp [State.modRequester, Ne.symm hq]
  · by_cases hk : k = r
    · exact hk ▸ account
    · have old := h.2.1 p k
      have req := modRequester_other s p f hk
      simp only [State.AccountInRange, State.modLink_stages, State.modLink_links, req] at old ⊢
      simp only [State.modRequester, State.modStage_links, Fin.getElem_fin, mapAt_get_self] at *
      simpa only [same.1, same.2, credit k hk] using old

/-- A change of one requester's entry alone. -/
theorem inRange_modRequester {s : State} {p : PortIx} {r : ReqId} {f : Requester → Requester} (h : s.InRange)
    (account : (s.modRequester p r f).AccountInRange p r) : (s.modRequester p r f).InRange := by
  have id_ (t : State) : (t.modLink p fun u => u) = t := by simp [State.modLink]
  have := inRange_of_account (f := f) (g := fun u => u) h (h.1 p) ⟨rfl, rfl⟩ (fun _ _ => rfl) (by rwa [id_])
  rwa [id_] at this

/-- Freeing a credit of a request that was counted keeps the account's sum. -/
theorem freeCredit_sum (e : Requester) (m : PortMode) {n : Nat} (h : n + 1 + e.owed = e.inForce) :
    n + (e.freeCredit m).owed = (e.freeCredit m).inForce := by
  unfold Requester.freeCredit
  split <;> dsimp only <;> omega

theorem freeCredit_inForce_le (e : Requester) (m : PortMode) : (e.freeCredit m).inForce ≤ e.inForce := by
  unfold Requester.freeCredit
  split <;> dsimp only <;> omega

@[simp] theorem freeCredit_queue (e : Requester) (m : PortMode) : (e.freeCredit m).queue = e.queue := by
  unfold Requester.freeCredit
  split <;> rfl

@[simp] theorem freeCredit_grant (e : Requester) (m : PortMode) : (e.freeCredit m).grant = e.grant := by
  unfold Requester.freeCredit
  split <;> rfl

/-- In ACTIVE and RETRAIN an account is in range when its bounds hold and its sum is the credit in force. -/
theorem account_of_sum {s : State} {p : PortIx} {r : ReqId}
    (session : s.links[p].state = .active ∨ s.links[p].state = .retrain)
    (grant : ((s.stages[p]).requesters[r]).grant ≤ Config.ingressSlots)
    (force : ((s.stages[p]).requesters[r]).inForce ≤ Config.ingressSlots)
    (sum : s.links[p].recvCredit[r] + ((s.stages[p]).requesters[r]).queue.length + ((s.stages[p]).requesters[r]).owed
      = ((s.stages[p]).requesters[r]).inForce)
    (mode : takesRequests s.links[p].mode = false → ((s.stages[p]).requesters[r]).inForce = 0) : s.AccountInRange p r := by
  refine ⟨by omega, grant, force, fun _ => sum, fun ha hr => ?_, fun k => ?_, mode⟩
  · rcases session with k | k
    · exact absurd k ha
    · exact absurd k hr
  · rcases session with a | a <;> rcases k with k | k <;> rw [a] at k <;> cases k

theorem departHead_inRange {s : State} {p : PortIx} {r : ReqId} (h : s.InRange)
    (head : ((s.stages[p]).requesters[r]).queue ≠ []) : (s.departHead p r).InRange := by
  obtain ⟨-, hgrant, hforce, hsum, hidle, -, hmode⟩ := h.2.1 p r
  have session : s.links[p].state = .active ∨ s.links[p].state = .retrain := by
    by_contra k
    exact head (hidle (fun a => k (.inl a)) fun a => k (.inr a)).1
  refine (modStage_quiet _ p (by intro; rfl)).inRange (inRange_modRequester h ?_)
  set e := (s.stages[p]).requesters[r] with he
  have counted : s.links[p].recvCredit[r] + e.queue.tail.length + 1 + e.owed = e.inForce := by
    have pos : 0 < e.queue.length := List.length_pos_iff.mpr head
    have total := hsum session
    rw [List.length_tail]
    omega
  have sum := freeCredit_sum { e with queue := e.queue.tail } s.links[p].mode counted
  have low := freeCredit_inForce_le { e with queue := e.queue.tail } s.links[p].mode
  refine account_of_sum session ?_ ?_ ?_ fun k => ?_ <;> rw [modRequester_get, ← he]
  · exact (freeCredit_grant _ _).trans_le hgrant
  · exact low.trans hforce
  · rw [freeCredit_queue]; exact sum
  · have zero : e.inForce = 0 := hmode k
    dsimp only at low ⊢
    omega

theorem takeHead_inRange {s : State} {p : PortIx} {r : ReqId} (h : s.InRange)
    (head : ((s.stages[p]).requesters[r]).queue ≠ []) (q : Request) : (s.takeHead p r q).InRange := by
  have departed := departHead_inRange h head
  have answered (st : Status) : (s.answerHead p r q st).InRange :=
    ((respond_quiet _ _ _ _ _ _ _).trans (countRefused_quiet _ _ _)).inRange departed
  unfold State.takeHead
  dsimp only
  split
  · exact answered _
  · exact answered _
  · exact answered _
  · exact (dispatchRoute_quiet _ _ _ _ _ _ _).inRange departed

/-- The dispatcher takes the head of a sub-queue that is not empty. -/
theorem nextHead_queue {s : State} {p : PortIx} {r : ReqId} {q : Request} (h : s.nextHead p = some (r, q)) :
    ((s.stages[p]).requesters[r]).queue ≠ [] := by
  obtain ⟨k, -, hk⟩ := List.exists_of_findSome?_eq_some h
  split at hk
  · cases hk
  · next m hm =>
    split at hk
    · cases hk
    · cases hk
      intro empty
      rw [State.headRequest, empty] at hm
      cases hm

theorem takeRequest_inRange {s : State} {p : PortIx} {q : Request} (h : s.InRange) (ha : s.links[p].state = .active)
    (credit : 1 ≤ s.links[p].recvCredit[q.reqId]) :
    (((s.modLink p fun u => { u with recvCredit := mapAt u.recvCredit q.reqId fun c => c - 1 }).takeRequest p q)).InRange := by
  obtain ⟨-, hgrant, hforce, hsum, -, -, hmode⟩ := h.2.1 p q.reqId
  have sum := hsum (.inl ha)
  -- the two updates touch different tables, so either may come first
  have swap (f : Requester → Requester) (g : LinkUnit → LinkUnit) :
      (s.modLink p g).modRequester p q.reqId f = (s.modRequester p q.reqId f).modLink p g := rfl
  have step (f : Requester → Requester) (grant : (f ((s.stages[p]).requesters)[q.reqId]).grant
        = (((s.stages[p]).requesters)[q.reqId]).grant)
      (low : (f ((s.stages[p]).requesters)[q.reqId]).inForce ≤ (((s.stages[p]).requesters)[q.reqId]).inForce)
      (total : s.links[p].recvCredit[q.reqId] - 1 + (f ((s.stages[p]).requesters)[q.reqId]).queue.length
        + (f ((s.stages[p]).requesters)[q.reqId]).owed = (f ((s.stages[p]).requesters)[q.reqId]).inForce) :
      ((s.modLink p fun u => { u with recvCredit := mapAt u.recvCredit q.reqId fun c => c - 1 }).modRequester p q.reqId
        f).InRange := by
    rw [swap]
    refine inRange_of_account h (h.1 p) ⟨rfl, rfl⟩ (fun k hk => by simp [Ne.symm hk]) (account_of_sum ?_ ?_ ?_ ?_ fun k => ?_)
    · exact .inl (by simpa [State.modRequester] using ha)
    · rw [State.modLink_stages, modRequester_get, grant]; exact hgrant
    · rw [State.modLink_stages, modRequester_get]; exact low.trans hforce
    · rw [State.modLink_stages, modRequester_get]
      simpa [State.modRequester] using total
    · rw [State.modLink_stages, modRequester_get]
      have zero := hmode (by simpa [State.modRequester] using k)
      omega
  unfold State.takeRequest
  dsimp only
  split
  · refine step _ rfl le_rfl ?_
    simp only [List.length_append, List.length_singleton]
    omega
  · refine (respond_quiet _ _ _ _ _ _ _).inRange (step _ (freeCredit_grant _ _) (freeCredit_inForce_le _ _) ?_)
    rw [freeCredit_queue]
    exact freeCredit_sum _ _ (by omega)

theorem receiveRequest_inRange {s : State} (h : s.InRange) (p : PortIx) (n : Seq) (q : Request) :
    (s.receiveRequest p n q).InRange := by
  unfold State.receiveRequest
  dsimp only
  split
  · next ha =>
    split
    · split
      · next hc =>
        have accepted := acceptPayload_quiet s p
        refine takeRequest_inRange (accepted.inRange h) ((accepted.ports p).1.trans ha) ?_
        rw [(accepted.ports p).2.2.1]
        simpa using (Bool.and_eq_true_iff.mp hc).2
      · exact (overrun_quiet s p).inRange h
    · exact (outOfSequence_quiet s p).inRange h
  · exact h

/-! ### The transmit arbiter -/

/-- The arbiter sends a CRED, an LNAK, a LACK, a replay or new payload only in ACTIVE, and new payload only with room in the
retry buffer (R4). -/
theorem chooseSend_cases (s : State) (p : PortIx) :
    (∃ v, s.chooseSend p = .trnr v) ∨ (∃ f, s.chooseSend p = .trn f) ∨ s.chooseSend p = .nothing
      ∨ s.links[p].state = .active ∧ ∀ m, s.chooseSend p = .payload m → s.links[p].retry.length < Config.retryBufferSize := by
  unfold State.chooseSend
  dsimp only
  split
  · split
    · exact .inl ⟨_, rfl⟩
    · split
      · exact .inr (.inl ⟨_, rfl⟩)
      · split
        · next ha =>
          refine .inr (.inr (.inr ⟨ha, fun m hm => ?_⟩))
          unfold State.chooseActive at hm
          dsimp only at hm
          grind
        · exact .inr (.inr (.inl rfl))
  · exact .inr (.inr (.inl rfl))

/-- A change of the fields the arbiter writes besides the buffer is quiet. -/
theorem emit_quiet (s : State) {p : PortIx} {f : LinkUnit → LinkUnit}
    (keeps : (f s.links[p]).state = s.links[p].state ∧ (f s.links[p]).mode = s.links[p].mode
      ∧ (f s.links[p]).recvCredit = s.links[p].recvCredit)
    (same : (f s.links[p]).retry = s.links[p].retry ∧ (f s.links[p]).replayCount = s.links[p].replayCount
      ∧ (f s.links[p]).ackOwed ≤ s.links[p].ackOwed ∧ (f s.links[p]).attempt = s.links[p].attempt
      ∧ (f s.links[p]).sendCredit = s.links[p].sendCredit ∧ (f s.links[p]).health = s.links[p].health
      ∧ (f s.links[p]).replayTimer = s.links[p].replayTimer) : Quiet s (s.modLink p f) := by
  refine modLink_quiet s p keeps ?_
  obtain ⟨hretry, hcount, hack, hattempt, hcredit, hhealth, htimer⟩ := same
  simp only [LinkUnit.InRange, hretry, hcount, hattempt, hcredit, hhealth, htimer, keeps.1]
  rintro ⟨h1, h2, h3, h4⟩
  exact ⟨h1, h2, hack.trans h3, h4⟩

theorem send_inRange {s : State} (h : s.InRange) (p : PortIx) : (s.send p (s.chooseSend p)).InRange := by
  have choice := chooseSend_cases s p
  cases hc : s.chooseSend p with
  | trnr v => exact (emit_quiet s ⟨rfl, rfl, rfl⟩ ⟨rfl, rfl, le_rfl, rfl, rfl, rfl, rfl⟩).inRange h
  | trn f => exact (emit_quiet s ⟨rfl, rfl, rfl⟩ ⟨rfl, rfl, le_rfl, rfl, rfl, rfl, rfl⟩).inRange h
  | lnak => exact (emit_quiet s ⟨rfl, rfl, rfl⟩ ⟨rfl, rfl, Nat.zero_le _, rfl, rfl, rfl, rfl⟩).inRange h
  | lack => exact (emit_quiet s ⟨rfl, rfl, rfl⟩ ⟨rfl, rfl, Nat.zero_le _, rfl, rfl, rfl, rfl⟩).inRange h
  | nothing => exact (emit_quiet s ⟨rfl, rfl, rfl⟩ ⟨rfl, rfl, le_rfl, rfl, rfl, rfl, rfl⟩).inRange h
  | replay q =>
    refine (emit_quiet s ?_ ?_).inRange h <;> split
    · exact ⟨rfl, rfl, rfl⟩
    · exact ⟨rfl, rfl, rfl⟩
    · exact ⟨rfl, rfl, le_rfl, rfl, rfl, rfl, rfl⟩
    · exact ⟨rfl, rfl, le_rfl, rfl, rfl, rfl, rfl⟩
  | payload m =>
    obtain ⟨ha, hroom⟩ : s.links[p].state = .active ∧ s.links[p].retry.length < Config.retryBufferSize := by
      simp only [hc, reduceCtorEq, exists_false, false_or] at choice
      exact ⟨choice.1, choice.2 m rfl⟩
    refine (modLink_quiet s p ⟨rfl, rfl, rfl⟩ ?_).inRange h
    rintro ⟨-, hcount, hack, hattempt, hcredit, hhealth, -⟩
    exact ⟨by simpa [LinkUnit.emit] using hroom, hcount, hack, hattempt, hcredit, hhealth, fun k => absurd ha k⟩
  | cred r =>
    have ha : s.links[p].state = .active := by
      simp only [hc, reduceCtorEq, exists_false, false_or] at choice
      exact choice.1
    obtain ⟨-, hgrant, hforce, hsum, -, -, hmode⟩ := h.2.1 p r
    refine inRange_of_account h (h.1 p) ⟨rfl, rfl⟩ (fun k hk => by simp [Ne.symm hk]) (account_of_sum ?_ ?_ ?_ ?_ ?_)
    · exact .inl (by simpa [State.modRequester, LinkUnit.emit] using ha)
    · rw [State.modLink_stages, modRequester_get]; exact hgrant
    · rw [State.modLink_stages, modRequester_get]; exact hforce
    · rw [State.modLink_stages, modRequester_get]
      have sum := hsum (.inl ha)
      simp only [State.modRequester, State.modLink_links, State.modStage_links, Fin.getElem_fin, mapAt_get_self] at sum ⊢
      omega
    · rw [State.modLink_stages, modRequester_get]
      simpa [State.modRequester, LinkUnit.emit] using hmode

end Sys2Proof.Machine

namespace Sys2Proof.Machine

/-! ### Commands -/

/-- A command that answers OK without data leaves the state its rule makes. -/
@[simp] theorem okay_state (s : State) : s.okay.state = s := rfl

/-- A refused command leaves the state. -/
@[simp] theorem refuse_state (s : State) (st : MgmtStatus) : (s.refuse st).state = s := rfl

/-- A credit in force that follows a change of the target keeps the account's sum in ACTIVE and RETRAIN. -/
theorem follow_sum (e : Requester) (old : Nat) (m : PortMode) {st : LinkState} (hs : st = .active ∨ st = .retrain) {n : Nat}
    (h : n + e.owed = e.inForce) : n + (e.follow old m st).owed = (e.follow old m st).inForce := by
  unfold Requester.follow
  dsimp only
  rw [if_pos hs]
  split
  · exact h
  · split <;> dsimp only <;> omega

@[simp] theorem follow_queue (e : Requester) (old : Nat) (m : PortMode) (st : LinkState) : (e.follow old m st).queue = e.queue := by
  unfold Requester.follow
  dsimp only
  split_ifs <;> rfl

@[simp] theorem follow_grant (e : Requester) (old : Nat) (m : PortMode) (st : LinkState) : (e.follow old m st).grant = e.grant := by
  unfold Requester.follow
  dsimp only
  split_ifs <;> rfl

/-- The credit in force follows to the target or stays at or below what it was. -/
theorem follow_inForce_le (e : Requester) (old : Nat) (m : PortMode) (st : LinkState) :
    (e.follow old m st).inForce ≤ max e.inForce (e.target m) := by
  unfold Requester.follow
  dsimp only
  split_ifs
  · exact le_max_left _ _
  · exact le_max_right _ _
  · exact (Nat.sub_le _ _).trans (le_max_left _ _)
  · exact le_max_right _ _

/-- Outside ACTIVE and RETRAIN nothing owed stays nothing owed. -/
theorem follow_owed (e : Requester) (old : Nat) (m : PortMode) {st : LinkState} (ha : st ≠ .active) (hr : st ≠ .retrain) :
    (e.follow old m st).owed = e.owed := by
  unfold Requester.follow
  dsimp only
  rw [if_neg (by tauto : ¬ (st = .active ∨ st = .retrain))]
  split <;> rfl

theorem setRequester_inRange {s : State} (h : s.InRange) (port req enable tenant grant : Nat) :
    (s.setRequester port req enable tenant grant).state.InRange := by
  unfold State.setRequester
  split
  · next p r en t _ _ _ _ =>
    split
    · exact h
    · next hargs =>
      split
      · exact h
      · obtain ⟨hcredit, -, hforce, hsum, hidle, hnone, hmode⟩ := h.2.1 p r
        have low : grant ≤ Config.ingressSlots := by
          have : ¬ 64 < grant := fun k => hargs (.inr (.inl k))
          simp only [Config.ingressSlots]; omega
        refine inRange_modRequester h ?_
        unfold State.AccountInRange
        dsimp only
        rw [modRequester_get]
        set e := (s.stages[p]).requesters[r] with he
        set e' : Requester := { e with enabled := en, tenant := t, grant := grant } with he'
        have bound := follow_inForce_le e' (e.target s.links[p].mode) s.links[p].mode s.links[p].state
        have target := target_le e' s.links[p].mode
        refine ⟨hcredit, ?_, ?_, fun session => ?_, fun ha hr => ?_, hnone, fun m => ?_⟩
        · rw [follow_grant]; exact low
        · exact bound.trans (max_le hforce (target.trans low))
        · rw [follow_queue]; exact follow_sum e' _ _ session (hsum session)
        · rw [follow_queue, follow_owed e' _ s.links[p].mode (st := s.links[p].state) ha hr]; exact hidle ha hr
        · have zero : e'.inForce = 0 := hmode m
          have none := target_of_takes_none e' (m := s.links[p].mode) m
          omega
  · exact h

theorem setPortMode_inRange {s : State} (h : s.InRange) (port mode : Nat) : (s.setPortMode port mode).state.InRange := by
  unfold State.setPortMode
  split
  · split
    · exact h
    · split
      · exact h
      · exact changeMode_inRange h _ _
  · exact h

/-- A tenant record whose state becomes or stays ACTIVE where it is tenant 0's. -/
theorem modTenant_inRange {s : State} (h : s.InRange) (t : TenantIx) {f : Tenant → Tenant}
    (active : t = 0 → (f s.tenants[t]).state = .active) : (s.modTenant t f).InRange := by
  obtain ⟨hlinks, haccounts, hcauses, hhold, htenant⟩ := h
  refine ⟨hlinks, haccounts, hcauses, hhold, ?_⟩
  simp only [State.FabricTenantActive, State.modTenant_tenants, Fin.getElem_fin, mapAt_get] at htenant active ⊢
  split
  · next ht => subst ht; exact active rfl
  · exact htenant

theorem setTenant_inRange {s : State} (h : s.InRange) (tenant card profile present ceiling cap floor : Nat) :
    (s.setTenant tenant card profile present ceiling cap floor).state.InRange := by
  unfold State.setTenant
  split
  · split
    · exact h
    · split
      · exact h
      · exact ((retune_quiet _ _).trans (ceilingAfterSetting_quiet _ _)).inRange (modTenant_inRange h _ fun _ => rfl)
  · exact h

theorem removeTenant_inRange {s : State} (h : s.InRange) (tenant : Nat) : (s.removeTenant tenant).state.InRange := by
  unfold State.removeTenant
  split
  · next t _ =>
    split
    · exact h
    · next ht =>
      split
      · exact h
      · split
        · exact h
        · split
          · exact h
          · exact (((startJob_frame _ _).quiet (by decide)).trans (closer_quiet _ _)).inRange
              (modTenant_inRange h t fun k => absurd k ht)
  · exact h

theorem setProfile_quiet (s : State) (profile level openWidth closedWidth : Nat) :
    Quiet s (s.setProfile profile level openWidth closedWidth).state := by
  unfold State.setProfile
  split
  · split
    · exact .rfl_
    · refine .trans (SameExcept.quiet (parts := [.profiles]) ?_ (by decide)) (.foldl (fun s t => resumePacing_quiet s t) _ _)
      exact fun x h => by cases x <;> first | rfl | exact absurd (by simp) h
  · exact .rfl_

theorem setRateCard_quiet (s : State) (card rr wr surcharge rounding carry : Nat) :
    Quiet s (s.setRateCard card rr wr surcharge rounding carry).state := by
  unfold State.setRateCard
  split
  · split
    · exact .rfl_
    · refine SameExcept.quiet (parts := [.cards]) ?_ (by decide)
      exact fun x h => by cases x <;> first | rfl | exact absurd (by simp) h
  · exact .rfl_

theorem adjustTenant_quiet (s : State) (tenant : Nat) (amount : Int) : Quiet s (s.adjustTenant tenant amount).state := by
  unfold State.adjustTenant
  split
  · split
    · exact .rfl_
    · split
      · exact .rfl_
      · have adjusted (t : TenantIx) (n : Int) : Quiet s (s.modTenant t fun r => { r with adj := n }) :=
          modTenant_quiet s t (by intro; rfl)
        exact .ite (adjusted _ _) ((adjusted _ _).trans (markOverflow_quiet _ _))
  · exact .rfl_

theorem clearSticky_quiet (s : State) (tenant : Nat) : Quiet s (s.clearSticky tenant).state := by
  unfold State.clearSticky
  split
  · split
    · exact .rfl_
    · exact modTenant_quiet s _ (by intro; rfl)
  · exact .rfl_

/-- New settings are quiet. -/
theorem settings_quiet (s : State) (x : Settings) : Quiet s { s with settings := x } :=
  SameExcept.quiet (parts := [.settings]) (fun x h => by cases x <;> first | rfl | exact absurd (by simp) h) (by decide)

theorem setTiming_quiet (s : State) (retry train completion relief limitPort limit : Nat) :
    Quiet s (s.setTiming retry train completion relief limitPort limit).state := by
  unfold State.setTiming
  split
  · split
    · exact (settings_quiet s _).trans (.foldl (fun s p => modStage_quiet s p (by intro; rfl)) _ _)
    · exact .rfl_
  · exact .rfl_

theorem setMarks_quiet (s : State) (weak recover backlog latency share : Nat) :
    Quiet s (s.setMarks weak recover backlog latency share).state := by
  have tested (t : State) : Quiet t ((List.finRange 16).foldl (fun s p => s.testHealth p) t) :=
    .foldl (fun s p => testHealth_quiet s p) _ t
  unfold State.setMarks
  split
  · rw [okay_state]
    exact (settings_quiet s _).trans (tested _)
  · exact .rfl_

theorem setEpoch_quiet (s : State) (period : Nat) : Quiet s (s.setEpoch period).state := by
  unfold State.setEpoch
  split
  · exact .rfl_
  · exact closer_quiet s _

theorem setBillingRing_quiet (s : State) (base n producer consumer : Nat) :
    Quiet s (s.setBillingRing base n producer consumer).state := by
  unfold State.setBillingRing
  split
  · split
    · exact .rfl_
    · exact (ring_quiet s _).trans ((issueIndex_frame _).quiet (by decide))
  · exact .rfl_

theorem clearWindow_quiet (s : State) (window : Nat) : Quiet s (s.clearWindow window).state := by
  unfold State.clearWindow
  split
  · dsimp only
    split
    · exact .rfl_
    · exact modWindow_quiet s _ _
  · exact .rfl_

theorem setWindow_quiet (s : State) (window tenant base length access pp pb pi present mp mb mi : Nat) :
    Quiet s (s.setWindow window tenant base length access pp pb pi present mp mb mi).state := by
  unfold State.setWindow
  split
  · dsimp only
    split_ifs
    · exact .rfl_
    · exact .rfl_
    · exact .rfl_
    · exact modWindow_quiet s _ _
  · exact .rfl_

theorem enableWindow_quiet (s : State) (window : Nat) : Quiet s (s.enableWindow window).state := by
  unfold State.enableWindow
  split
  · dsimp only
    split_ifs
    · exact .rfl_
    · exact .rfl_
    · exact .rfl_
    · exact modWindow_quiet s _ _
  · exact .rfl_

theorem disableWindow_quiet (s : State) (window : Nat) : Quiet s (s.disableWindow window).state := by
  unfold State.disableWindow
  split
  · split
    · exact .rfl_
    · exact modWindow_quiet s _ _
  · exact .rfl_

theorem closeEpoch_quiet (s : State) : Quiet s s.closeEpoch.state := by
  unfold State.closeEpoch
  split
  · exact ((startJob_frame _ _).quiet (by decide)).trans (startFullWalk_quiet _ true)
  · exact .rfl_

theorem beginRebuild_quiet (s : State) (w : WindowIx) (side : Side) : Quiet s (s.beginRebuild w side) := by
  unfold State.beginRebuild
  dsimp only
  refine .trans (.trans ?_ (setLeg_quiet _ w side .rebuilding)) ((fillSlots_frame _).quiet (by decide))
  exact copy_quiet s _

theorem startRebuild_quiet (s : State) (window : Nat) : Quiet s (s.startRebuild window).state := by
  unfold State.startRebuild
  split
  · split
    · exact .rfl_
    · dsimp only
      split
      · split
        · rw [okay_state]
          exact ((startJob_frame s .rebuild).quiet (by decide)).trans (beginRebuild_quiet _ _ _)
        · exact .rfl_
      · exact .rfl_
  · exact .rfl_

theorem abortRebuild_quiet (s : State) : Quiet s s.abortRebuild.state := by
  unfold State.abortRebuild
  split
  · exact .rfl_
  · exact .rfl_
  · exact failRebuild_quiet s _

/-- A change of one cause entry is quiet when it leaves detail 0 on a cause that is not pending. -/
theorem modCause_quiet (s : State) (c : Fin 14) {f : CauseEntry → CauseEntry}
    (h : ∀ e, (e.pending = false → e.detail = 0) → (f e).pending = false → (f e).detail = 0) : Quiet s (s.modCause c f) := by
  refine ⟨fun p => .rfl_, ?_⟩
  rintro ⟨links, ⟨entries, depth⟩, rest⟩
  refine ⟨links, ⟨fun k => ?_, depth⟩, rest⟩
  by_cases hk : c = k
  · subst hk
    simpa only [State.modCause, Fin.getElem_fin, mapAt_get_self] using h _ (entries c)
  · simpa [State.modCause, hk] using entries k

theorem readCause_quiet (s : State) : Quiet s s.readCause.state := by
  unfold State.readCause
  split
  · exact modCause_quiet s _ fun _ _ _ => rfl
  · exact .rfl_

theorem writeCauseEnable_quiet (s : State) (cause : Nat) (on : Bool) : Quiet s (s.writeCauseEnable cause on).state := by
  unfold State.writeCauseEnable
  split
  · split
    · exact .rfl_
    · exact modCause_quiet s _ fun _ h => h
  · exact .rfl_

/-- A hold depth of at most 15 is quiet. -/
theorem withHoldDepth_quiet (s : State) {n : Nat} (h : s.causes.holdDepth ≤ Config.holdDepthMax → n ≤ Config.holdDepthMax) :
    Quiet s (s.withHoldDepth n) := by
  refine ⟨fun p => .rfl_, ?_⟩
  rintro ⟨links, ⟨entries, depth⟩, rest⟩
  exact ⟨links, ⟨entries, h depth⟩, rest⟩

theorem holdAlert_quiet (s : State) : Quiet s s.holdAlert.state := by
  unfold State.holdAlert
  split
  · next h => exact withHoldDepth_quiet s fun _ => h
  · exact .rfl_

theorem releaseAlert_quiet (s : State) : Quiet s s.releaseAlert.state :=
  withHoldDepth_quiet s fun h => (Nat.sub_le _ _).trans h

theorem restoreLink_inRange {s : State} (h : s.InRange) (port : Nat) : (s.restoreLink port).state.InRange := by
  unfold State.restoreLink
  split
  · split
    · exact h
    · split
      · exact h
      · exact linkReset_inRange ((((startJob_frame s .link).quiet (by decide)).trans (jobs_quiet _ _)).inRange h) _
  · exact h

theorem linkResetCommand_inRange {s : State} (h : s.InRange) (port : Nat) : (s.linkResetCommand port).state.InRange := by
  unfold State.linkResetCommand
  split
  · split
    · exact h
    · exact linkReset_inRange h _
  · exact h

/-! ### Close steps -/

/-- A close step keeps the ranges but for the record it adds, when it leaves tenant 0 ACTIVE. -/
theorem closeTenant_inRange {s : State} (h : s.InRange) (room : s.holdList.length < Config.holdListSize) (t : TenantIx)
    (final : Bool) (active : t = 0 → final = false) : (s.closeTenant t final).InRange := by
  obtain ⟨hlinks, haccounts, hcauses, -, htenant⟩ := h
  have added (b : BillingRecord) : ({ s with holdList := s.holdList ++ [b] } : State).InRange :=
    ⟨hlinks, haccounts, hcauses, by simpa [State.HoldListInRange] using room, htenant⟩
  unfold State.closeTenant
  dsimp only
  set s1 : State := { s with holdList := _ } with hs1
  have marked : Quiet s1
      (if (chargeAtClose s.tenants[t] s.cards[s.tenants[t].card] final).clamped ||
        (chargeAtClose s.tenants[t] s.cards[s.tenants[t].card] final).balanceCut then s1.markOverflow t else s1) :=
    .ite (markOverflow_quiet _ t) .rfl_
  split
  · next hf =>
    exact (retune_quiet _ t).inRange (modTenant_inRange (marked.inRange (added _)) t fun k => absurd (active k) (by simp [hf]))
  · exact (repace_quiet _ t).inRange (modTenant_inRange (marked.inRange (added _)) t fun k => k ▸ htenant)

/-- What a close step that is ready says (R124, R126). -/
theorem closeReady_iff {s : State} {kind : WalkKind} {st : TenantState} :
    s.closeReady kind st = true ↔ s.closer.state ≠ .idle ∧ s.closer.kind = kind
      ∧ s.holdList.length < Config.holdListSize ∧ (s.tenants[s.closer.position]).state = st := by
  simp [State.closeReady, and_assoc]

/-! ### Every row -/

/-- An outcome leaves the ranges when every next state it answers is in range. -/
def AnswersInRange (o : Host.Outcome State Fault Refusal) : Prop := ∀ t, o = .next t → t.InRange

theorem event_inRange {s : State} {f : State → State} (h : s.InRange) (k : (f s).InRange) : AnswersInRange (s.event f) := by
  rintro t ⟨⟩
  split
  · exact h
  · exact k

theorem event_quiet {s : State} {f : State → State} (h : s.InRange) (k : Quiet s (f s)) : AnswersInRange (s.event f) :=
  event_inRange h (k.inRange h)

/-- The answer to a command is quiet. -/
theorem answer_quiet (r : Reply) (code : Byte) : Quiet r.state (State.answer r code) := (answer_frame r code).quiet (by decide)

theorem take_inRange {s : State} {i : Instr} {cmd : State → Reply} (h : s.InRange) (k : (cmd s).state.InRange) :
    AnswersInRange (s.take i cmd) := by
  refine event_inRange h ?_
  split
  · exact (answer_quiet _ _).inRange k
  · exact h

theorem take_quiet {s : State} {i : Instr} {cmd : State → Reply} (h : s.InRange) (k : Quiet s (cmd s).state) :
    AnswersInRange (s.take i cmd) := take_inRange h (k.inRange h)

/-- A new management port is quiet. -/
theorem mgmt_quiet (s : State) (m : Mgmt) : Quiet s { s with mgmt := m } :=
  SameExcept.quiet (parts := [.mgmt]) (fun x h => by cases x <;> first | rfl | exact absurd (by simp) h) (by decide)

/-! ### Reading commands -/

theorem readPort_reads (s : State) (port : Nat) : (s.readPort port).state = s := by
  unfold State.readPort
  split <;> rfl

theorem readLink_reads (s : State) (port : Nat) : (s.readLink port).state = s := by
  unfold State.readLink
  split <;> rfl

theorem readRequester_reads (s : State) (port req : Nat) : (s.readRequester port req).state = s := by
  unfold State.readRequester
  split <;> rfl

theorem readWindow_reads (s : State) (w : Nat) : (s.readWindow w).state = s := by
  unfold State.readWindow
  split <;> rfl

theorem readTenant_reads (s : State) (t : Nat) : (s.readTenant t).state = s := by
  unfold State.readTenant
  split <;> rfl

theorem readRateCard_reads (s : State) (c : Nat) : (s.readRateCard c).state = s := by
  unfold State.readRateCard
  split <;> rfl

theorem readProfile_reads (s : State) (f : Nat) : (s.readProfile f).state = s := by
  unfold State.readProfile
  split <;> rfl

theorem readCongestion_reads (s : State) (p t : Nat) : (s.readCongestion p t).state = s := by
  unfold State.readCongestion
  split <;> rfl

theorem readJob_reads (s : State) (k : Nat) : (s.readJob k).state = s := by
  unfold State.readJob
  split <;> rfl

theorem reads_quiet {s : State} {r : Reply} (h : r.state = s) : Quiet s r.state := h ▸ .rfl_

/-- A message whose link unit alone takes it. -/
theorem lack_inRange {s : State} (h : s.InRange) (p : PortIx) (seq : Seq) : AnswersInRange (execLackReceived p seq s) := by
  refine event_inRange h ?_
  dsimp only
  split
  · split
    · next ha => exact (ackProgress_quiet s ha _).inRange h
    · exact (modLink_quiet s p ⟨rfl, rfl, rfl⟩ fun k => k.dropAcked _).inRange h
    · exact h
    · exact h
    · exact h
  · exact h

theorem cred_inRange {s : State} (h : s.InRange) (p : PortIx) (r : ReqId) (count : Nat) :
    AnswersInRange (execCredReceived p r count s) := by
  refine event_quiet h (.ite (modLink_quiet s p ?_ ?_) (damaged_quiet s p))
  · split <;> exact ⟨rfl, rfl, rfl⟩
  · rintro ⟨hretry, hcount, hack, hattempt, hcredit, hhealth, htimer⟩
    split
    · refine ⟨hretry, hcount, hack, hattempt, fun k => ?_, hhealth, htimer⟩
      have low := hcredit k
      simp only [Fin.getElem_fin, mapAt_get] at low ⊢
      split
      · exact Nat.min_le_left _ _
      · exact low
    · exact ⟨hretry, hcount, hack, hattempt, hcredit, hhealth, htimer⟩

theorem trn_inRange {s : State} (h : s.InRange) (p : PortIx) (m : PortMode) (seq : Seq) (fresh : Bool) :
    AnswersInRange (execTrnReceived p m seq fresh s) := by
  have answered (q : Seq) : (s.answerTrn p m q).InRange := (answerTrn_quiet s p m q).inRange h
  have state (q : Seq) : (s.answerTrn p m q).links[p].state = s.links[p].state := ((answerTrn_quiet s p m q).ports p).1
  refine event_inRange h ?_
  dsimp only
  split
  · next ht => exact hearPartner_inRange (answered _) ((state _).trans ht)
  · next ha =>
    split_ifs
    · exact enterFailed_inRange h p
    · exact replayFrom_inRange (answered _) ((state _).trans ha) seq
    · exact enterFailed_inRange (answered _) p
  · next hr =>
    split_ifs
    · exact enterFailed_inRange h p
    · exact decideRetrain_inRange (answered _) ((state _).trans hr) seq
  · exact h
  · exact h

theorem trnr_inRange {s : State} (h : s.InRange) (p : PortIx) (seq : Seq) : AnswersInRange (execTrnrReceived p seq s) := by
  refine event_inRange h ?_
  split
  · next ht => exact hearPartner_inRange h ht
  · next hr => exact decideRetrain_inRange h hr seq
  · exact h
  · exact h
  · exact h

theorem replayExpiry_inRange {s : State} (h : s.InRange) (p : PortIx) : AnswersInRange (execReplayTimerExpiry p s) := by
  refine event_inRange h ?_
  dsimp only
  split
  · next hd =>
    have ha : s.links[p].state = .active := by
      by_contra k
      have stopped := (h.1 p).2.2.2.2.2.2 k
      rw [stopped] at hd
      cases hd
    have counted : Quiet s ((s.modCounters p fun c => { c with replayExpiries := satInc Config.counterMax c.replayExpiries }).addHealth
        p Config.expiryHealth) := (modCounters_quiet s p _).trans (addHealth_quiet _ _ _)
    exact countedReplay_inRange (counted.inRange h) ((counted.ports p).1.trans ha) _
  · exact h

theorem trainExpiry_inRange {s : State} (h : s.InRange) (p : PortIx) : AnswersInRange (execTrainTimerExpiry p s) := by
  refine event_inRange h ?_
  dsimp only
  split
  · split
    · exact (modLink_quiet s p ⟨rfl, rfl, rfl⟩ id).inRange h
    · split
      · next k hk =>
        split
        · next hlow =>
          refine (modLink_quiet s p ⟨rfl, rfl, rfl⟩ ?_).inRange h
          rintro ⟨hretry, hcount, hack, hattempt, rest⟩
          refine ⟨hretry, hcount, hack, ?_, rest⟩
          rintro _ ⟨⟩
          exact ⟨Nat.le_add_left 1 k, hlow⟩
        · exact enterFailed_inRange h p
      · exact h
    · exact h
    · exact h
    · exact h
  · exact h

theorem decayExpiry_inRange {s : State} (h : s.InRange) (p : PortIx) : AnswersInRange (execDecayTimerExpiry p s) := by
  refine event_quiet h (.ite (.trans (modLink_quiet s p ⟨rfl, rfl, rfl⟩ ?_) (testHealth_quiet _ p)) .rfl_)
  rintro ⟨hretry, hcount, hack, hattempt, hcredit, hhealth, htimer⟩
  exact ⟨hretry, hcount, hack, hattempt, hcredit, (Nat.sub_le _ _).trans hhealth, htimer⟩

theorem dispatch_inRange {s : State} (h : s.InRange) (p : PortIx) : AnswersInRange (execDispatch p s) := by
  refine event_inRange h ?_
  split
  · split
    · next hn => exact takeHead_inRange h (nextHead_queue hn) _
    · exact h
  · exact h

theorem completionTimeout_quiet (s : State) (i : OttIx) (x : Side) (h : s.InRange) :
    AnswersInRange (execCompletionTimeout i x s) := by
  refine event_quiet h ?_
  dsimp only
  split
  · split
    · exact settle_quiet s i x _
    · exact (modOttLeg_quiet s i x _).trans (finish_quiet _ i _)
    · exact .rfl_
    · exact .rfl_
    · exact .rfl_
    · exact .rfl_
  · exact .rfl_

theorem reissueSent_inRange {s : State} (h : s.InRange) (i : OttIx) : AnswersInRange (execReissueSent i s) := by
  refine event_quiet h ?_
  dsimp only
  split
  · exact .rfl_
  · exact .ite ((modOttLeg_quiet s i _ _).trans (sendLeg_quiet _ i _)) .rfl_

theorem phaseEnd_inRange {s : State} (h : s.InRange) (t : TenantIx) : AnswersInRange (execPhaseEnd t s) := by
  refine event_quiet h ?_
  split
  · split
    · exact beginClosed_quiet s t
    · exact beginOpen_quiet s t
  · exact .rfl_

theorem epochExpiry_inRange {s : State} (h : s.InRange) : AnswersInRange (execEpochTimerExpiry s) := by
  refine event_quiet h ?_
  dsimp only
  exact .ite (.ite ((closer_quiet s _).trans (startFullWalk_quiet _ _))
    (.ite ((closer_quiet s _).trans ((closer_quiet _ _).trans (raise_quiet _ _ _)))
      ((closer_quiet s _).trans (closer_quiet _ _)))) .rfl_

theorem issueRecord_quiet (s : State) : Quiet s s.issueRecord := (issueRecord_frame s).quiet (by decide)

theorem ringRetry_inRange {s : State} (h : s.InRange) : AnswersInRange (execRingRetryTimerExpiry s) := by
  refine event_quiet h ?_
  split
  · split
    · exact issueRecord_quiet s
    · exact (issueIndex_frame s).quiet (by decide)
    · exact .rfl_
  · exact .rfl_

theorem deadline_inRange {s : State} (h : s.InRange) : AnswersInRange (execRestoreLinkDeadline s) := by
  refine event_inRange h ?_
  dsimp only
  split
  · exact ((jobs_quiet _ _).trans (endJob_quiet _ _ _ _)).inRange (enterFailed_inRange h _)
  · exact h

theorem sweepVisit_inRange {s : State} (h : s.InRange) : AnswersInRange (execSweepVisit s) := by
  refine event_quiet h ?_
  split
  · exact .rfl_
  · exact (visitEntry_quiet s _ _).trans ((advanceSweep_frame _ _).quiet (by decide))

theorem close_inRange {s : State} (h : s.InRange) : AnswersInRange (execClose s) := by
  refine event_inRange h ?_
  split
  · next hc =>
    obtain ⟨-, -, room, -⟩ := closeReady_iff.mp hc
    exact ((closer_quiet _ _).trans (moveWalk_quiet _)).inRange (closeTenant_inRange h room _ _ fun _ => rfl)
  · exact h

theorem finalClose_inRange {s : State} (h : s.InRange) : AnswersInRange (execFinalClose s) := by
  refine event_inRange h ?_
  split
  · next hc =>
    obtain ⟨-, -, room, retiring⟩ := closeReady_iff.mp hc
    refine ((closer_quiet _ _).trans (endWalk_quiet _ _)).inRange (closeTenant_inRange h room _ _ fun zero => ?_)
    have active : (s.tenants[(0 : TenantIx)]).state = .active := h.2.2.2.2
    simp only [zero, active, reduceCtorEq] at retiring
  · exact h

end Sys2Proof.Machine

namespace Sys2Proof.Machine

/-- An expiry keeps the ranges. -/
theorem expiry_inRange {s : State} (h : s.InRange) (x : Expiry) : AnswersInRange (x.meaning s) := by
  cases x with
  | replay p => exact replayExpiry_inRange h p
  | train p => exact trainExpiry_inRange h p
  | decay p => exact decayExpiry_inRange h p
  | completion i x => exact completionTimeout_quiet s i x h
  | relief p =>
    refine event_quiet (f := fun s => if (s.monitors[p]).reliefTimer.due s.time then s.evaluate p else s) h ?_
    exact .ite (evaluate_quiet s p) .rfl_
  | phase t => exact phaseEnd_inRange h t
  | epoch => exact epochExpiry_inRange h
  | ringRetry => exact ringRetry_inRange h
  | deadline => exact deadline_inRange h

theorem takeExpiry_inRange {s : State} (h : s.InRange) (x : Expiry) : (s.takeExpiry x).InRange :=
  expiry_inRange h x _ (expiry_next x s)

/-- A tick takes expiry after expiry, each of which keeps the ranges. -/
theorem takeExpiries_inRange {s : State} (h : s.InRange) (l : List Expiry) : (l.foldl State.takeExpiry s).InRange := by
  induction l generalizing s with
  | nil => exact h
  | cons x l ih => exact ih (takeExpiry_inRange h x)

theorem held_inRange : State.held.InRange := by
  refine ⟨fun p => ?_, fun p r => ?_, ⟨fun c => ?_, ?_⟩, ?_, ?_⟩
  · simp [State.held, LinkUnit.InRange, LinkUnit.held]
  · simp [State.held, State.AccountInRange, LinkUnit.held, IngressStage.reset, Requester.reset]
  · simp [State.held]
  · exact Nat.zero_le _
  · exact Nat.zero_le _
  · simp [State.FabricTenantActive, State.held]

theorem reset_inRange : State.reset.InRange := by
  refine ⟨fun p => ?_, fun p r => ?_, held_inRange.2.2⟩
  · simp [State.reset, LinkUnit.InRange, LinkUnit.released, LinkUnit.held]
  · simp [State.reset, State.held, State.AccountInRange, LinkUnit.released, LinkUnit.held, IngressStage.reset, Requester.reset]

theorem rdata_inRange {s : State} (h : s.InRange) (p : PortIx) (n : Seq) (r : ReqId) (t : Tag) (st : Status)
    (d : Option LineData) : AnswersInRange (execRdataReceived p n r t st d s) := by
  refine event_quiet h ?_
  exact .ite (receiveResponse_quiet s p n _) (damaged_quiet s p)

theorem lnak_inRange {s : State} (h : s.InRange) (p : PortIx) (n : Seq) : AnswersInRange (execLnakReceived p n s) := by
  refine event_inRange h ?_
  dsimp only
  split
  · next hc => exact replayFrom_inRange h hc.1 n
  · exact h

theorem fabricDispatch_inRange {s : State} (h : s.InRange) : AnswersInRange (execFabricDispatch s) := by
  refine event_quiet h ?_
  split
  · exact takeFabric_quiet s _
  · exact .rfl_

theorem recordWriteIssue_inRange {s : State} (h : s.InRange) : AnswersInRange (execRecordWriteIssue s) := by
  refine event_quiet h ?_
  exact .ite (issueRecord_quiet s) .rfl_

theorem commandFrame_inRange {s : State} (h : s.InRange) (f : CommandFrame) : AnswersInRange (execCommandFrame f s) := by
  refine event_quiet h ?_
  dsimp only
  split <;> exact mgmt_quiet s _

theorem readFrame_inRange {s : State} (h : s.InRange) (n : Nat) : AnswersInRange (execReadFrame n s) := by
  refine event_quiet h ?_
  exact mgmt_quiet s _

theorem setWindowRow_inRange {s : State} (h : s.InRange) (w t b l a pp pb pi m mp mb mi : Nat) :
    AnswersInRange (execSetWindow w t b l a pp pb pi m mp mb mi s) := by
  refine take_quiet h ?_
  split
  · exact clearWindow_quiet s w
  · exact setWindow_quiet s w t b l a pp pb pi m mp mb mi

/-- Every row keeps the ranges. -/
theorem exec_inRange {s : State} (h : s.InRange) (c : Instr) : AnswersInRange (exec c s) := by
  cases c with
  | rdReceived p n r t l => exact event_inRange (f := fun s => s.receiveRequest p n _) h (receiveRequest_inRange h p n _)
  | wrReceived p n r t l d => exact event_inRange (f := fun s => s.receiveRequest p n _) h (receiveRequest_inRange h p n _)
  | wrmReceived p n r t l d m => exact event_inRange (f := fun s => s.receiveRequest p n _) h (receiveRequest_inRange h p n _)
  | rdataReceived p n r t st d => exact rdata_inRange h p n r t st d
  | wackReceived p n r t st => exact event_quiet (f := fun s => s.receiveResponse p n _) h (receiveResponse_quiet s p n _)
  | lackReceived p n => exact lack_inRange h p n
  | lnakReceived p n => exact lnak_inRange h p n
  | credReceived p r n => exact cred_inRange h p r n
  | trnReceived p m n f => exact trn_inRange h p m n f
  | trnrReceived p n => exact trnr_inRange h p n
  | crcDiscard p => exact event_quiet (f := fun s => s.damaged p) h (damaged_quiet s p)
  | transmitArbiter p => exact event_inRange (f := fun s => s.send p (s.chooseSend p)) h (send_inRange h p)
  | replayTimerExpiry p => exact replayExpiry_inRange h p
  | trainTimerExpiry p => exact trainExpiry_inRange h p
  | decayTimerExpiry p => exact decayExpiry_inRange h p
  | dispatch p => exact dispatch_inRange h p
  | fabricDispatch => exact fabricDispatch_inRange h
  | reissueSent i => exact reissueSent_inRange h i
  | completionTimeout i x => exact completionTimeout_quiet s i x h
  | sweepVisit => exact sweepVisit_inRange h
  | reliefTimerExpiry p => exact expiry_inRange h (.relief p)
  | phaseEnd t => exact phaseEnd_inRange h t
  | epochTimerExpiry => exact epochExpiry_inRange h
  | close => exact close_inRange h
  | finalClose => exact finalClose_inRange h
  | recordWriteIssue => exact recordWriteIssue_inRange h
  | ringRetryTimerExpiry => exact ringRetry_inRange h
  | restoreLinkDeadline => exact deadline_inRange h
  | commandFrame f => exact commandFrame_inRange h f
  | readFrame n => exact readFrame_inRange h n
  | malformedCommand b => exact take_quiet (cmd := fun s => s.refuse .badArg) h .rfl_
  | setPortMode p m => exact take_inRange (cmd := fun s => s.setPortMode p m) h (setPortMode_inRange h p m)
  | setRequester p r e t g => exact take_inRange (cmd := fun s => s.setRequester p r e t g) h (setRequester_inRange h p r e t g)
  | setTenant t c p x y z w => exact take_inRange (cmd := fun s => s.setTenant t c p x y z w) h (setTenant_inRange h t c p x y z w)
  | removeTenant t => exact take_inRange (cmd := fun s => s.removeTenant t) h (removeTenant_inRange h t)
  | setRateCard c a b x y z => exact take_quiet (cmd := fun s => s.setRateCard c a b x y z) h (setRateCard_quiet s c a b x y z)
  | setProfile p l o c => exact take_quiet (cmd := fun s => s.setProfile p l o c) h (setProfile_quiet s p l o c)
  | setWindow w t b l a pp pb pi m mp mb mi => exact setWindowRow_inRange h w t b l a pp pb pi m mp mb mi
  | setWindowClear w => exact take_quiet (cmd := fun s => s.clearWindow w) h (clearWindow_quiet s w)
  | enableWindow w => exact take_quiet (cmd := fun s => s.enableWindow w) h (enableWindow_quiet s w)
  | disableWindow w => exact take_quiet (cmd := fun s => s.disableWindow w) h (disableWindow_quiet s w)
  | setTiming a b c d e f => exact take_quiet (cmd := fun s => s.setTiming a b c d e f) h (setTiming_quiet s a b c d e f)
  | setMarks a b c d e => exact take_quiet (cmd := fun s => s.setMarks a b c d e) h (setMarks_quiet s a b c d e)
  | setEpoch n => exact take_quiet (cmd := fun s => s.setEpoch n) h (setEpoch_quiet s n)
  | setBillingRing a b c d => exact take_quiet (cmd := fun s => s.setBillingRing a b c d) h (setBillingRing_quiet s a b c d)
  | adjustTenant t a => exact take_quiet (cmd := fun s => s.adjustTenant t a) h (adjustTenant_quiet s t a)
  | clearSticky t => exact take_quiet (cmd := fun s => s.clearSticky t) h (clearSticky_quiet s t)
  | closeEpoch => exact take_quiet (cmd := fun s => s.closeEpoch) h (closeEpoch_quiet s)
  | restoreLink p => exact take_inRange (cmd := fun s => s.restoreLink p) h (restoreLink_inRange h p)
  | linkReset p => exact take_inRange (cmd := fun s => s.linkResetCommand p) h (linkResetCommand_inRange h p)
  | startRebuild w => exact take_quiet (cmd := fun s => s.startRebuild w) h (startRebuild_quiet s w)
  | abortRebuild => exact take_quiet (cmd := fun s => s.abortRebuild) h (abortRebuild_quiet s)
  | readPort p => exact take_quiet (cmd := fun s => s.readPort p) h (reads_quiet (readPort_reads s p))
  | readLink p => exact take_quiet (cmd := fun s => s.readLink p) h (reads_quiet (readLink_reads s p))
  | readRequester p r => exact take_quiet (cmd := fun s => s.readRequester p r) h (reads_quiet (readRequester_reads s p r))
  | readWindow w => exact take_quiet (cmd := fun s => s.readWindow w) h (reads_quiet (readWindow_reads s w))
  | readTenant t => exact take_quiet (cmd := fun s => s.readTenant t) h (reads_quiet (readTenant_reads s t))
  | readRateCard c => exact take_quiet (cmd := fun s => s.readRateCard c) h (reads_quiet (readRateCard_reads s c))
  | readProfile p => exact take_quiet (cmd := fun s => s.readProfile p) h (reads_quiet (readProfile_reads s p))
  | readCongestion p t => exact take_quiet (cmd := fun s => s.readCongestion p t) h (reads_quiet (readCongestion_reads s p t))
  | readRing => exact take_quiet (cmd := State.readRing) h .rfl_
  | readTime => exact take_quiet (cmd := State.readTime) h .rfl_
  | readJob k => exact take_quiet (cmd := fun s => s.readJob k) h (reads_quiet (readJob_reads s k))
  | readCause => exact take_quiet (cmd := fun s => s.readCause) h (readCause_quiet s)
  | setCauseEnable n => exact take_quiet (cmd := fun s => s.writeCauseEnable n true) h (writeCauseEnable_quiet s n true)
  | clearCauseEnable n => exact take_quiet (cmd := fun s => s.writeCauseEnable n false) h (writeCauseEnable_quiet s n false)
  | holdAlert => exact take_quiet (cmd := fun s => s.holdAlert) h (holdAlert_quiet s)
  | releaseAlert => exact take_quiet (cmd := fun s => s.releaseAlert) h (releaseAlert_quiet s)
  | powerOnReset => rintro t ⟨⟩; exact held_inRange
  | resetRelease =>
    rintro t ⟨⟩
    split
    · exact reset_inRange
    · exact h
  | fabricTimeTick => exact event_inRange (f := fun s => { s.dueExpiries.foldl State.takeExpiry s with time := s.time + 1 }) h (takeExpiries_inRange h _)

/-- Settles O4: each row keeps the ranges, and a step runs one row or none; the queue is in no range. -/
theorem everyStepKeepsRanges : Obligations.EveryStepKeepsRanges := by
  intro s t h hstep
  unfold step at hstep
  split at hstep
  · cases hstep; exact h
  · next c rest _ => exact exec_inRange (s := { s with pending := rest }) h c t hstep

/-- Settles O5: each table of the two states is a constant one, whose entry is in range. -/
theorem resetStatesInRange : Obligations.ResetStatesInRange := ⟨reset_inRange, held_inRange⟩

/-- Settles O1: with a command at the front of the queue, a step is that command's row. -/
theorem stepRunsFrontCommand : Obligations.StepRunsFrontCommand := by
  intro c s rest h
  rw [step, h]

end Sys2Proof.Machine

/-! PROOF. What no event of a link, a timer or a block writes. -/

namespace Sys2Proof.Machine

/-- The parts that an event of a link, a timer or a block may write. -/
def rowParts : List Part := .closer :: eventParts

/-- An outcome writes no other part than those an event may. -/
def WritesRowParts (s : State) (o : Host.Outcome State Fault Refusal) : Prop := ∀ t, o = .next t → SameExcept rowParts s t

theorem event_writes {s : State} {f : State → State} {parts : List Part} (h : SameExcept parts s (f s))
    (sub : parts ⊆ rowParts) : WritesRowParts s (s.event f) := by
  rintro t ⟨⟩
  exact .ite .rfl_ (h.mono sub)

section rows
variable (s : State)

theorem lack_writes (p : PortIx) (n : Seq) : WritesRowParts s (execLackReceived p n s) := by
  refine event_writes (parts := [.links]) ?_ (by decide)
  dsimp only
  split
  · split
    · exact ackProgress_frame s p _
    · exact modLink_frame s p _
    all_goals exact .rfl_
  · exact .rfl_

theorem trn_writes (p : PortIx) (m : PortMode) (n : Seq) (f : Bool) : WritesRowParts s (execTrnReceived p m n f s) := by
  have answered (q : Seq) : SameExcept eventParts s (s.answerTrn p m q) := (answerTrn_frame s p m q).mono (by decide)
  refine event_writes (parts := eventParts) ?_ (by decide)
  dsimp only
  split
  · exact (answered _).trans ((hearPartner_frame _ p).mono (by decide))
  · exact .ite (enterFailed_frame s p) (.ite ((answered _).trans ((replayFrom_frame _ p n).mono (by decide)))
      ((answered _).trans (enterFailed_frame _ p)))
  · exact .ite (enterFailed_frame s p) ((answered _).trans (decideRetrain_frame _ p n))
  all_goals exact .rfl_

theorem trnr_writes (p : PortIx) (n : Seq) : WritesRowParts s (execTrnrReceived p n s) := by
  refine event_writes (parts := eventParts) ?_ (by decide)
  split
  · exact (hearPartner_frame s p).mono (by decide)
  · exact decideRetrain_frame s p n
  all_goals exact .rfl_

theorem replayExpiry_writes (p : PortIx) : WritesRowParts s (execReplayTimerExpiry p s) := by
  refine event_writes (parts := [.links, .causes]) ?_ (by decide)
  refine .ite ?_ .rfl_
  exact (((modCounters_frame s p _).mono (by simp)).trans (addHealth_frame _ p _)).trans
    ((countedReplay_frame _ p _).mono (by simp))

theorem trainExpiry_writes (p : PortIx) : WritesRowParts s (execTrainTimerExpiry p s) := by
  have again (f : LinkUnit → LinkUnit) : SameExcept eventParts s (s.modLink p f) := (modLink_frame s p f).mono (by decide)
  refine event_writes (parts := eventParts) ?_ (by decide)
  dsimp only
  refine .ite ?_ .rfl_
  split
  · exact again _
  · split
    · exact .ite (again _) (enterFailed_frame s p)
    · exact .rfl_
  all_goals exact .rfl_

theorem dispatch_writes (p : PortIx) : WritesRowParts s (execDispatch p s) := by
  refine event_writes (parts := [.tenants, .causes] ++ routeParts) ?_ (by decide)
  refine .ite ?_ .rfl_
  split
  · exact takeHead_frame s p _ _
  · exact .rfl_

theorem fabricDispatch_writes : WritesRowParts s (execFabricDispatch s) := by
  refine event_writes (parts := eventParts) ?_ (by decide)
  split
  · exact takeFabric_frame s _
  · exact .rfl_

theorem reissueSent_writes (i : OttIx) : WritesRowParts s (execReissueSent i s) := by
  refine event_writes (parts := [.ott, .links, .monitors, .contrib]) ?_ (by decide)
  dsimp only
  split
  · exact .rfl_
  · exact .ite (((modOttLeg_frame s i _ _).mono (by simp)).trans ((sendLeg_frame _ i _).mono (by simp))) .rfl_

theorem completionTimeout_writes (i : OttIx) (x : Side) : WritesRowParts s (execCompletionTimeout i x s) := by
  refine event_writes (parts := [.monitors, .contrib] ++ finishParts) ?_ (by decide)
  dsimp only
  refine .ite ?_ .rfl_
  split
  · exact settle_frame s i x _
  · exact ((modOttLeg_frame s i x _).mono (by decide)).trans ((finish_frame _ i _).mono (by decide))
  all_goals exact .rfl_

theorem sweepVisit_writes : WritesRowParts s (execSweepVisit s) := by
  refine event_writes (parts := eventParts) ?_ (by decide)
  split
  · exact .rfl_
  · exact ((visitEntry_frame s _ _).mono (by decide)).trans ((advanceSweep_frame _ _).mono (by decide))

theorem phaseEnd_writes (t : TenantIx) : WritesRowParts s (execPhaseEnd t s) := by
  refine event_writes (parts := [.pacers, .tenants]) ?_ (by decide)
  refine .ite ?_ .rfl_
  split
  · exact beginClosed_frame s t
  · exact beginOpen_frame s t

/-- A new closer leaves every other part. -/
theorem closer_frame (c : Closer) : SameExcept [.closer] s { s with closer := c } := fun x h => by
  cases x <;> first | rfl | exact absurd (by simp) h

theorem epochExpiry_writes : WritesRowParts s (execEpochTimerExpiry s) := by
  have closed (u : State) (c : Closer) : SameExcept [.closer, .jobs, .causes] u { u with closer := c } :=
    (closer_frame u c).mono (by simp)
  refine event_writes (parts := [.closer, .jobs, .causes]) ?_ (by decide)
  dsimp only
  exact .ite (.ite ((closed s _).trans (startFullWalk_frame _ _))
    (.ite (((closed s _).trans (closed _ _)).trans ((raise_frame _ _ _).mono (by simp)))
      ((closed s _).trans (closed _ _)))) .rfl_

theorem close_writes : WritesRowParts s (execClose s) := by
  refine event_writes (parts := [.closer, .jobs] ++ [.holdList, .pacers, .tenants, .causes]) ?_ (by decide)
  refine .ite (.trans (.trans ?_ ((countBuilt_frame _).mono (by decide))) ((moveWalk_frame _).mono (by decide))) .rfl_
  exact (closeTenant_frame s _ _).mono (by decide)

theorem finalClose_writes : WritesRowParts s (execFinalClose s) := by
  refine event_writes (parts := [.closer, .jobs] ++ [.holdList, .pacers, .tenants, .causes]) ?_ (by decide)
  refine .ite (.trans (.trans ?_ ((countBuilt_frame _).mono (by decide))) ((endWalk_frame _ _).mono (by decide))) .rfl_
  exact (closeTenant_frame s _ _).mono (by decide)

theorem ringRetry_writes : WritesRowParts s (execRingRetryTimerExpiry s) := by
  refine event_writes (parts := [.ring, .fabric]) ?_ (by decide)
  refine .ite ?_ .rfl_
  split
  · exact issueRecord_frame s
  · exact issueIndex_frame s
  · exact .rfl_

/-- New job slots leave every other part. -/
theorem jobs_frame (j : Jobs) : SameExcept [.jobs] s { s with jobs := j } := fun x h => by
  cases x <;> first | rfl | exact absurd (by simp) h

theorem deadline_writes : WritesRowParts s (execRestoreLinkDeadline s) := by
  refine event_writes (parts := eventParts) ?_ (by decide)
  dsimp only
  exact .ite (((enterFailed_frame s _).trans ((jobs_frame _ _).mono (by decide))).trans ((endJob_frame _ _ _ _).mono (by decide)))
    .rfl_

theorem lnak_writes (p : PortIx) (n : Seq) : WritesRowParts s (execLnakReceived p n s) := by
  refine event_writes (parts := [.links]) ?_ (by decide)
  exact .ite (replayFrom_frame s p n) .rfl_

theorem cred_writes (p : PortIx) (r : ReqId) (n : Nat) : WritesRowParts s (execCredReceived p r n s) := by
  refine event_writes (parts := [.links, .causes]) ?_ (by decide)
  exact .ite ((modLink_frame s p _).mono (by simp)) (damaged_frame s p)

theorem rdata_writes (p : PortIx) (n : Seq) (r : ReqId) (t : Tag) (st : Status) (d : Option LineData) :
    WritesRowParts s (execRdataReceived p n r t st d s) := by
  refine event_writes (parts := eventParts) ?_ (by decide)
  exact .ite (receiveResponse_frame s p n _) ((damaged_frame s p).mono (by decide))

theorem decayExpiry_writes (p : PortIx) : WritesRowParts s (execDecayTimerExpiry p s) := by
  refine event_writes (parts := [.links, .causes]) ?_ (by decide)
  exact .ite (((modLink_frame s p _).mono (by simp)).trans (testHealth_frame _ p)) .rfl_

theorem reliefExpiry_writes (p : PortIx) : WritesRowParts s (execReliefTimerExpiry p s) := by
  refine event_writes (parts := [.monitors, .causes, .contrib, .pacers, .tenants]) ?_ (by decide)
  exact .ite (evaluate_frame s p) .rfl_

theorem recordWriteIssue_writes : WritesRowParts s (execRecordWriteIssue s) := by
  refine event_writes (parts := [.ring, .fabric]) ?_ (by decide)
  exact .ite (issueRecord_frame s) .rfl_

/-- A row that is no management command, frame, tick or reset writes only parts that an event may. -/
theorem exec_writesRowParts (c : Instr) (hc : c.command = none) (hframe : ∀ f, c ≠ .commandFrame f)
    (hread : ∀ n, c ≠ .readFrame n) (hbad : ∀ b, c ≠ .malformedCommand b) (hreset : c ≠ .powerOnReset)
    (hrelease : c ≠ .resetRelease) (htick : c ≠ .fabricTimeTick) : WritesRowParts s (exec c s) := by
  cases c with
  | rdReceived p n r t l => exact event_writes (f := fun s => s.receiveRequest p n _) (receiveRequest_frame s p n _) (by decide)
  | wrReceived p n r t l d => exact event_writes (f := fun s => s.receiveRequest p n _) (receiveRequest_frame s p n _) (by decide)
  | wrmReceived p n r t l d m => exact event_writes (f := fun s => s.receiveRequest p n _) (receiveRequest_frame s p n _) (by decide)
  | rdataReceived p n r t st d => exact rdata_writes s p n r t st d
  | wackReceived p n r t st => exact event_writes (f := fun s => s.receiveResponse p n _) (receiveResponse_frame s p n _) (by decide)
  | lackReceived p n => exact lack_writes s p n
  | lnakReceived p n => exact lnak_writes s p n
  | credReceived p r n => exact cred_writes s p r n
  | trnReceived p m n f => exact trn_writes s p m n f
  | trnrReceived p n => exact trnr_writes s p n
  | crcDiscard p => exact event_writes (f := fun s => s.damaged p) (damaged_frame s p) (by decide)
  | transmitArbiter p => exact event_writes (f := fun s => s.send p (s.chooseSend p)) (send_frame s p _) (by decide)
  | replayTimerExpiry p => exact replayExpiry_writes s p
  | trainTimerExpiry p => exact trainExpiry_writes s p
  | decayTimerExpiry p => exact decayExpiry_writes s p
  | dispatch p => exact dispatch_writes s p
  | fabricDispatch => exact fabricDispatch_writes s
  | reissueSent i => exact reissueSent_writes s i
  | completionTimeout i x => exact completionTimeout_writes s i x
  | sweepVisit => exact sweepVisit_writes s
  | reliefTimerExpiry p => exact reliefExpiry_writes s p
  | phaseEnd t => exact phaseEnd_writes s t
  | epochTimerExpiry => exact epochExpiry_writes s
  | close => exact close_writes s
  | finalClose => exact finalClose_writes s
  | recordWriteIssue => exact recordWriteIssue_writes s
  | ringRetryTimerExpiry => exact ringRetry_writes s
  | restoreLinkDeadline => exact deadline_writes s
  | commandFrame f => exact absurd rfl (hframe f)
  | readFrame n => exact absurd rfl (hread n)
  | malformedCommand b => exact absurd rfl (hbad b)
  | powerOnReset => exact absurd rfl hreset
  | resetRelease => exact absurd rfl hrelease
  | fabricTimeTick => exact absurd rfl htick
  | _ => exact absurd hc (by simp [Instr.command])

end rows

/-- Settles O6: each such row writes only its own parts, and none of the settings is among them. -/
theorem eventsLeaveSettings : Obligations.EventsLeaveSettings := by
  intro c s t hc hframe hread hbad hreset hrelease htick hexec
  have same := exec_writesRowParts s c hc hframe hread hbad hreset hrelease htick t hexec
  exact ⟨same .settings (by decide), same .profiles (by decide), same .cards (by decide), same .mgmt (by decide),
    same .time (by decide), same .resetPin (by decide), same .queue (by decide)⟩

end Sys2Proof.Machine

/-! PROOF. The link layer (Chapter 1): what each operation leaves of its link unit, and that it leaves every other. -/

namespace Sys2Proof.Machine

/-! ### Frames of one link unit -/

theorem OnlyLinkOf.rfl_ {p : PortIx} {parts : List Part} {s : State} : OnlyLinkOf p parts s s := ⟨.rfl_, fun _ _ => rfl⟩

theorem OnlyLinkOf.trans {p : PortIx} {parts : List Part} {s t u : State} (h : OnlyLinkOf p parts s t)
    (k : OnlyLinkOf p parts t u) : OnlyLinkOf p parts s u :=
  ⟨h.1.trans k.1, fun q hq => (k.2 q hq).trans (h.2 q hq)⟩

theorem OnlyLinkOf.mono {p : PortIx} {parts more : List Part} {s t : State} (h : OnlyLinkOf p parts s t)
    (sub : parts ⊆ more) : OnlyLinkOf p more s t := ⟨h.1.mono (List.cons_subset_cons _ sub), h.2⟩

theorem OnlyLinkOf.widen {p : PortIx} {parts : List Part} {s t : State} (h : OnlyLinkOf p [] s t) : OnlyLinkOf p parts s t :=
  h.mono (List.nil_subset _)

theorem OnlyLinkOf.ite {p : PortIx} {parts : List Part} {s t u : State} {c : Prop} [Decidable c] (h : OnlyLinkOf p parts s t)
    (k : OnlyLinkOf p parts s u) : OnlyLinkOf p parts s (if c then t else u) := by
  split
  · exact h
  · exact k

/-- A frame that lists no link units leaves all of them. -/
theorem SameExcept.onlyLink {parts : List Part} {s t : State} (h : SameExcept parts s t) (p : PortIx)
    (hl : Part.links ∉ parts) : OnlyLinkOf p parts s t :=
  ⟨h.mono (List.subset_cons_self _ _), fun q _ => by rw [show t.links = s.links from h .links hl]⟩

section onlyLink
variable (s : State) (p : PortIx)

theorem raise_onlyLink (c : Cause) (d : BitVec 16) : OnlyLinkOf p [.causes] s (s.raise c d) := (raise_frame s c d).onlyLink p (by simp)

theorem modCounters_onlyLink (f : LinkCounters → LinkCounters) : OnlyLinkOf p [] s (s.modCounters p f) :=
  onlyLink_modLink s p _

theorem testHealth_onlyLink : OnlyLinkOf p [.causes] s (s.testHealth p) := by
  have tested (h : Health) : OnlyLinkOf p [.causes] s (s.modLink p fun u => { u with healthState := h }) :=
    (onlyLink_modLink s p _).widen
  unfold State.testHealth
  dsimp only
  split
  · exact .ite ((tested _).trans (raise_onlyLink _ p _ _)) .rfl_
  · exact .ite (tested _) .rfl_

theorem addHealth_onlyLink (n : Nat) : OnlyLinkOf p [.causes] s (s.addHealth p n) :=
  (onlyLink_modLink s p _).widen.trans (testHealth_onlyLink _ p)

theorem discardHandling_onlyLink : OnlyLinkOf p [.causes] s (s.discardHandling p) :=
  (addHealth_onlyLink s p _).trans (onlyLink_modLink _ p _).widen

theorem ackProgress_onlyLink (d : Nat) : OnlyLinkOf p [] s (s.ackProgress p d) := onlyLink_modLink s p _

theorem startReplay_onlyLink (q : Seq) : OnlyLinkOf p [] s (s.startReplay p q) := onlyLink_modLink s p _

theorem enterRetrain_onlyLink : OnlyLinkOf p [] s (s.enterRetrain p) :=
  (onlyLink_modLink s p _).trans (modCounters_onlyLink _ p _)

theorem countedReplay_onlyLink (q : Seq) : OnlyLinkOf p [] s (s.countedReplay p q) :=
  .ite (((onlyLink_modLink s p _).trans (modCounters_onlyLink _ p _)).trans (startReplay_onlyLink _ p q))
    (enterRetrain_onlyLink s p)

theorem replayFrom_onlyLink (q : Seq) : OnlyLinkOf p [] s (s.replayFrom p q) := by
  have replayed {t : State} (h : OnlyLinkOf p [] s t) :
      OnlyLinkOf p [] s (if t.links[p].retry.isEmpty then t else t.countedReplay p q) :=
    .ite h (h.trans (countedReplay_onlyLink t p q))
  exact replayed (.ite .rfl_ (ackProgress_onlyLink s p _))

theorem retrainSuccess_onlyLink (q : Seq) : OnlyLinkOf p [] s (s.retrainSuccess p q) :=
  .ite (onlyLink_modLink s p _) ((onlyLink_modLink s p _).trans (startReplay_onlyLink _ p q))

end onlyLink

/-! ### Health and discards -/

section health
variable (s : State) (p : PortIx)

/-- The test of the health state writes that state alone. -/
theorem testHealth_link :
    (s.testHealth p).links[p] = { s.links[p] with healthState := ((s.testHealth p).links[p]).healthState } := by
  unfold State.testHealth
  dsimp only
  split <;> split <;> simp [State.raise]

/-- The health state after the test (R20). -/
theorem testHealth_healthState :
    ((s.testHealth p).links[p]).healthState =
      match s.links[p].healthState with
      | .good => if s.settings.weakMark ≤ s.links[p].health then .weak else .good
      | .weak => if s.links[p].health < s.settings.recoverMark then .good else .weak := by
  unfold State.testHealth
  dsimp only
  split <;> split <;> simp_all [State.raise]

theorem addHealth_link (n : Nat) :
    (s.addHealth p n).links[p] = { s.links[p] with
      health := min 1023 (s.links[p].health + n), healthState := ((s.addHealth p n).links[p]).healthState } := by
  conv_lhs => rw [State.addHealth, testHealth_link, modLink_get]
  rfl

/-- Opening an episode, in one form for both cases. -/
theorem openEpisode_link : (s.openEpisode p).links[p] = { s.links[p] with
    episode := true, lnakOwed := if s.links[p].episode then s.links[p].lnakOwed else true } := by
  rw [State.openEpisode, modLink_get]
  cases he : s.links[p].episode
  · rfl
  · simp only [if_true, ← he]

/-- A discard raises the health score by 16 and opens an episode, with one LNAK owed from its opening on (R12, R19). -/
theorem discardHandling_link :
    (s.discardHandling p).links[p] = { s.links[p] with
      health := min 1023 (s.links[p].health + 16)
      healthState := ((s.discardHandling p).links[p]).healthState
      episode := true
      lnakOwed := if s.links[p].episode then s.links[p].lnakOwed else true } := by
  have scored := addHealth_link s p Config.discardHealth
  generalize ((s.addHealth p Config.discardHealth).links[p]).healthState = hs at scored
  have handled : (s.discardHandling p).links[p] = { s.links[p] with
      health := min 1023 (s.links[p].health + 16), healthState := hs, episode := true
      lnakOwed := if s.links[p].episode then s.links[p].lnakOwed else true } := by
    rw [State.discardHandling, openEpisode_link]
    simp only [scored]
    rfl
  rw [handled]

/-- A raised cause is pending with the raised detail merged in. -/
theorem raise_get (c : Cause) (d : BitVec 16) : (s.raise c d).causes.entries[causeIx c] =
    if (s.causes.entries[causeIx c]).pending
    then { s.causes.entries[causeIx c] with detail := mergeDetail (mergeRule c) (s.causes.entries[causeIx c]).detail d }
    else { s.causes.entries[causeIx c] with pending := true, detail := d } := by
  simp [State.raise]

theorem raise_pending (c : Cause) (d : BitVec 16) : ((s.raise c d).causes.entries[causeIx c]).pending = true := by
  rw [raise_get]
  split
  · assumption
  · rfl

/-- A cause that merges by OR holds the raised bits. -/
theorem raise_bits (c : Cause) (d : BitVec 16) (h : mergeRule c = .orBits) :
    ((s.raise c d).causes.entries[causeIx c]).detail &&& d = d := by
  rw [raise_get, h]
  split
  · ext i
    simp only [mergeDetail, BitVec.getElem_and, BitVec.getElem_or]
    cases d[i] <;> simp
  · exact BitVec.and_self

/-- Raising a cause leaves the other entries. -/
theorem raise_other (c : Cause) (d : BitVec 16) {k : Fin 14} (h : k ≠ causeIx c) :
    (s.raise c d).causes.entries[k] = s.causes.entries[k] := by
  simp [State.raise, Ne.symm h]

/-- A health test raises LINK_WEAK or nothing. -/
theorem testHealth_cause {k : Fin 14} (h : k ≠ causeIx .linkWeak) :
    (s.testHealth p).causes.entries[k] = s.causes.entries[k] := by
  unfold State.testHealth
  dsimp only
  split <;> split
  · rw [raise_other _ _ _ h]; rfl
  · rfl
  · rfl
  · rfl

end health

/-! ### Payload and damaged messages -/

section receive
variable {s : State} {p : PortIx}

/-- The row of a request message hands the request to its port. -/
theorem exec_request (h : s.running) (n : Seq) (q : Request) :
    exec (messageCommand p (.payload n (.request q))) s = .next (s.receiveRequest p n q) := by
  obtain ⟨r, t, l, body⟩ := q
  cases body <;> exact event_running h fun s => s.receiveRequest p n _

/-- The row of a well-formed response message hands the response to its port. -/
theorem exec_response (h : s.running) (n : Seq) (r : Response) (ok : messageOk (.payload n (.response r)) = true) :
    exec (messageCommand p (.payload n (.response r))) s = .next (s.receiveResponse p n r) := by
  obtain ⟨kind, req, tag, status, data⟩ := r
  cases kind with
  | rdata =>
    have good : data.isSome = (status == .good) := by simpa [messageOk, rdataOk] using ok
    simp [messageCommand, exec, execRdataReceived, event_running h, good]
  | wack =>
    have none : data = none := by simpa [messageOk] using ok
    subst none
    exact event_running h _

/-- The counter of a discard rises, the discard is handled, and nothing else of the link changes. -/
theorem counted_discard (f : LinkCounters → LinkCounters) :
    ((s.modCounters p f).discardHandling p).links[p] = { s.links[p] with
      counters := f s.links[p].counters
      health := min 1023 (s.links[p].health + 16)
      healthState := (((s.modCounters p f).discardHandling p).links[p]).healthState
      episode := true
      lnakOwed := if s.links[p].episode then s.links[p].lnakOwed else true } := by
  have counted : (s.modCounters p f).links[p] = { s.links[p] with counters := f s.links[p].counters } := modLink_get s p _
  conv_lhs => rw [discardHandling_link]
  simp only [counted]

/-- Settles O10: out of sequence, a request and a response are counted alike; outside ACTIVE neither is taken. -/
theorem payloadOutOfSequence : Obligations.PayloadOutOfSequence := by
  intro s p seq m h ok
  have row : exec (messageCommand p (.payload seq m)) s = .next (match m with
      | .request q => s.receiveRequest p seq q
      | .response r => s.receiveResponse p seq r) := by
    cases m with
    | request q => exact exec_request h seq q
    | response r => exact exec_response h seq r ok
  constructor
  · intro ha hne
    refine ⟨s.outOfSequence p, row.trans ?_, counted_discard _, ?_⟩
    · cases m <;> simp only [State.receiveRequest, State.receiveResponse, ha, hne, if_true, if_false]
    · exact (modCounters_onlyLink s p _).widen.trans (discardHandling_onlyLink _ p)
  · intro ha
    refine row.trans ?_
    cases m <;> simp only [State.receiveRequest, State.receiveResponse, ha, if_false]

/-- Settles O11: a damaged message is counted and handled as a discard in ACTIVE alone. -/
theorem damagedMessageDiscarded : Obligations.DamagedMessageDiscarded := by
  intro s p h
  have row : exec (.crcDiscard p) s = .next (s.damaged p) := event_running h _
  constructor
  · intro ha
    refine ⟨_, row.trans (congrArg _ (if_pos ha)), counted_discard _, ?_⟩
    exact (modCounters_onlyLink s p _).widen.trans (discardHandling_onlyLink _ p)
  · exact fun ha => row.trans (congrArg _ (if_neg ha))

/-- Settles O9: without a receive credit, or on a port that takes no requests, a request in sequence is an overrun. -/
theorem creditOverrun : Obligations.CreditOverrun := by
  intro s p q h ha none
  have row : exec (messageCommand p (.payload s.links[p].expSeq (.request q))) s = .next (s.overrun p) := by
    rw [exec_request h]
    have no : (takesRequests s.links[p].mode && decide (1 ≤ s.links[p].recvCredit[q.reqId])) = false := by
      rcases none with k | k
      · rw [k, Bool.false_and]
      · rw [k]; exact Bool.and_false _
    simp only [State.receiveRequest, ha, no, if_true, Bool.false_eq_true, if_false]
  set c : State := s.modCounters p fun c => { c with overruns := satInc Config.counterMax c.overruns } with hc
  set r : State := c.raise .overrun (bitDetail p.1) with hr
  have kept : (r.discardHandling p).causes.entries[causeIx .overrun] = r.causes.entries[causeIx .overrun] := by
    rw [State.discardHandling, State.addHealth]
    exact testHealth_cause _ p (by decide)
  refine ⟨r.discardHandling p, row, ?_, ?_, ?_, ?_⟩
  · have counted : r.links[p] = c.links[p] := rfl
    rw [hc, State.modCounters, modLink_get] at counted
    conv_lhs => rw [discardHandling_link]
    simp only [counted]
    rfl
  · rw [kept]; exact raise_pending c _ _
  · rw [kept]; exact raise_bits c _ _ rfl
  · exact ((modCounters_onlyLink s p _).widen.trans (raise_onlyLink _ p _ _)).trans (discardHandling_onlyLink _ p)

/-- A request in sequence against a receive credit is accepted and taken in (R10). -/
theorem exec_accepted (h : s.running) (ha : s.links[p].state = .active) (ht : takesRequests s.links[p].mode = true) {q : Request}
    (credit : 1 ≤ s.links[p].recvCredit[q.reqId]) :
    exec (messageCommand p (.payload s.links[p].expSeq (.request q))) s = .next (((s.acceptPayload p).modLink p fun u =>
      { u with recvCredit := mapAt u.recvCredit q.reqId fun c => c - 1 }).takeRequest p q) := by
  rw [exec_request h]
  simp only [State.receiveRequest, ha, ht, credit, if_true, Bool.true_and, decide_true]

/-- Two changes that agree on the entry they change are one. -/
theorem mapAt_congr {α : Type} {n : Nat} {v : Vector α n} {i : Fin n} {f g : α → α} (h : f v[i] = g v[i]) :
    mapAt v i f = mapAt v i g := by rw [mapAt, mapAt, h]

/-- Changing one requester entry leaves the rest of its stage, and every other. -/
theorem modRequester_stage (s : State) (p : PortIx) (r : ReqId) (f : Requester → Requester) :
    (s.modRequester p r f).stages[p] = { s.stages[p] with requesters := mapAt (s.stages[p]).requesters r f } := by
  simp [State.modRequester]

/-- Settles O7: an ENABLED requester's request is accepted and joins its sub-queue. -/
theorem acceptedRequestJoinsQueue : Obligations.AcceptedRequestJoinsQueue := by
  intro s p q h ha ht credit enabled
  set a : State := (s.acceptPayload p).modLink p fun u => { u with recvCredit := mapAt u.recvCredit q.reqId fun c => c - 1 }
    with hdef
  have taken : a.takeRequest p q = a.modRequester p q.reqId fun e => { e with queue := e.queue ++ [q] } := if_pos enabled
  have accepted : a.links[p] = { s.links[p] with
      expSeq := s.links[p].expSeq + 1, ackOwed := min 16 (s.links[p].ackOwed + 1), episode := false
      recvCredit := mapAt s.links[p].recvCredit q.reqId fun c => c - 1 } := by
    rw [hdef, modLink_get, State.acceptPayload, modLink_get]
    rfl
  refine ⟨_, (exec_accepted h ha ht credit).trans (congrArg _ taken), accepted, modRequester_stage a p _ _,
    fun k hk => modRequester_otherPort a q.reqId _ hk, ?_⟩
  exact (((onlyLink_modLink s p _).trans (onlyLink_modLink _ p _)).widen).trans
    ((modRequester_frame a p _ _).onlyLink p (by simp))

/-- What an offer leaves of a link unit that takes offers (R3). -/
theorem offer_link {t : State} (k : takesOffers t.links[p].state = true) (m : Payload) :
    (t.offer p m).links[p] = { t.links[p] with
      txQueue := t.links[p].txQueue ++ [m]
      sendCredit := match m with
        | .request r => mapAt t.links[p].sendCredit r.reqId fun c => c - 1
        | .response _ => t.links[p].sendCredit } :=
  (modLink_get t p _).trans (if_pos k)

theorem offer_onlyLink (t : State) (p : PortIx) (m : Payload) : OnlyLinkOf p [] t (t.offer p m) := onlyLink_modLink t p _

/-- A DISABLED requester's freed credit is absorbed while some is in force: its target is 0. -/
theorem freeCredit_disabled {e : Requester} (m : PortMode) (h : e.enabled = false) (force : 1 ≤ e.inForce) :
    e.freeCredit m = { e with inForce := e.inForce - 1 } := by
  have target : e.target m = 0 := by simp [Requester.target, h]
  rw [Requester.freeCredit, if_pos (by omega)]

/-- Settles O8: a DISABLED requester's request is accepted, its credit absorbed and DENIED answered on its link. -/
theorem disabledRequesterAnswered : Obligations.DisabledRequesterAnswered := by
  intro s p q h ha ht credit disabled force
  set a : State := (s.acceptPayload p).modLink p fun u => { u with recvCredit := mapAt u.recvCredit q.reqId fun c => c - 1 }
    with hdef
  have accepted : a.links[p] = { s.links[p] with
      expSeq := s.links[p].expSeq + 1, ackOwed := min 16 (s.links[p].ackOwed + 1), episode := false
      recvCredit := mapAt s.links[p].recvCredit q.reqId fun c => c - 1 } := by
    rw [hdef, modLink_get, State.acceptPayload, modLink_get]
    rfl
  set b : State := a.modRequester p q.reqId fun e => e.freeCredit a.links[p].mode with hb
  have taken : a.takeRequest p q = b.respond p (isRead q.body) q.reqId q.tag .denied none :=
    if_neg (show ¬ _ by rw [show (a.stages[p].requesters[q.reqId]).enabled = false from disabled]; decide)
  have link : b.links[p] = a.links[p] := rfl
  have offered : (b.respond p (isRead q.body) q.reqId q.tag .denied none).links[p] = _ :=
    offer_link (by rw [link, accepted]; simp only [ha, takesOffers]) _
  rw [link, accepted] at offered
  refine ⟨_, (exec_accepted h ha ht credit).trans (congrArg _ taken), ?_, ?_, ?_, ?_, ?_⟩
  · rw [offered]; rfl
  · rw [offered]
  · rw [offered]
  · show (b.stages[p]).requesters = _
    rw [hb, modRequester_stage]
    show mapAt (s.stages[p]).requesters q.reqId (fun e => e.freeCredit a.links[p].mode) = _
    refine mapAt_congr ?_
    exact freeCredit_disabled a.links[p].mode disabled force
  · exact ((((onlyLink_modLink s p _).trans (onlyLink_modLink _ p _)).widen).trans
      ((modRequester_frame a p _ _).onlyLink p (by simp))).trans (offer_onlyLink b p _).widen

end receive

end Sys2Proof.Machine

/-! PROOF. Acknowledgement, replays, credit messages and the link timers (R5 to R9, R14, R19, R20). -/

namespace Sys2Proof.Machine

/-! ### The retry buffer -/

/-- The number after the acknowledged one, counted from the oldest message. -/
theorem oldest_add_ahead (o s : Seq) : o + BitVec.ofNat 8 ((s - o).toNat + 1) = s + 1 := by bv_omega

/-- LACK(s) removes the messages up to s; a replay position among them moves on to the message after s, and a replay ends on an
empty buffer (R5). -/
theorem dropAcked_lack (u : LinkUnit) (s : Seq) :
    u.dropAcked (u.ahead s + 1) = { u with
      retry := u.retry.drop ((s - u.oldest).toNat + 1)
      replayPos := u.replayPos.bind fun q => if u.retry.length ≤ (s - u.oldest).toNat + 1 then none
        else some (if (q - u.oldest).toNat ≤ (s - u.oldest).toNat then s + 1 else q) } := by
  rw [dropAcked_eq]
  congr 1
  simp only [LinkUnit.dropAcked, LinkUnit.ahead, List.isEmpty_iff, List.drop_eq_nil_iff, oldest_add_ahead, Nat.lt_succ_iff]
  cases u.replayPos with
  | none => rfl
  | some q => simp only [Option.bind_some]; split_ifs <;> rfl

/-- Removing every buffered message ends a replay (R5). -/
theorem dropAcked_all (u : LinkUnit) {d : Nat} (h : u.retry.length ≤ d) :
    u.dropAcked d = { u with retry := [], replayPos := none } := by
  have none : u.retry.drop d = [] := List.drop_eq_nil_iff.mpr h
  simp only [LinkUnit.dropAcked, none, List.isEmpty_nil, if_true]
  cases u.replayPos <;> rfl

section replays
variable (s : State) (p : PortIx)

theorem ackProgress_link (d : Nat) : (s.ackProgress p d).links[p] = { s.links[p].dropAcked d with
    replayCount := 0
    replayTimer := if s.links[p].retry.length ≤ d then none else some ⟨s.time, s.settings.retryTimeout⟩ } := by
  rw [State.ackProgress, modLink_get]
  simp only [LinkUnit.dropAcked, List.isEmpty_iff, List.drop_eq_nil_iff, State.timer]

/-- What a retrain's entry leaves of the link unit (R16). -/
theorem enterRetrain_link : (s.enterRetrain p).links[p] = { s.links[p] with
    state := .retrain
    replayPos := none
    replayTimer := none
    episode := false
    trnOwed := some false
    trainTimer := some ⟨s.time, s.settings.trainTimeout⟩
    attempt := some 1
    counters := { s.links[p].counters with retrains := satInc (2 ^ 32 - 1) s.links[p].counters.retrains } } := by
  rw [State.enterRetrain, State.modCounters, modLink_get, modLink_get]
  rfl

variable {s p}

/-- A counted replay below the limit (R9). -/
theorem countedReplay_low (h : s.links[p].replayCount < 3) (q : Seq) : (s.countedReplay p q).links[p] = { s.links[p] with
    replayCount := s.links[p].replayCount + 1
    counters := { s.links[p].counters with replays := satInc (2 ^ 32 - 1) s.links[p].counters.replays }
    replayPos := some q
    replayTimer := some ⟨s.time, s.settings.retryTimeout⟩ } := by
  rw [State.countedReplay, if_pos (show _ < Config.replayLimit from h), State.startReplay, modLink_get, State.modCounters, modLink_get, modLink_get]
  rfl

/-- At the limit a replay becomes a retrain (R9). -/
theorem countedReplay_full (h : 3 ≤ s.links[p].replayCount) (q : Seq) : s.countedReplay p q = s.enterRetrain p :=
  if_neg (Nat.not_lt.mpr h)

variable {q : Seq}

/-- With messages left after the removal, a replay from `q` below the limit: Q starts again when messages were removed (R6, R9). -/
theorem replayFrom_low (h : s.links[p].ahead q < s.links[p].retry.length)
    (low : (if s.links[p].ahead q = 0 then s.links[p].replayCount else 0) < 3) :
    (s.replayFrom p q).links[p] = { s.links[p] with
      retry := s.links[p].retry.drop (s.links[p].ahead q)
      replayPos := some q
      replayCount := (if s.links[p].ahead q = 0 then s.links[p].replayCount else 0) + 1
      replayTimer := some ⟨s.time, s.settings.retryTimeout⟩
      counters := { s.links[p].counters with replays := satInc (2 ^ 32 - 1) s.links[p].counters.replays } } := by
  have left {t : State} (k : t.links[p].retry ≠ []) (c : t.links[p].replayCount < 3) :
      (if t.links[p].retry.isEmpty then t else t.countedReplay p q).links[p] = { t.links[p] with
        replayCount := t.links[p].replayCount + 1
        counters := { t.links[p].counters with replays := satInc (2 ^ 32 - 1) t.links[p].counters.replays }
        replayPos := some q
        replayTimer := some ⟨t.time, t.settings.retryTimeout⟩ } := by
    rw [if_neg (by simpa using k), countedReplay_low c]
  unfold State.replayFrom
  dsimp only
  by_cases zero : s.links[p].ahead q = 0
  · rw [if_pos zero] at low
    simp only [zero, if_true]
    rw [left (fun k => by rw [k] at h; exact absurd h (Nat.not_lt_zero _)) low, List.drop_zero]
  · simp only [zero, if_false]
    have removed := ackProgress_link s p (s.links[p].ahead q)
    rw [left (by rw [removed]; simpa [LinkUnit.dropAcked] using h)
      (by rw [removed]; exact Nat.zero_lt_succ 2), removed]
    rfl

/-- At the limit, with nothing removed, the link enters RETRAIN (R9). -/
theorem replayFrom_full (h : s.links[p].ahead q < s.links[p].retry.length)
    (full : 3 ≤ if s.links[p].ahead q = 0 then s.links[p].replayCount else 0) : s.replayFrom p q = s.enterRetrain p := by
  have zero : s.links[p].ahead q = 0 := by
    by_contra k
    rw [if_neg k] at full
    omega
  rw [if_pos zero] at full
  unfold State.replayFrom
  dsimp only
  rw [if_pos zero, if_neg (fun k => by rw [List.isEmpty_iff.mp k] at h; exact absurd h (Nat.not_lt_zero _)), countedReplay_full full]

/-- With no message left, an acknowledgement alone, if anything went (R6). -/
theorem replayFrom_none (h : s.links[p].ahead q = s.links[p].retry.length) :
    s.replayFrom p q = if s.links[p].ahead q = 0 then s else s.ackProgress p (s.links[p].ahead q) := by
  have stop {t : State} (k : t.links[p].retry = []) : (if t.links[p].retry.isEmpty then t else t.countedReplay p q) = t := by
    rw [if_pos (by rw [k]; rfl)]
  unfold State.replayFrom
  dsimp only
  refine stop ?_
  split
  · next zero => exact List.eq_nil_of_length_eq_zero (h ▸ zero)
  · rw [ackProgress_link, dropAcked_all _ h.ge]

/-- The whole buffer acknowledged (R5). -/
theorem ackProgress_all (s : State) (p : PortIx) {d : Nat} (h : d = s.links[p].retry.length) :
    (s.ackProgress p d).links[p] = { s.links[p] with retry := [], replayPos := none, replayCount := 0, replayTimer := none } := by
  rw [ackProgress_link, dropAcked_all _ h.ge, if_pos h.ge]

end replays

/-! ### LACK, LNAK and CRED -/

/-- Settles O12: the buffer loses what was acknowledged, with Q and the timer served in ACTIVE. -/
theorem lackRemovesAcknowledged : Obligations.LackRemovesAcknowledged := by
  intro s p seq h u d pos
  have row : exec (.lackReceived p seq) s = .next (if u.ahead seq < u.retry.length then
      match u.state with
      | .active => s.ackProgress p (u.ahead seq + 1)
      | .retrain => s.modLink p fun v => v.dropAcked (u.ahead seq + 1)
      | .down | .training | .failed => s else s) := event_running h _
  refine ⟨fun hd ha => ?_, fun hd hr => ?_, fun hd => ?_⟩
  · rw [if_pos (show u.ahead seq < u.retry.length from hd)] at row
    simp only [ha] at row
    refine ⟨_, row, ?_, ackProgress_onlyLink s p _⟩
    rw [ackProgress_link]
    have same : s.links[p].retry.length ≤ u.ahead seq + 1 ↔ u.retry.length = d + 1 :=
      ⟨fun k => Nat.le_antisymm k hd, fun k => k.le⟩
    simp only [same]
    rw [dropAcked_lack s.links[p] seq]
  · rw [if_pos (show u.ahead seq < u.retry.length from hd)] at row
    simp only [hr] at row
    exact ⟨_, row, (modLink_get s p _).trans (dropAcked_lack u seq), onlyLink_modLink s p _⟩
  · rwa [if_neg (show ¬ u.ahead seq < u.retry.length from Nat.not_lt.mpr hd)] at row

/-- Settles O13: the messages before the number go, and what remains is replayed, or retrained at the limit. -/
theorem lnakRemovesAndReplays : Obligations.LnakRemovesAndReplays := by
  intro s p seq h u d count
  have row (ha : u.state = .active) (hd : d ≤ u.retry.length) :
      exec (.lnakReceived p seq) s = .next (s.replayFrom p seq) :=
    (event_running h _).trans (congrArg _ (if_pos ⟨ha, hd⟩))
  refine ⟨fun ha hd low => ?_, fun ha hd full => ?_, fun ha hd pos => ?_, fun none => ?_⟩
  · exact ⟨_, row ha hd.le, replayFrom_low hd low, replayFrom_onlyLink s p seq⟩
  · refine ⟨_, (row ha hd.le).trans (congrArg _ (replayFrom_full hd full)), enterRetrain_link s p, enterRetrain_onlyLink s p⟩
  · have all := (replayFrom_none (s := s) (p := p) (q := seq) hd).trans (if_neg pos.ne')
    exact ⟨_, (row ha hd.le).trans (congrArg _ all), ackProgress_all s p hd, ackProgress_onlyLink s p _⟩
  · show execLnakReceived p seq s = _
    rw [execLnakReceived, event_running h]
    dsimp only
    split
    · next hc =>
      obtain ⟨ha, hd⟩ := hc
      rcases none with k | k | k
      · exact absurd ha k
      · exact absurd hd (Nat.not_le.mpr k)
      · have empty : s.links[p].retry = [] := k
        have zero : s.links[p].ahead seq = 0 := by
          rw [empty] at hd; exact Nat.le_zero.mp hd
        rw [replayFrom_none (by rw [zero, empty]; rfl), if_pos zero]
    · rfl

/-- Settles O14: a count of 1 to 64 raises the send credit where the link takes offers. -/
theorem credRaisesSendCredit : Obligations.CredRaisesSendCredit := by
  intro s p r count h low high
  have row : exec (.credReceived p r count) s = .next (s.modLink p fun u => if takesOffers u.state then
      { u with sendCredit := mapAt u.sendCredit r fun c => min Config.sendCreditMax (c + count) } else u) :=
    by
      show execCredReceived p r count s = _
      rw [execCredReceived, event_running h, if_pos ⟨low, high⟩]
  constructor
  · intro takes
    refine ⟨_, row, ?_, onlyLink_modLink s p _⟩
    rw [modLink_get, if_pos takes]
    rfl
  · intro down
    have takes : takesOffers s.links[p].state = false := by rcases down with k | k <;> rw [k] <;> rfl
    rw [row, State.modLink, mapAt_of_fixed (by rw [if_neg (by rw [takes]; decide)])]

/-! ### Timers of the link -/

/-- Settles O20: the expiry is counted and scored, and a counted replay from the oldest message follows. -/
theorem replayTimerExpires : Obligations.ReplayTimerExpires := by
  intro s p h due u
  set c : State := s.modCounters p fun c => { c with replayExpiries := satInc Config.counterMax c.replayExpiries } with hc
  set a : State := c.addHealth p Config.expiryHealth with ha
  have row : exec (.replayTimerExpiry p) s = .next (a.countedReplay p a.links[p].oldest) :=
    (event_running h _).trans (congrArg _ (if_pos due))
  have frame : OnlyLinkOf p [.causes] s a := (modCounters_onlyLink s p _).widen.trans (addHealth_onlyLink _ p _)
  have counted : c.links[p] = { u with
      counters := { u.counters with replayExpiries := satInc (2 ^ 32 - 1) u.counters.replayExpiries } } := modLink_get s p _
  have scored := addHealth_link c p Config.expiryHealth
  rw [← ha] at scored
  simp only [counted] at scored
  generalize a.links[p].healthState = hs at scored
  have time : a.time = s.time := frame.1 .time (by simp)
  have settings : a.settings = s.settings := frame.1 .settings (by simp)
  have count : a.links[p].replayCount = u.replayCount := by rw [scored]
  have oldest : a.links[p].oldest = u.oldest := by rw [scored]; rfl
  constructor
  · intro low
    refine ⟨_, row, ?_, frame.trans (countedReplay_onlyLink a p _).widen⟩
    rw [countedReplay_low (count ▸ low), oldest, time, settings, scored]
    rfl
  · intro full
    rw [countedReplay_full (count ▸ full)] at row
    refine ⟨_, row, ?_, frame.trans (enterRetrain_onlyLink a p).widen⟩
    rw [enterRetrain_link, time, settings, scored]
    rfl

end Sys2Proof.Machine

/-! PROOF. Health decay and the transmit arbiter (R4, R19, R20). -/

namespace Sys2Proof.Machine

/-- A GOOD link unit at or above the weak mark raises LINK_WEAK with its port's bit (R20). -/
theorem testHealth_raises {s : State} {p : PortIx} (good : s.links[p].healthState = .good)
    (high : s.settings.weakMark ≤ s.links[p].health) :
    ((s.testHealth p).causes.entries[causeIx .linkWeak]).pending = true
      ∧ ((s.testHealth p).causes.entries[causeIx .linkWeak]).detail &&& bitDetail p.1 = bitDetail p.1 := by
  have weak : s.testHealth p = (s.modLink p fun u => { u with healthState := .weak }).raise .linkWeak (bitDetail p.1) := by
    unfold State.testHealth
    dsimp only
    split
    · rw [if_pos high]
    · next w => rw [good] at w; cases w
  rw [weak]
  exact ⟨raise_pending _ _ _, raise_bits _ _ _ rfl⟩

/-- Settles O22: the score falls, the timer restarts, and the state is tested at the new score. -/
theorem decayTimerLowersHealth : Obligations.DecayTimerLowersHealth := by
  intro s p h due u
  set a : State := s.modLink p fun u => { u with health := u.health - 1, decayTimer := s.timer Config.decayPeriod } with ha
  have row : exec (.decayTimerExpiry p) s = .next (a.testHealth p) := by
    show execDecayTimerExpiry p s = _
    rw [execDecayTimerExpiry, event_running h, if_pos due]
  have lowered : a.links[p] = { u with health := u.health - 1, decayTimer := ⟨s.time, 1000⟩ } := modLink_get s p _
  refine ⟨_, row, ?_, fun good high => ?_, (onlyLink_modLink s p _).widen.trans (testHealth_onlyLink a p)⟩
  · rw [testHealth_link, testHealth_healthState, lowered]
    rfl
  · exact testHealth_raises (by rw [lowered]; exact good) (by rw [lowered]; exact high)

/-! ### The transmit arbiter -/

section arbiter
variable {s : State} {p : PortIx}

/-- The arbiter's row sends the choice it makes. -/
theorem exec_arbiter (h : s.running) {c : SendChoice} (choice : s.chooseSend p = c) :
    exec (.transmitArbiter p) s = .next (s.send p c) := by
  show execTransmitArbiter p s = _
  rw [execTransmitArbiter, event_running h, choice]

theorem chooseSend_trnr (takes : takesOffers s.links[p].state = true) {v : Seq} (owed : s.links[p].trnrOwed = some v) :
    s.chooseSend p = .trnr v := by
  rw [State.chooseSend, if_pos takes, owed]

theorem chooseSend_trn (takes : takesOffers s.links[p].state = true) (none : s.links[p].trnrOwed = none) {f : Bool}
    (owed : s.links[p].trnOwed = some f) : s.chooseSend p = .trn f := by
  rw [State.chooseSend, if_pos takes, none, owed]

/-- In ACTIVE with no training message owed the arbiter chooses below class 1. -/
theorem chooseSend_active (ha : s.links[p].state = .active) (noTrnr : s.links[p].trnrOwed = none)
    (noTrn : s.links[p].trnOwed = none) : s.chooseSend p = s.chooseActive p := by
  rw [State.chooseSend, if_pos (by rw [ha]; rfl), noTrnr, noTrn]
  exact if_pos ha

/-- A sending that touches its link unit alone. -/
theorem send_modLink {c : SendChoice} {f : LinkUnit → LinkUnit} {v : LinkUnit} (h : s.running) (choice : s.chooseSend p = c)
    (sent : s.send p c = s.modLink p f) (link : f s.links[p] = v) :
    ∃ t, exec (.transmitArbiter p) s = .next t ∧ t.links[p] = v ∧ OnlyLinkOf p [] s t :=
  ⟨_, (exec_arbiter h choice).trans (congrArg _ sent), (modLink_get s p f).trans link, onlyLink_modLink s p f⟩

/-- Settles O18: each class is chosen when it is ready and none before it is. -/
theorem arbiterSendsControl : Obligations.ArbiterSendsControl := by
  intro s p h u
  refine ⟨fun v takes owed => send_modLink h (chooseSend_trnr takes owed) rfl rfl,
    fun f takes none owed => send_modLink h (chooseSend_trn takes none owed) rfl rfl,
    fun ha noTrnr noTrn lnak => ?_, fun ha noTrnr noTrn noLnak high => ?_⟩
  · have choice : s.chooseActive p = .lnak := by rw [State.chooseActive, if_pos lnak]
    exact send_modLink h ((chooseSend_active ha noTrnr noTrn).trans choice) rfl rfl
  · have choice : s.chooseActive p = .lack := by
      rw [State.chooseActive, if_neg (by rw [show s.links[p].lnakOwed = false from noLnak]; decide),
        if_pos (show Config.ackBatch ≤ s.links[p].ackOwed from high)]
    exact send_modLink h ((chooseSend_active ha noTrnr noTrn).trans choice) rfl rfl

/-- The lowest requester id with credit owed is the one a CRED serves (R32). -/
theorem credOwed_some {r : ReqId} (takes : takesRequests s.links[p].mode = true)
    (owed : 1 ≤ ((s.stages[p]).requesters[r]).owed) (lowest : ∀ k : ReqId, k < r → ((s.stages[p]).requesters[k]).owed = 0) :
    s.credOwed p = some r := by
  rw [State.credOwed, if_pos takes, List.find?_eq_some_iff_getElem]
  refine ⟨by simpa using owed, r.1, by simp, by simp, fun j hj => ?_⟩
  have low : (⟨j, hj.trans r.2⟩ : ReqId) < r := hj
  simpa using lowest _ low

/-- No CRED is owed on a port that takes no requests, or with nothing owed. -/
theorem credOwed_none (h : takesRequests s.links[p].mode = false ∨ ∀ r : ReqId, ((s.stages[p]).requesters[r]).owed = 0) :
    s.credOwed p = none := by
  unfold State.credOwed
  rcases h with k | k
  · rw [if_neg (by rw [k]; decide)]
  · split
    · exact List.find?_eq_none.mpr fun r _ => by rw [k r]; decide
    · rfl

/-- Settles O19: below the control classes, CRED, replay, new payload and LACK are chosen in this order. -/
theorem arbiterSendsCreditAndPayload : Obligations.ArbiterSendsCreditAndPayload := by
  intro s p h u owed ha noTrnr noTrn noLnak low
  have below {c : SendChoice} (choice : s.chooseActive p = c) : s.chooseSend p = c :=
    (chooseSend_active ha noTrnr noTrn).trans choice
  have active : s.chooseActive p = match s.credOwed p with
      | some r => .cred r
      | none => match u.replayPos with
        | some q => .replay q
        | none => match u.txQueue with
          | m :: _ => if u.retry.length < Config.retryBufferSize then .payload m else if 1 ≤ u.ackOwed then .lack else .nothing
          | [] => if 1 ≤ u.ackOwed then .lack else .nothing := by
    have noLnak' : ¬ s.links[p].lnakOwed = true := by rw [show s.links[p].lnakOwed = false from noLnak]; decide
    have noUrgent : ¬ Config.ackBatch ≤ s.links[p].ackOwed := Nat.not_le.mpr low
    exact (if_neg noLnak').trans (if_neg noUrgent)
  refine ⟨fun r takes credit lowest => ?_, fun q m none replay message => ?_, fun m rest none noReplay queue room => ?_,
    fun none noReplay nothing ack => ?_⟩
  · rw [credOwed_some takes credit lowest] at active
    refine ⟨_, exec_arbiter h (below active), ?_, ?_, ?_⟩
    · rw [State.send, modLink_get]; rfl
    · exact congrArg IngressStage.requesters (modRequester_stage s p r _)
    · exact ((modRequester_frame s p r _).onlyLink p (by simp)).trans (onlyLink_modLink _ p _).widen
  · rw [credOwed_none none] at active
    simp only [replay] at active
    refine send_modLink h (below active) rfl ?_
    have found : s.links[p].retry[s.links[p].ahead q]? = some m := message
    simp only [found]
    rfl
  · rw [credOwed_none none] at active
    simp only [noReplay, queue] at active
    rw [if_pos (show u.retry.length < Config.retryBufferSize from room)] at active
    refine send_modLink h (below active) rfl ?_
    have front : s.links[p].txQueue = m :: rest := queue
    simp only [front, List.isEmpty_iff]
    rfl
  · rw [credOwed_none none] at active
    have idle : s.chooseActive p = .lack := by
      rcases nothing with k | k
      · simp only [noReplay, k] at active
        rw [active, if_pos ack]
      · simp only [noReplay] at active
        rw [active]
        split
        · rw [if_neg (show ¬ u.retry.length < Config.retryBufferSize from Nat.not_lt.mpr k), if_pos ack]
        · rw [if_pos ack]
    exact send_modLink h (below idle) rfl rfl

end arbiter

end Sys2Proof.Machine

/-! PROOF. Reset and the time base (R169, R174), READ_CAUSE (R171) and the reading commands. -/

namespace Sys2Proof.Machine

/-! ### Reset and the tick -/

/-- Settles O60: reset is read off the power-on values, and a tick folds the rows of the expiries that are due. -/
theorem resetAndTimeBase : Obligations.ResetAndTimeBase := by
  refine fun s => ⟨?power, fun held => ?release, fun running => ?tick, ?waits⟩
  case power =>
    refine ⟨{ State.held with pending := s.pending }, rfl, rfl, rfl, rfl, rfl, fun i => ?_, fun w => ?_, rfl, fun c => ?_⟩
    · simp [State.held, Ott.reset, OttEntry.freed]
    · simp [State.held, Window.reset]
    · simp [State.held]
  case release =>
    refine ⟨{ State.reset with pending := s.pending }, congrArg _ (if_pos held), rfl, rfl, fun p => ?_⟩
    simp [State.reset, LinkUnit.released, LinkUnit.held, Timer.fromZero]
  case tick =>
    refine ⟨_, event_running running fun s => { s.dueExpiries.foldl State.takeExpiry s with time := s.time + 1 }, rfl, fun none => ?_, s.dueExpiries, nodup_dueExpiries s, fun x => mem_dueExpiries, ?_⟩
    · have nothing : s.dueExpiries = [] := List.eq_nil_iff_forall_not_mem.mpr fun x hx => by
        simp [none x] at hx
      rw [nothing]
      exact fun x h => by cases x <;> first | rfl | exact absurd (by simp) h
    · refine congrArg (fun v : State => { v with time := s.time + 1 }) (List.foldl_ext _ _ s fun u x _ => ?_)
      rw [exec_expiry_row, expiry_next]
  case waits => exact fun held => event_held held fun s => { s.dueExpiries.foldl State.takeExpiry s with time := s.time + 1 }

/-! ### READ_CAUSE -/

section cause
variable (s : State)

/-- The first cause pending is the pending one below which none is. -/
theorem firstCause_some {c : Fin 14} (pending : (s.causes.entries[c]).pending = true)
    (lowest : ∀ k : Fin 14, k < c → (s.causes.entries[k]).pending = false) : s.firstCause = some c := by
  rw [State.firstCause, List.find?_eq_some_iff_getElem]
  refine ⟨pending, c.1, by simp, by simp, fun j hj => ?_⟩
  have low : (⟨j, hj.trans c.2⟩ : Fin 14) < c := hj
  simpa using lowest _ low

theorem firstCause_none (no : ∀ k : Fin 14, (s.causes.entries[k]).pending = false) : s.firstCause = none :=
  List.find?_eq_none.mpr fun k _ => by rw [no k]; decide

/-- A sum of powers of two is the number whose bits say which of them are in it. -/
theorem sum_pow_eq_ofBits {n : Nat} (f : Fin n → Bool) :
    ((List.finRange n).map fun c => if f c then 2 ^ c.1 else 0).sum = Nat.ofBits f := by
  induction n with
  | zero => rfl
  | succ n ih =>
    have doubled : ((List.finRange n).map fun c : Fin n => if f c.succ then 2 ^ (c.1 + 1) else 0).sum
        = 2 * ((List.finRange n).map fun c : Fin n => if (f ∘ Fin.succ) c then 2 ^ c.1 else 0).sum := by
      rw [← List.sum_map_mul_left]
      exact congrArg List.sum (List.map_congr_left fun c _ => by simp [Nat.pow_succ, Nat.mul_comm])
    rw [Nat.ofBits_succ, ← ih, ← doubled, List.finRange_succ]
    cases h : f 0 <;> simp [h, Function.comp_def, Nat.add_comm]

/-- Bit n − 1 of the mask stands for cause n. -/
theorem causeMask_testBit (k : Fin 14) : s.causeMask.testBit k.1 = (s.causes.entries[k]).pending := by
  rw [State.causeMask, sum_pow_eq_ofBits, Nat.testBit_ofBits_lt _ _ k.2]

/-- Reading a cause takes it: what remains is the register with that cause cleared. -/
theorem readCause_some {c : Fin 14} (first : s.firstCause = some c) :
    s.readCause = (s.modCause c fun e => { e with pending := false, detail := 0 }).returns
      (beBytes 1 (c.1 + 1) ++ beBytes 2 (s.causes.entries[c]).detail.toNat
        ++ beBytes 2 (s.modCause c fun e => { e with pending := false, detail := 0 }).causeMask) := by
  rw [State.readCause, first]

/-- Raised while it is not pending, a cause holds the raised detail alone (R170). -/
theorem raise_clear (c : Cause) (d : BitVec 16) (clear : (s.causes.entries[causeIx c]).pending = false) :
    (s.raise c d).causes.entries[causeIx c] = { s.causes.entries[causeIx c] with pending := true, detail := d } := by
  rw [raise_get, if_neg (by rw [clear]; decide)]

theorem modCause_get (c : Fin 14) (f : CauseEntry → CauseEntry) :
    (s.modCause c f).causes.entries[c] = f s.causes.entries[c] := mapAt_get_self _ c f

theorem modCause_other {c k : Fin 14} (h : k ≠ c) (f : CauseEntry → CauseEntry) :
    (s.modCause c f).causes.entries[k] = s.causes.entries[k] := mapAt_get_ne _ c k f h.symm

end cause

@[simp] theorem beBytes_one (v : Nat) : beBytes 1 v = [BitVec.ofNat 8 v] := by simp [beBytes]

@[simp] theorem beBytes_length (k v : Nat) : (beBytes k v).length = k := by
  induction k with
  | zero => rfl
  | succ k ih => simp [beBytes, ih]

/-- Settles O57: the lowest pending cause is found, and its entry alone is cleared. -/
theorem readCauseTakesLowest : Obligations.ReadCauseTakesLowest := by
  refine fun s may => ⟨fun c pending lowest => ?_, fun none => ?_⟩
  · set u : State := s.modCause c fun e => { e with pending := false, detail := 0 } with hu
    have answer : s.readCause = u.returns _ := readCause_some s (firstCause_some s pending lowest)
    have entry : u.causes.entries[c] = ⟨false, 0, (s.causes.entries[c]).enabled⟩ := modCause_get s c _
    have others (k : Fin 14) (hk : k ≠ c) : u.causes.entries[k] = s.causes.entries[k] := modCause_other s hk _
    refine ⟨_, u.causeMask, take_may may _, ?_, fun k => ?_, ?_, fun k hk => ?_, fun x d hx => ?_, ?_⟩
    · rw [answer, answer_mgmt s _ _ rfl, beBytes_one]
      rfl
    · rw [causeMask_testBit]
      by_cases hk : k = c
      · simp [hk, entry]
      · simp [hk, others k hk]
    · rw [answer]; exact entry
    · rw [answer]; exact others k hk
    · subst hx
      rw [answer, raise_clear (State.answer (u.returns _) _) x d (congrArg CauseEntry.pending entry)]
      exact ⟨rfl, rfl⟩
    · rw [answer]
      exact ((causes_frame s u.causes).mono (by simp)).trans ((answer_frame (u.returns _) _).mono (by simp))
  · have answer : s.readCause = s.returns (beBytes 1 0 ++ beBytes 2 0 ++ beBytes 2 0) := by
      rw [State.readCause, firstCause_none s none]
    refine ⟨_, take_may may _, ?_, ?_⟩
    · rw [answer, answer_mgmt s _ _ rfl]; rfl
    · rw [answer]; exact answer_frame (s.returns _) _

/-! ### The reading commands -/

@[simp] theorem toIx_val {n : Nat} (i : Fin n) : toIx n i.1 = some i := by simp [toIx]

@[simp] theorem flagByte_eq (b : Bool) : flagByte b = [BitVec.ofNat 8 (flagCode b)] := by simp [flagByte]

@[simp] theorem optBytes_length (k : Nat) (v : Option Nat) : (optBytes k v).length = k + 1 := by
  cases v <;> simp [optBytes]

@[simp] theorem timeLeft_length (t : Option Timer) (now : Time) : (timeLeft t now).length = 7 := by simp [timeLeft]

@[simp] theorem legBytes_length (l : WindowLeg) : (State.legBytes l).length = 7 := by simp [State.legBytes]

@[simp] theorem counterBytes_length (c : LinkCounters) : (State.counterBytes c).length = 32 := by simp [State.counterBytes]

@[simp] theorem slotBytes_length (k : CopySlot) : (State.slotBytes k).length = 12 := by simp [State.slotBytes]

@[simp] theorem sweepView_length (s : State) (p : PortIx) : (s.sweepView p).length = 4 := by simp [State.sweepView]

@[simp] theorem closerBytes_length (s : State) : s.closerBytes.length = 4 := by simp [State.closerBytes]

@[simp] theorem engineBytes_length (s : State) : s.engineBytes.length = 87 := by simp [State.engineBytes]

/-- A command that returns data answers OK with them and changes nothing else. -/
theorem reads_answer {s : State} {i : Instr} {cmd : State → Reply} {front : List Byte} {length : Nat} (may : s.mayTake i)
    (returns : cmd s = s.returns (cmd s).data) (len : (cmd s).data.length = length) (starts : front <+: (cmd s).data) :
    ∃ t data, s.take i cmd = .next t ∧ t.mgmt = s.answered i.code .ok data ∧ data.length = length
      ∧ front <+: data ∧ SameExcept [.mgmt] s t := by
  refine ⟨_, (cmd s).data, take_may may cmd, ?_, len, starts, ?_⟩
  · rw [returns, answer_mgmt s (s.returns _) i.code rfl]
    rfl
  · rw [returns]
    exact answer_frame (s.returns _) i.code

/-- Settles O56: each reading command returns data of fixed length and leaves the state. -/
theorem readingCommandsAnswer : Obligations.ReadingCommandsAnswer := by
  intro s reads
  refine ⟨fun p may => ?port, fun p may => ?link, fun p r may => ?requester, fun w may => ?window, fun k may => ?tenant,
    fun c may => ?card, fun f may => ?profile, fun p k may => ?congestion, fun may => ?ring, fun may => ?time,
    fun may => ?close, fun may => ?restore, fun may => ?rebuild⟩
  case port =>
    refine reads_answer (cmd := fun s => s.readPort p.1) may ?_ ?_ ?_ <;> simp [State.readPort, State.returns]
  case link =>
    refine reads_answer (cmd := fun s => s.readLink p.1) may ?_ ?_ ?_ <;> simp [State.readLink, State.returns]
  case requester =>
    refine reads_answer (cmd := fun s => s.readRequester p.1 r.1) may ?_ ?_ ?_ <;> simp [State.readRequester, State.returns]
  case window =>
    refine reads_answer (cmd := fun s => s.readWindow w.1) may ?_ ?_ ?_ <;> simp [State.readWindow, State.returns]
  case tenant =>
    refine reads_answer (cmd := fun s => s.readTenant k.1) may ?_ ?_ ?_ <;> simp [State.readTenant, State.returns]
  case card =>
    refine reads_answer (cmd := fun s => s.readRateCard c.1) may ?_ ?_ ?_ <;> simp [State.readRateCard, State.returns]
  case profile =>
    refine reads_answer (cmd := fun s => s.readProfile f.1) may ?_ ?_ ?_ <;> simp [State.readProfile, State.returns]
  case congestion =>
    refine reads_answer (cmd := fun s => s.readCongestion p.1 k.1) may ?_ ?_ ?_ <;> simp [State.readCongestion, State.returns]
  case ring =>
    refine reads_answer (cmd := fun s => s.readRing) may ?_ ?_ ?_ <;> simp [State.readRing, State.returns]
  case time =>
    refine reads_answer (cmd := fun s => s.readTime) may ?_ ?_ ?_ <;> simp [State.readTime, State.returns]
  case close =>
    refine reads_answer (cmd := fun s => s.readJob 0) may ?_ ?_ ?_ <;> simp [State.readJob, State.returns, State.jobBytes]
  case restore =>
    refine reads_answer (cmd := fun s => s.readJob 1) may ?_ ?_ ?_ <;> simp [State.readJob, State.returns, State.jobBytes]
  case rebuild =>
    refine reads_answer (cmd := fun s => s.readJob 2) may ?_ ?_ ?_ <;> simp [State.readJob, State.returns, State.jobBytes]

end Sys2Proof.Machine

/-! PROOF. The frames of the management port, and the encodings of commands and messages. -/

namespace Sys2Proof.Machine

/-! ### The management port's frames -/

/-- The bytes clocked on MISO are the front of the response frame padded with zeros (R178). -/
theorem clocked_prefix (bytes : List Byte) (n : Nat) :
    ((List.range n).map fun k => bytes.getD k 0) <+: bytes ++ List.replicate n 0 := by
  rw [List.prefix_iff_eq_take]
  refine List.ext_getElem (by simp) fun k hk _ => ?_
  simp only [List.length_map, List.length_range] at hk
  simp only [List.getElem_map, List.getElem_range, List.getElem_take, List.getElem_append, List.getD_eq_getElem?_getD]
  split
  · simp [*]
  · simp [List.getElem?_eq_none (Nat.le_of_not_lt ‹_›)]

/-- A changed management port leaves every other part. -/
theorem mgmt_frame (s : State) (m : Mgmt) : SameExcept [.mgmt] s { s with mgmt := m } := fun x h => by
  cases x <;> first | rfl | exact absurd (by simp) h

/-- A read frame returns the response frame after its low byte and changes nothing else. -/
theorem exec_readFrame {s : State} (h : s.running) (n : Nat) :
    ∃ t, exec (.readFrame n) s = .next t ∧ t.mgmt.miso.length = n + 1
      ∧ t.mgmt.miso <+: 0 :: (s.readResponse.bytes ++ List.replicate n 0)
      ∧ t.mgmt = { s.mgmt with miso := t.mgmt.miso } ∧ SameExcept [.mgmt] s t := by
  let miso : List Byte := 0 :: (List.range n).map fun k => s.readResponse.bytes.getD k 0
  refine ⟨{ s with mgmt := { s.mgmt with miso := miso } }, ?_, ?_, ?_, rfl, mgmt_frame s _⟩
  · show execReadFrame n s = _
    rw [execReadFrame, event_running h]
  · simp [miso]
  · exact List.cons_prefix_cons.mpr ⟨rfl, clocked_prefix _ n⟩

/-- Settles O44: each frame writes the port's own fields. -/
theorem managementFrames : Obligations.ManagementFrames := by
  intro s h
  refine ⟨fun f none => ?_, fun f g pending => ?_, fun n none => ?_, fun n f pending => ?_, fun code mine => ?_⟩
  · refine ⟨{ s with mgmt := { s.mgmt with inHand := some f, miso := List.replicate (f.bytes.length + 1) 0 } }, ?_, rfl, rfl, rfl,
      mgmt_frame s _⟩
    show execCommandFrame f s = _
    rw [execCommandFrame, event_running h, none]
  · refine ⟨{ s with mgmt := { s.mgmt with overlap := true, miso := List.replicate (f.bytes.length + 1) 0 } }, ?_, pending, rfl, rfl,
      mgmt_frame s _⟩
    show execCommandFrame f s = _
    rw [execCommandFrame, event_running h, pending]
  · obtain ⟨t, row, length, starts, kept, frame⟩ := exec_readFrame h n
    refine ⟨t, row, length, ?_, kept, frame⟩
    simpa [State.readResponse, none, ResponseFrame.bytes] using starts
  · obtain ⟨t, row, length, starts, kept, frame⟩ := exec_readFrame h n
    refine ⟨t, row, length, ⟨Config.pendingOverlap s.mgmt.overlap, ?_⟩, kept, frame⟩
    simpa [State.readResponse, pending, ResponseFrame.bytes, mgmtStatusCode] using starts
  · have may : s.mayTake (.malformedCommand code) := ⟨h, mine⟩
    exact ⟨_, take_may may fun s => s.refuse .badArg, answer_mgmt s (s.refuse .badArg) code rfl,
      answer_frame (s.refuse .badArg) code⟩

/-! ### Numbers in bytes -/

/-- Bytes read most significant first carry what was read before them. -/
theorem foldl_beBytes (k v acc : Nat) :
    (beBytes k v).foldl (fun acc b => acc * 256 + b.toNat) acc = acc * 256 ^ k + v % 256 ^ k := by
  induction k generalizing acc with
  | zero => simp [beBytes, Nat.mod_one]
  | succ k ih =>
    rw [beBytes, List.foldl_cons, ih, Nat.pow_succ, Nat.mod_mul, BitVec.toNat_ofNat, Nat.add_mul, Nat.mul_assoc,
      Nat.mul_comm 256 (256 ^ k), Nat.add_assoc, Nat.mul_comm (v / 256 ^ k % 2 ^ 8), Nat.add_comm (v % 256 ^ k)]

/-- A field's bytes hold its value modulo what fits them. -/
theorem ofBe_beBytes_mod (k v : Nat) : ofBe (beBytes k v) = v % 256 ^ k := by
  rw [ofBe, foldl_beBytes, Nat.zero_mul, Nat.zero_add]

theorem ofBe_beBytes {k v : Nat} (h : v < 256 ^ k) : ofBe (beBytes k v) = v :=
  (ofBe_beBytes_mod k v).trans (Nat.mod_eq_of_lt h)

/-- A signed amount is read back from its two's complement. -/
theorem ofTwos_twos {v : Int} (low : -2 ^ 31 ≤ v) (high : v < 2 ^ 31) : ofTwos 32 (twos 32 v) = v := by
  have unsigned : (twos 32 v : Int) = v % (2 ^ 32 : Nat) := Int.toNat_of_nonneg (Int.emod_nonneg _ (by decide))
  rw [ofTwos]
  split <;> omega

/-! ### Command frames -/

/-- The bytes of arguments that fit their widths. -/
theorem splitArgs_beBytes (args : List (Nat × Nat)) (fit : argsFit args = true) :
    splitArgs (args.map Prod.fst) (args.flatMap fun a => beBytes a.1 a.2) = args.map Prod.snd := by
  induction args with
  | nil => rfl
  | cons a args ih =>
    obtain ⟨first, rest⟩ : a.2 < 256 ^ a.1 ∧ argsFit args = true := by simpa [argsFit] using fit
    simp only [List.map_cons, List.flatMap_cons, splitArgs]
    rw [List.take_left' (beBytes_length _ _), List.drop_left' (beBytes_length _ _), ofBe_beBytes first, ih rest]

/-- Command codes and argument lengths are bytes. -/
theorem argWidths_lt {c : Nat} {ws : List Nat} (h : argWidths c = some ws) : c < 256 ∧ ws.sum < 256 := by
  unfold argWidths at h
  split at h <;> cases h <;> decide

/-- A command's frame is decoded by its code's widths and builder. -/
theorem decodeFrame_frame {i : Instr} {code : Nat} {args : List (Nat × Nat)} (widths : argWidths code = some (args.map Prod.fst))
    (fit : argsFit args = true) (build : buildCommand code (args.map Prod.snd) = some i) :
    decodeFrame ⟨BitVec.ofNat 8 code :: BitVec.ofNat 8 (args.flatMap fun a => beBytes a.1 a.2).length
      :: args.flatMap fun a => beBytes a.1 a.2, false⟩ = i := by
  obtain ⟨codeFits, lengthFits⟩ := argWidths_lt widths
  have length : (args.flatMap fun a => beBytes a.1 a.2).length = (args.map Prod.fst).sum := by
    simp [List.length_flatMap]
  have codeByte : (BitVec.ofNat 8 code).toNat = code := Nat.mod_eq_of_lt codeFits
  have lengthByte : (BitVec.ofNat 8 (args.map Prod.fst).sum).toNat = (args.map Prod.fst).sum := Nat.mod_eq_of_lt lengthFits
  simp only [decodeFrame, codeByte, widths, length, lengthByte, splitArgs_beBytes args fit, build]
  simp

/-- Table 10-2 read in both directions: a well-formed command has its code's widths, fits them, and is built from its
arguments. -/
theorem command_roundTrip {i : Instr} {code : Nat} {args : List (Nat × Nat)} (wf : i.WellFormed = true)
    (h : i.command = some (code, args)) :
    argWidths code = some (args.map Prod.fst) ∧ argsFit args = true ∧ buildCommand code (args.map Prod.snd) = some i := by
  cases i
  case adjustTenant tenant amount =>
    cases h
    simp only [Instr.WellFormed, amountOk, Bool.and_eq_true, decide_eq_true_eq] at wf
    obtain ⟨tenantFits, low, high⟩ := wf
    refine ⟨rfl, ?_, ?_⟩
    · have unsigned : (twos 32 amount : Int) = amount % (2 ^ 32 : Nat) := Int.toNat_of_nonneg (Int.emod_nonneg _ (by decide))
      have amountFits : twos 32 amount < 4294967296 := by omega
      simp [argsFit, tenantFits, amountFits]
    · show some (Instr.adjustTenant tenant (ofTwos 32 (twos 32 amount))) = _
      rw [ofTwos_twos low high]
  case setWindow window tenant base length access pp pb pi present mp mb mi =>
    cases h
    simp only [Instr.WellFormed, Bool.and_eq_true, bne_iff_ne] at wf
    obtain ⟨nonzero, fit⟩ := wf
    have build : buildCommand 7 [window, tenant, base, length, access, pp, pb, pi, present, mp, mb, mi] =
        if length = 0 then some (.setWindowClear window)
        else some (.setWindow window tenant base length access pp pb pi present mp mb mi) := rfl
    exact ⟨rfl, fit, build.trans (if_neg nonzero)⟩
  all_goals cases h
  all_goals exact ⟨rfl, wf, rfl⟩

/-- Settles O2: by Table 10-2 in both directions. -/
theorem frameDecodesToCommand : Obligations.FrameDecodesToCommand := by
  intro i f wf frame
  obtain ⟨⟨code, args⟩, command, rfl⟩ := Option.map_eq_some_iff.mp frame
  obtain ⟨widths, fit, build⟩ := command_roundTrip wf command
  exact decodeFrame_frame widths fit build

/-! ### Messages -/

/-- The bytes as sent pass the check of their own CRC (R2). -/
theorem passesCrc_sent (body : List Byte) : passesCrc (body ++ beBytes 2 (crc16 body).toNat) = true := by
  have fits : (crc16 body).toNat < 256 ^ 2 := (crc16 body).isLt
  simp [passesCrc, ofBe_beBytes fits]

/-- Bytes with their CRC are received as what the bytes before it stand for. -/
theorem receivedBytes_sent {p : PortIx} {body : List Byte} {m : Message} (h : parseBody body = some m) :
    receivedBytes p (body ++ beBytes 2 (crc16 body).toNat) = messageCommand p m := by
  have front : (body ++ beBytes 2 (crc16 body).toNat).take ((body ++ beBytes 2 (crc16 body).toNat).length - 2) = body := by simp
  rw [receivedBytes, if_pos (passesCrc_sent body), front, h]

/-- A field is read back from where its bytes lie. -/
theorem fieldAt_beBytes (before rest : List Byte) (k v : Nat) :
    fieldAt (before ++ (beBytes k v ++ rest)) before.length k = v % 256 ^ k := by
  rw [fieldAt, List.drop_left, List.take_left' (beBytes_length k v), ofBe_beBytes_mod]

/-- A line's data are read back from where their bytes lie. -/
theorem dataAt_toList (before rest : List Byte) (d : LineData) : dataAt (before ++ (d.toList ++ rest)) before.length = d := by
  refine Vector.ext fun k hk => ?_
  have inside : k < d.toList.length := by simpa using hk
  simp [dataAt, List.getElem?_append_right, List.getElem?_append_left inside, hk]

/-- The bytes that a request's kind, sequence number, requester id, tag and line make. -/
def requestHead (kind : Byte) (seq : Seq) (r : Request) : List Byte :=
  [kind, seq, BitVec.ofNat 8 r.reqId.1] ++ beBytes 2 r.tag.toNat ++ beBytes 6 r.line.toNat

theorem reqIdOf_val (r : ReqId) : reqIdOf (r.1 % 256) = r := by
  refine Fin.ext ?_
  simp only [reqIdOf]
  omega

/-- A request's fields are read back from its head. -/
theorem parseRequest_head (kind : Byte) (seq : Seq) (r : Request) (rest : List Byte) :
    parseRequest (requestHead kind seq r ++ rest) r.body = .payload seq (.request r) := by
  have reqId : fieldAt (requestHead kind seq r ++ rest) 2 1 = r.reqId.1 % 256 := by
    simpa [requestHead] using fieldAt_beBytes [kind, seq] (beBytes 2 r.tag.toNat ++ (beBytes 6 r.line.toNat ++ rest)) 1 r.reqId.1
  have tag : fieldAt (requestHead kind seq r ++ rest) 3 2 = r.tag.toNat % 256 ^ 2 := by
    simpa [requestHead] using
      fieldAt_beBytes [kind, seq, BitVec.ofNat 8 r.reqId.1] (beBytes 6 r.line.toNat ++ rest) 2 r.tag.toNat
  have line : fieldAt (requestHead kind seq r ++ rest) 5 6 = r.line.toNat % 256 ^ 6 := by
    simpa [requestHead] using
      fieldAt_beBytes ([kind, seq, BitVec.ofNat 8 r.reqId.1] ++ beBytes 2 r.tag.toNat) rest 6 r.line.toNat
  have tagFits : r.tag.toNat % 256 ^ 2 = r.tag.toNat := Nat.mod_eq_of_lt r.tag.isLt
  have lineFits : r.line.toNat % 256 ^ 6 = r.line.toNat := Nat.mod_eq_of_lt (by omega)
  simp only [parseRequest, reqId, tag, line, tagFits, lineFits, reqIdOf_val, BitVec.ofNat_toNat, BitVec.setWidth_eq]
  rfl

/-- The bytes that a response's kind, sequence number, requester id, tag and status make. -/
def responseHead (kind : Byte) (seq : Seq) (r : Response) : List Byte :=
  [kind, seq, BitVec.ofNat 8 r.reqId.1] ++ beBytes 2 r.tag.toNat ++ beBytes 1 (statusCode r.status)

theorem toStatus_statusCode (st : Status) : toStatus (statusCode st % 256 ^ 1) = st := by cases st <;> rfl

theorem status_field (kind : Byte) (seq : Seq) (r : Response) (rest : List Byte) :
    toStatus (fieldAt (responseHead kind seq r ++ rest) 5 1) = r.status := by
  have status : fieldAt (responseHead kind seq r ++ rest) 5 1 = statusCode r.status % 256 ^ 1 := by
    simpa [responseHead] using
      fieldAt_beBytes ([kind, seq, BitVec.ofNat 8 r.reqId.1] ++ beBytes 2 r.tag.toNat) rest 1 (statusCode r.status)
  rw [status, toStatus_statusCode]

/-- A response's fields are read back from its head. -/
theorem parseResponse_head (kind : Byte) (seq : Seq) (r : Response) (rest : List Byte) :
    parseResponse (responseHead kind seq r ++ rest) r.kind r.data = .payload seq (.response r) := by
  have reqId : fieldAt (responseHead kind seq r ++ rest) 2 1 = r.reqId.1 % 256 := by
    simpa [responseHead] using
      fieldAt_beBytes [kind, seq] (beBytes 2 r.tag.toNat ++ (beBytes 1 (statusCode r.status) ++ rest)) 1 r.reqId.1
  have tag : fieldAt (responseHead kind seq r ++ rest) 3 2 = r.tag.toNat % 256 ^ 2 := by
    simpa [responseHead] using
      fieldAt_beBytes [kind, seq, BitVec.ofNat 8 r.reqId.1] (beBytes 1 (statusCode r.status) ++ rest) 2 r.tag.toNat
  have tagFits : r.tag.toNat % 256 ^ 2 = r.tag.toNat := Nat.mod_eq_of_lt r.tag.isLt
  simp only [parseResponse, reqId, tag, tagFits, status_field, reqIdOf_val, BitVec.ofNat_toNat, BitVec.setWidth_eq]
  rfl

@[simp] theorem requestHead_length (kind : Byte) (seq : Seq) (r : Request) : (requestHead kind seq r).length = 11 := by
  simp [requestHead]

@[simp] theorem responseHead_length (kind : Byte) (seq : Seq) (r : Response) : (responseHead kind seq r).length = 6 := by
  simp [responseHead]

section kinds
variable {b : List Byte}

theorem parseBody_rd (kind : (b.getD 0 0).toNat = 1) (length : b.length = 11) : parseBody b = some (parseRequest b .rd) := by
  rw [parseBody, kind, length]
  rfl

theorem parseBody_wr (kind : (b.getD 0 0).toNat = 2) (length : b.length = 75) :
    parseBody b = some (parseRequest b (.wr (dataAt b 11))) := by
  rw [parseBody, kind, length]
  rfl

theorem parseBody_wrm (kind : (b.getD 0 0).toNat = 3) (length : b.length = 83) :
    parseBody b = some (parseRequest b (.wrm (dataAt b 11) (BitVec.ofNat 64 (fieldAt b 75 8)))) := by
  rw [parseBody, kind, length]
  rfl

theorem parseBody_goodRdata (kind : (b.getD 0 0).toNat = 4) (length : b.length = 70) (good : toStatus (fieldAt b 5 1) = .good) :
    parseBody b = some (parseResponse b .rdata (some (dataAt b 6))) := by
  rw [parseBody, kind, length]
  exact if_pos good

theorem parseBody_otherRdata (kind : (b.getD 0 0).toNat = 4) (length : b.length = 6) (other : toStatus (fieldAt b 5 1) ≠ .good) :
    parseBody b = some (parseResponse b .rdata none) := by
  rw [parseBody, kind, length]
  exact if_neg other

theorem parseBody_wack (kind : (b.getD 0 0).toNat = 5) (length : b.length = 6) :
    parseBody b = some (parseResponse b .wack none) := by
  rw [parseBody, kind, length]
  rfl

end kinds

/-- A request is read back from its head and body, by its kind and length. -/
theorem parseBody_request (seq : Seq) (r : Request) :
    parseBody (requestHead (BitVec.ofNat 8 (reqKindCode r.body)) seq r ++ reqBodyBytes r.body) = some (.payload seq (.request r)) := by
  have parsed := parseRequest_head (BitVec.ofNat 8 (reqKindCode r.body)) seq r (reqBodyBytes r.body)
  obtain ⟨id, tag, line, body⟩ := r
  cases body with
  | rd => exact (parseBody_rd rfl (by simp [reqBodyBytes])).trans (congrArg some parsed)
  | wr d =>
    have data := dataAt_toList (requestHead 2 seq ⟨id, tag, line, .wr d⟩) [] d
    rw [List.append_nil, requestHead_length] at data
    refine (parseBody_wr rfl (by simp [reqBodyBytes])).trans ((congrArg (fun d => some (parseRequest _ (.wr d))) data).trans ?_)
    exact congrArg some parsed
  | wrm d mask =>
    have data := dataAt_toList (requestHead 3 seq ⟨id, tag, line, .wrm d mask⟩) (beBytes 8 mask.toNat) d
    rw [requestHead_length] at data
    have bits := fieldAt_beBytes (requestHead 3 seq ⟨id, tag, line, .wrm d mask⟩ ++ d.toList) [] 8 mask.toNat
    rw [show mask.toNat % 256 ^ 8 = mask.toNat from Nat.mod_eq_of_lt mask.isLt, List.append_nil, List.append_assoc,
      List.length_append, requestHead_length, Vector.length_toList] at bits
    have mask_eq : BitVec.ofNat 64 _ = mask := (congrArg (BitVec.ofNat 64) bits).trans (by simp)
    refine (parseBody_wrm rfl (by simp [reqBodyBytes])).trans
      ((congrArg₂ (fun d mask => some (parseRequest _ (.wrm d mask))) data mask_eq).trans ?_)
    exact congrArg some parsed

/-- A response is read back from its head and data, by its kind, length and status. -/
theorem parseBody_response (seq : Seq) (r : Response) (ok : messageOk (.payload seq (.response r)) = true) :
    parseBody (responseHead (BitVec.ofNat 8 (respKindCode r.kind)) seq r ++ (r.data.map Vector.toList).getD [])
      = some (.payload seq (.response r)) := by
  have parsed := parseResponse_head (BitVec.ofNat 8 (respKindCode r.kind)) seq r ((r.data.map Vector.toList).getD [])
  have status := status_field (BitVec.ofNat 8 (respKindCode r.kind)) seq r ((r.data.map Vector.toList).getD [])
  obtain ⟨kind, id, tag, st, data⟩ := r
  match kind, data with
  | .rdata, some d =>
    have good : st = .good := by simpa [messageOk, rdataOk] using ok
    have read := dataAt_toList (responseHead 4 seq ⟨.rdata, id, tag, st, some d⟩) [] d
    rw [List.append_nil, responseHead_length] at read
    refine (parseBody_goodRdata rfl (by simp) (status.trans good)).trans
      ((congrArg (fun d => some (parseResponse _ .rdata (some d))) read).trans ?_)
    exact congrArg some parsed
  | .rdata, none =>
    have other : st ≠ .good := by simpa [messageOk, rdataOk] using ok
    exact (parseBody_otherRdata rfl (by simp) (by rwa [status])).trans (congrArg some parsed)
  | .wack, none => exact (parseBody_wack rfl (by simp)).trans (congrArg some parsed)

/-- A message that may be sent is read back from its bytes (Tables 1-2 and 11-1). -/
theorem parseBody_messageBody {m : Message} (ok : messageOk m = true) : parseBody (messageBody m) = some m := by
  match m with
  | .payload seq (.request r) =>
    have sent : messageBody (.payload seq (.request r))
        = requestHead (BitVec.ofNat 8 (reqKindCode r.body)) seq r ++ reqBodyBytes r.body := by
      simp [messageBody, requestHead]
    rw [sent, parseBody_request]
  | .payload seq (.response r) =>
    have sent : messageBody (.payload seq (.response r))
        = responseHead (BitVec.ofNat 8 (respKindCode r.kind)) seq r ++ (r.data.map Vector.toList).getD [] := by
      cases h : r.data <;> simp [messageBody, responseHead, h]
    rw [sent, parseBody_response seq r ok]
  | .lack seq => rfl
  | .lnak seq => rfl
  | .trnr seq => rfl
  | .cred req count =>
    have fits : count % 256 = count := by
      simp only [messageOk, credCountOk, Bool.and_eq_true, decide_eq_true_eq] at ok
      omega
    have reqField : fieldAt (messageBody (.cred req count)) 1 1 = req.1 % 256 := fieldAt_beBytes [10] (beBytes 1 count) 1 req.1
    have countField : fieldAt (messageBody (.cred req count)) 2 1 = count :=
      (fieldAt_beBytes ([10] ++ beBytes 1 req.1) [] 1 count).trans fits
    show (if credCountOk (fieldAt (messageBody (.cred req count)) 2 1) then
      some (Message.cred (reqIdOf (fieldAt (messageBody (.cred req count)) 1 1)) (fieldAt (messageBody (.cred req count)) 2 1)) else none) = _
    rw [reqField, countField, reqIdOf_val]
    exact if_pos ok
  | .trn mode seq fresh => cases mode <;> cases fresh <;> rfl

/-- Settles O3: the bytes pass the CRC, and what stands before it is read back. -/
theorem messageBytesReceived : Obligations.MessageBytesReceived := by
  intro p m ok
  exact receivedBytes_sent (parseBody_messageBody ok)

end Sys2Proof.Machine

/-! PROOF. The commands that write settings: rate cards, profiles, timing, marks, the epoch period, the billing ring and
requesters. -/

namespace Sys2Proof.Machine

/-! ### What a command answered OK, or refused, leaves -/

/-- A command that makes `u` of the state and answers OK leaves `u` but for the management port, which answers. -/
theorem command_okay {s u : State} {i : Instr} {cmd : State → Reply} {parts : List Part} (may : s.mayTake i)
    (rule : cmd s = u.okay) (frame : SameExcept parts s u) (quiet : Part.mgmt ∉ parts) :
    ∃ t, s.take i cmd = .next t ∧ t.mgmt = s.answered i.code .ok [] ∧ SameExcept [.mgmt] u t
      ∧ SameExcept (parts ++ [.mgmt]) s t := by
  have mgmt : u.mgmt = s.mgmt := frame .mgmt quiet
  have answered : SameExcept [.mgmt] u (State.answer u.okay i.code) := answer_frame u.okay i.code
  have kept : SameExcept (parts ++ [.mgmt]) s u := frame.mono (List.subset_append_left _ _)
  refine ⟨_, take_may may cmd, ?_, ?_, ?_⟩ <;> rw [rule]
  · have answer := answer_mgmt s u.okay i.code mgmt
    exact answer
  · exact answered
  · exact kept.trans (answered.mono (List.subset_append_right _ _))

/-- A command that is refused is answered with the refusal's status and changes nothing else. -/
theorem command_refused {s : State} {i : Instr} {cmd : State → Reply} {status : MgmtStatus} (may : s.mayTake i)
    (rule : cmd s = s.refuse status) :
    ∃ t, s.take i cmd = .next t ∧ t.mgmt = s.answered i.code status [] ∧ SameExcept [.mgmt] s t := by
  refine ⟨_, take_may may cmd, ?_, ?_⟩ <;> rw [rule]
  · have answer := answer_mgmt s (s.refuse status) i.code rfl
    rwa [show (s.refuse status).data = [] from rfl, ite_self] at answer
  · exact answer_frame (s.refuse status) i.code

/-! ### Arguments -/

@[simp] theorem toFlag_flagCode (b : Bool) : toFlag (flagCode b) = some b := by cases b <;> rfl

@[simp] theorem toRounding_roundingCode (m : Rounding) : toRounding (roundingCode m) = some m := by cases m <;> rfl

@[simp] theorem toAccess_accessCode (a : Access) : toAccess (accessCode a) = some a := by cases a <;> rfl

theorem within_iff {lo hi v : Nat} : within lo hi v = true ↔ lo ≤ v ∧ v ≤ hi := by simp [within]

section frames
variable (s : State)

theorem cards_frame (v : Vector RateCard 16) : SameExcept [.cards] s { s with cards := v } := fun x h => by
  cases x <;> first | rfl | exact absurd (by simp) h

theorem profiles_frame (v : Vector Profile 4) : SameExcept [.profiles] s { s with profiles := v } := fun x h => by
  cases x <;> first | rfl | exact absurd (by simp) h

theorem settings_frame (v : Settings) : SameExcept [.settings] s { s with settings := v } := fun x h => by
  cases x <;> first | rfl | exact absurd (by simp) h

theorem closerField_frame (v : Closer) : SameExcept [.closer] s { s with closer := v } := fun x h => by
  cases x <;> first | rfl | exact absurd (by simp) h

theorem ringField_frame (v : Ring) : SameExcept [.ring] s { s with ring := v } := fun x h => by
  cases x <;> first | rfl | exact absurd (by simp) h

end frames

/-! ### Rate cards and profiles -/

/-- Writing a profile's entry is read back at its level. -/
theorem entry_setEntry (f : Profile) {level : Nat} (low : 1 ≤ level) (high : level ≤ 3) (w : Widths) :
    (f.setEntry level w).entry level = w := by
  obtain rfl | rfl | rfl : level = 1 ∨ level = 2 ∨ level = 3 := by omega
  all_goals rfl

/-- Writing a profile's entry leaves the entries of the other levels. -/
theorem entry_setEntry_ne (f : Profile) {level n : Nat} (low : 1 ≤ level) (high : level ≤ 3) (h : n ≠ level) (w : Widths) :
    (f.setEntry level w).entry n = f.entry n := by
  obtain rfl | rfl | rfl : level = 1 ∨ level = 2 ∨ level = 3 := by omega
  all_goals match n with
    | 0 => rfl
    | 1 => first | rfl | exact absurd rfl h
    | 2 => first | rfl | exact absurd rfl h
    | 3 => first | rfl | exact absurd rfl h
    | n + 4 => rfl

/-- Settles O48: one table entry is written, and pacers that use a written profile entry are resumed. -/
theorem cardAndProfileWritten : Obligations.CardAndProfileWritten := by
  refine fun s => ⟨fun c rr wr surcharge m carry may hrr hwr hs => ?card, fun f level o cl may low high ho hc => ?profile,
    fun f level o cl may out => ?refused⟩
  case card =>
    have rule : s.setRateCard c.1 rr wr surcharge (roundingCode m) (flagCode carry)
        = ({ s with cards := mapAt s.cards c fun _ => ⟨rr, wr, surcharge, m, carry⟩ } : State).okay := by
      simp only [State.setRateCard, toIx_val, toRounding_roundingCode, toFlag_flagCode]
      exact if_neg (by omega)
    obtain ⟨t, row, answer, kept, frame⟩ :=
      command_okay (cmd := fun s => s.setRateCard c.1 rr wr surcharge (roundingCode m) (flagCode carry)) may rule (cards_frame s _)
        (by decide)
    have cards : t.cards = mapAt s.cards c fun _ => ⟨rr, wr, surcharge, m, carry⟩ := kept .cards (by simp)
    refine ⟨t, row, answer, ?_, fun d hd => ?_, frame⟩ <;> rw [cards]
    · exact mapAt_get_self _ c _
    · exact mapAt_get_ne _ c d _ hd.symm
  case profile =>
    set u : State := { s with profiles := mapAt s.profiles f fun p => p.setEntry level ⟨o, cl⟩ } with hu
    set v : State := (u.pacersOn f level).foldl (fun s t => s.resumePacing t) u with hv
    have rule : s.setProfile f.1 level o cl = v.okay := by
      simp only [State.setProfile, toIx_val]
      refine if_neg ?_
      have inRange : within 1 3 level = true := within_iff.mpr ⟨low, high⟩
      simp only [inRange]
      simp only [Bool.not_true, Bool.false_eq_true, false_or]
      omega
    have resumed : SameExcept [.pacers, .tenants] u v := .foldl resumePacing_frame _ u
    obtain ⟨t, row, answer, kept, frame⟩ := command_okay (cmd := fun s => s.setProfile f.1 level o cl) may rule
      (((profiles_frame s _).mono (by simp)).trans (resumed.mono (more := [.profiles, .pacers, .tenants]) (by simp))) (by decide)
    have profiles : t.profiles = u.profiles := (kept .profiles (by simp)).trans (resumed .profiles (by simp))
    refine ⟨t, row, answer, ?_, fun n hn => ?_, fun g hg => ?_, frame⟩ <;> rw [profiles]
    · rw [show u.profiles[f] = _ from mapAt_get_self _ f _]
      exact entry_setEntry _ low high _
    · rw [show u.profiles[f] = _ from mapAt_get_self _ f _]
      exact entry_setEntry_ne _ low high hn _
    · exact mapAt_get_ne _ f g _ hg.symm
  case refused =>
    have outside : within 1 3 level = false := by
      rw [Bool.eq_false_iff, Ne, within_iff]
      omega
    have rule : s.setProfile f.1 level o cl = s.refuse .badArg := by
      simp only [State.setProfile, toIx_val, outside]
      exact if_pos (.inl rfl)
    exact command_refused (cmd := fun s => s.setProfile f.1 level o cl) may rule

/-! ### Timing, marks and the epoch period -/

/-- The same change of several stages, reading one of them. -/
theorem foldl_modStage_get (f : IngressStage → IngressStage) (again : ∀ g, f (f g) = f g) (l : List PortIx) (s : State) (p : PortIx) :
    (l.foldl (fun s q => s.modStage q f) s).stages[p] = if p ∈ l then f s.stages[p] else s.stages[p] := by
  induction l generalizing s with
  | nil => simp
  | cons q l ih =>
    have step : (s.modStage q f).stages[p] = if q = p then f s.stages[p] else s.stages[p] := mapAt_get _ q p f
    rw [List.foldl_cons, ih, step]
    by_cases hq : q = p
    · subst hq
      rw [if_pos rfl, if_pos (List.mem_cons_self ..), again, ite_self]
    · rw [if_neg hq]
      simp only [List.mem_cons, Ne.symm hq, false_or]

/-- The health state that a test gives a link unit (R20). -/
def LinkUnit.testedHealth (u : LinkUnit) (k : Settings) : Health :=
  match u.healthState with
  | .good => if k.weakMark ≤ u.health then .weak else .good
  | .weak => if u.health < k.recoverMark then .good else .weak

theorem testHealth_tested (s : State) (p : PortIx) :
    ((s.testHealth p).links[p]).healthState = s.links[p].testedHealth s.settings := testHealth_healthState s p

/-- Testing several links gives each of them the state of its own test. -/
theorem foldl_testHealth_healthState {l : List PortIx} (nodup : l.Nodup) (s : State) (p : PortIx) :
    (l.foldl (fun s q => s.testHealth q) s).links[p].healthState =
      if p ∈ l then s.links[p].testedHealth s.settings else s.links[p].healthState := by
  induction l generalizing s with
  | nil => simp
  | cons q l ih =>
    obtain ⟨fresh, nodup⟩ := List.nodup_cons.mp nodup
    have settings : (s.testHealth q).settings = s.settings := testHealth_frame s q .settings (by simp)
    rw [List.foldl_cons, ih nodup, settings]
    by_cases hq : p = q
    · subst hq
      rw [if_neg fresh, if_pos (List.mem_cons_self ..), testHealth_tested]
    · have other : (s.testHealth q).links[p] = s.links[p] := (testHealth_onlyLink s q).2 p hq
      simp only [other, List.mem_cons, hq, false_or]

/-- The ports that SET_TIMING names with limit port 0 to 16. -/
theorem limitPorts_mem {n : Nat} (h : n ≤ 16) :
    ∃ ports, State.limitPorts n = some ports ∧ ∀ p : PortIx, p ∈ ports ↔ n = 16 ∨ n = p.1 := by
  by_cases all : n = 16
  · exact ⟨List.finRange 16, if_pos all, fun p => by simp [all]⟩
  · have small : n < 16 := by omega
    refine ⟨[⟨n, small⟩], ?_, fun p => ?_⟩
    · rw [State.limitPorts, if_neg all, toIx, dif_pos small]
      rfl
    · simp [all, Fin.ext_iff, eq_comm]

/-- Settles O51: each command writes its settings, and the marks are followed by a test of every link. -/
theorem timingMarksAndEpochWritten : Obligations.TimingMarksAndEpochWritten := by
  refine fun s => ⟨fun retry train completion relief port limit may h1 h2 h3 h4 h5 h6 h7 h8 hport h9 h10 => ?timing,
    fun weak recover backlog latency share may h1 h2 h3 h4 h5 h6 h7 h8 h9 h10 => ?marks, fun period may high => ?epoch⟩
  case timing =>
    obtain ⟨ports, named, member⟩ := limitPorts_mem hport
    set u : State := { s with settings := { s.settings with
      retryTimeout := retry, trainTimeout := train, completionTimeout := completion, reliefInterval := relief } } with hu
    set v : State := ports.foldl (fun s p => s.modStage p fun g => { g with ottLimit := limit }) u with hv
    have rule : s.setTiming retry train completion relief port limit = v.okay := by
      simp only [State.setTiming, named]
      exact if_pos (by simp only [Bool.and_eq_true, within_iff]; omega)
    have limits : SameExcept [.stages] u v := .foldl (fun s p => modStage_frame s p _) _ u
    obtain ⟨t, row, answer, kept, frame⟩ :=
      command_okay (cmd := fun s => s.setTiming retry train completion relief port limit) may rule
        (((settings_frame s _).mono (by simp)).trans (limits.mono (more := [.settings, .stages]) (by simp))) (by decide)
    have settings : t.settings = u.settings := (kept .settings (by simp)).trans (limits .settings (by simp))
    have stages : t.stages = v.stages := kept .stages (by simp)
    refine ⟨t, row, answer, settings, fun p => ?_, frame⟩
    rw [stages, hv, foldl_modStage_get (fun g => { g with ottLimit := limit }) (fun _ => rfl)]
    by_cases here : p ∈ ports
    · rw [if_pos here, if_pos ((member p).mp here)]
    · rw [if_neg here, if_neg (mt (member p).mpr here)]
  case marks =>
    intro stored
    set u : State := { s with settings := { s.settings with
      weakMark := weak, recoverMark := stored, backlogMark := backlog, latencyMark := latency, share := share } } with hu
    set v : State := (List.finRange 16).foldl (fun s p => s.testHealth p) u with hv
    have rule : s.setMarks weak recover backlog latency share = v.okay :=
      if_pos (by simp only [Bool.and_eq_true, within_iff]; omega)
    have tested : SameExcept [.links, .causes] u v := .foldl testHealth_frame _ u
    obtain ⟨t, row, answer, kept, frame⟩ := command_okay (cmd := fun s => s.setMarks weak recover backlog latency share) may rule
        (((settings_frame s _).mono (by simp)).trans (tested.mono (more := [.settings, .links, .causes]) (by simp))) (by decide)
    have settings : t.settings = u.settings := (kept .settings (by simp)).trans (tested .settings (by simp))
    have links : t.links = v.links := kept .links (by simp)
    refine ⟨t, row, answer, settings, fun p => ?_, frame⟩
    rw [links, hv, foldl_testHealth_healthState (List.nodup_finRange 16), if_pos (List.mem_finRange p)]
    rfl
  case epoch =>
    have rule : s.setEpoch period = ({ s with closer := { s.closer with
        period := period
        timer := if period = 0 then none else some (s.timer (epochMicros period))
        lateCount := 0 } } : State).okay := if_neg (by omega)
    obtain ⟨t, row, answer, kept, frame⟩ := command_okay (cmd := fun s => s.setEpoch period) may rule (closerField_frame s _) (by decide)
    exact ⟨t, row, answer, kept .closer (by simp), frame⟩

/-! ### The billing ring -/

/-- The ring as SET_BILLING_RING configures it (R129). -/
def Ring.configuredAs (r : Ring) (base n producer consumer : Nat) : Ring := { r with
  configured := true
  base := BitVec.ofNat 52 base
  slots := n
  producerLoc := BitVec.ofNat 52 producer
  consumerLoc := BitVec.ofNat 52 consumer
  prod := 0
  cons := 0
  watch := [] }

theorem ringSizeOk_pow {k : Nat} (low : 4 ≤ k) (high : k ≤ 16) : State.ringSizeOk (2 ^ k) = true := by
  rw [State.ringSizeOk, List.any_eq_true]
  refine ⟨k - 4, List.mem_range.mpr (by omega), ?_⟩
  rw [Nat.sub_add_cancel low, beq_self_eq_true]

theorem locationOk_iff {a : Nat} : State.locationOk a = true ↔ a % 4 = 0 ∧ a < 2 ^ 52 := by simp [State.locationOk]

theorem toNat_ofNat52 {a : Nat} (h : a < 2 ^ 52) : (BitVec.ofNat 52 a).toNat = a := Nat.mod_eq_of_lt h

/-- Settles O52: the ring is written afresh and its writer issues an index write, unless it is busy. -/
theorem billingRingConfigured : Obligations.BillingRingConfigured := by
  intro s base k producer consumer may low high aligned room pAligned pFits cAligned cFits
  have fit : base % 64 = 0 ∧ State.ringSizeOk (2 ^ k) ∧ base + 2 ^ k * 64 ≤ 2 ^ 52 ∧ State.locationOk producer
      ∧ State.locationOk consumer :=
    ⟨aligned, ringSizeOk_pow low high, room, locationOk_iff.mpr ⟨pAligned, pFits⟩, locationOk_iff.mpr ⟨cAligned, cFits⟩⟩
  refine ⟨fun ready => ?_, fun configured busy => ?_⟩
  · set u : State := { s with ring := s.ring.configuredAs base (2 ^ k) producer consumer } with hu
    have rule : s.setBillingRing base (2 ^ k) producer consumer = u.issueIndex.okay := by
      rw [State.setBillingRing, if_pos fit, if_neg]
      · rfl
      · rintro ⟨configured, busy⟩
        rcases ready with h | ⟨idle, empty⟩
        · rw [h] at configured; cases configured
        · exact busy.elim (· idle) (· empty)
    have issued : SameExcept [.ring, .fabric] s u.issueIndex :=
      ((ringField_frame s _).mono (by simp)).trans (issueIndex_frame u)
    obtain ⟨t, row, answer, kept, frame⟩ :=
      command_okay (cmd := fun s => s.setBillingRing base (2 ^ k) producer consumer) may rule issued (by decide)
    have ring : t.ring = u.issueIndex.ring := kept .ring (by simp)
    have fabric : t.fabric = u.issueIndex.fabric := kept .fabric (by simp)
    have producerLoc : u.ring.producerLoc.toNat = producer := toNat_ofNat52 pFits
    have baseFits : base < 2 ^ 52 := by
      have : 0 < 2 ^ k := Nat.two_pow_pos k
      omega
    refine ⟨t, row, answer, ?_, ?_, ?_, ?_, ?_, ?_, ?_, ?_, ?_, ?_, frame⟩
    · rw [ring]; rfl
    · rw [ring]; exact toNat_ofNat52 baseFits
    · rw [ring]; rfl
    · rw [ring]; exact producerLoc
    · rw [ring]; exact toNat_ofNat52 cFits
    · rw [ring]; rfl
    · rw [ring]; rfl
    · rw [ring]; rfl
    · rw [ring]; rfl
    · rw [fabric, State.issueIndex, producerLoc]
      rfl
  · have rule : s.setBillingRing base (2 ^ k) producer consumer = s.refuse .busy := by
      rw [State.setBillingRing, if_pos fit, if_pos ⟨configured, busy⟩]
    exact command_refused (cmd := fun s => s.setBillingRing base (2 ^ k) producer consumer) may rule

/-! ### Requesters -/

/-- SET_REQUESTER's change of an entry: the settings are written, and the credit in force follows the target (R28 to R30). -/
def Requester.rewritten (e : Requester) (enable : Bool) (k : TenantIx) (grant : Nat) (u : LinkUnit) : Requester :=
  ({ e with enabled := enable, tenant := k, grant := grant } : Requester).follow (e.target u.mode) u.mode u.state

section rewritten
variable (e : Requester) (enable : Bool) (k : TenantIx) (grant : Nat) (u : LinkUnit)

/-- The target of the written entry. -/
def writtenTarget : Nat := if enable && takesRequests u.mode then grant else 0

theorem rewritten_same (same : writtenTarget enable grant u = e.target u.mode) :
    e.rewritten enable k grant u = ⟨enable, k, grant, e.inForce, e.owed, e.queue⟩ := if_pos same

variable (changed : writtenTarget enable grant u ≠ e.target u.mode)
include changed

theorem rewritten_rise (session : u.state = .active ∨ u.state = .retrain) (rise : e.inForce < writtenTarget enable grant u) :
    e.rewritten enable k grant u = ⟨enable, k, grant, writtenTarget enable grant u,
      e.owed + (writtenTarget enable grant u - e.inForce), e.queue⟩ :=
  (if_neg changed).trans ((if_pos session).trans (if_pos rise))

theorem rewritten_fall (session : u.state = .active ∨ u.state = .retrain) (fall : writtenTarget enable grant u ≤ e.inForce) :
    e.rewritten enable k grant u = ⟨enable, k, grant, e.inForce - min e.owed (e.inForce - writtenTarget enable grant u),
      e.owed - min e.owed (e.inForce - writtenTarget enable grant u), e.queue⟩ :=
  (if_neg changed).trans ((if_pos session).trans (if_neg (Nat.not_lt.mpr fall)))

theorem rewritten_idle (other : ¬ (u.state = .active ∨ u.state = .retrain)) :
    e.rewritten enable k grant u = ⟨enable, k, grant, writtenTarget enable grant u, e.owed, e.queue⟩ :=
  (if_neg changed).trans (if_neg other)

end rewritten

/-- SET_REQUESTER in range, with no state against it, rewrites the entry. -/
theorem setRequester_rule {s : State} {p : PortIx} {r : ReqId} {enable : Bool} {k : TenantIx} {grant : Nat} (notFabric : k ≠ 0) :
    grant + s.othersGrants p r ≤ 64 → s.requesterBlocked p r enable k = false →
    s.setRequester p.1 r.1 (flagCode enable) k.1 grant
      = (s.modRequester p r fun e => e.rewritten enable k grant s.links[p]).okay := by
  intro room free
  have inRange : ¬ (k = 0 ∨ 64 < grant ∨ Config.ingressSlots < grant + s.othersGrants p r) := by
    rintro (h | h | h)
    · exact notFabric h
    · exact absurd ((Nat.le_add_right ..).trans room) (Nat.not_le.mpr h)
    · exact absurd room (Nat.not_le.mpr h)
  simp only [State.setRequester, toIx_val, toFlag_flagCode]
  rw [if_neg inRange, if_neg (by rw [free]; decide)]
  rfl

/-- Settles O46: the entry is written and its credit follows the target; the other entries stand. -/
theorem setRequesterWritesEntry : Obligations.SetRequesterWritesEntry := by
  intro s p r enable k grant may notFabric room free
  have rule := setRequester_rule notFabric room free
  clear room
  obtain ⟨t, row, answer, kept, frame⟩ := command_okay (cmd := fun s => s.setRequester p.1 r.1 (flagCode enable) k.1 grant) may
    rule (modRequester_frame s p r _) (by decide)
  have stages : t.stages = _ := kept .stages (by simp)
  have entry : (t.stages[p]).requesters[r] = ((s.stages[p]).requesters[r]).rewritten enable k grant s.links[p] := by
    rw [stages, modRequester_get]
  refine ⟨t, row, answer, fun same => entry.trans ?_, fun changed session rise => entry.trans ?_,
    fun changed session fall => entry.trans ?_, fun changed other => entry.trans ?_, fun j hj => ?_, frame⟩
  · exact rewritten_same _ enable k grant _ same
  · exact rewritten_rise _ enable k grant _ changed session rise
  · exact rewritten_fall _ enable k grant _ changed session fall
  · exact rewritten_idle _ enable k grant _ changed other
  · rw [stages, modRequester_other s p _ hj]

end Sys2Proof.Machine

/-! PROOF. The commands that write tenant records (R104, R105, R112, R113), windows (R45 to R49) and walks (R123, R126). -/

namespace Sys2Proof.Machine

/-! ### What the pacer changes in tenant records -/

/-- Only the highest level of one tenant's record differs. -/
def HighestOnly (k : TenantIx) (s t : State) : Prop :=
  t.tenants[k] = { s.tenants[k] with highest := (t.tenants[k]).highest } ∧ ∀ j : TenantIx, j ≠ k → t.tenants[j] = s.tenants[j]

section highest
variable {s : State} {k : TenantIx}

theorem HighestOnly.of_tenants {t : State} (h : t.tenants = s.tenants) : HighestOnly k s t := by
  rw [HighestOnly, h]
  exact ⟨rfl, fun _ _ => rfl⟩

theorem HighestOnly.trans {t u : State} (h : HighestOnly k s t) (g : HighestOnly k t u) : HighestOnly k s u := by
  refine ⟨?_, fun j hj => (g.2 j hj).trans (h.2 j hj)⟩
  rw [g.1, h.1]

theorem HighestOnly.ite {c : Prop} [Decidable c] {t u : State} (h : HighestOnly k s t) (g : HighestOnly k s u) :
    HighestOnly k s (if c then t else u) := by
  split
  · exact h
  · exact g

theorem SameExcept.highestOnly {t : State} {parts : List Part} (h : SameExcept parts s t) (other : Part.tenants ∉ parts) :
    HighestOnly k s t := .of_tenants (h .tenants other)

end highest

section pacer
variable (s : State) (k : TenantIx)

theorem modTenant_get (f : Tenant → Tenant) : (s.modTenant k f).tenants[k] = f s.tenants[k] := mapAt_get_self _ k f

theorem modTenant_other {j : TenantIx} (f : Tenant → Tenant) (h : j ≠ k) : (s.modTenant k f).tenants[j] = s.tenants[j] :=
  mapAt_get_ne _ k j f h.symm

theorem raiseHighest_highestOnly : HighestOnly k s (s.raiseHighest k) := by
  refine ⟨?_, fun j hj => modTenant_other s k _ hj⟩
  rw [State.raiseHighest, modTenant_get]
  split <;> rfl

theorem beginOpen_highestOnly : HighestOnly k s (s.beginOpen k) :=
  ((modPacer_frame s k _).highestOnly (by simp)).trans (raiseHighest_highestOnly _ k)

theorem beginClosed_highestOnly : HighestOnly k s (s.beginClosed k) :=
  .ite (((modPacer_frame s k _).highestOnly (by simp)).trans (raiseHighest_highestOnly _ k))
    ((modPacer_frame s k _).highestOnly (by simp))

theorem resumePacing_highestOnly : HighestOnly k s (s.resumePacing k) := .ite (beginOpen_highestOnly s k) (.of_tenants rfl)

theorem changeLevel_highestOnly (n : Nat) : HighestOnly k s (s.changeLevel k n) := by
  have raised : HighestOnly k s ((s.modPacer k fun p => { p with level := n }).raiseHighest k) :=
    ((modPacer_frame s k _).highestOnly (by simp)).trans (raiseHighest_highestOnly _ k)
  exact .ite (raised.trans (beginClosed_highestOnly _ k)) (.ite (raised.trans ((modPacer_frame _ k _).highestOnly (by simp)))
    (raised.trans (resumePacing_highestOnly _ k)))

theorem repace_highestOnly : HighestOnly k s (s.repace k) := .ite (.of_tenants rfl) (changeLevel_highestOnly s k _)

theorem retune_highestOnly : HighestOnly k s (s.retune k) := .ite (resumePacing_highestOnly s k) (changeLevel_highestOnly s k _)

end pacer

/-! ### The ceiling test after a setting -/

section ceiling
variable {s : State} {k : TenantIx}

theorem ceilingAfterSetting_at (reached : (s.tenants[k]).atCeiling = true) :
    (s.ceilingAfterSetting k).tenants[k] = { s.tenants[k] with
        capped := true
        cappedInEpoch := ((s.ceilingAfterSetting k).tenants[k]).cappedInEpoch
        highest := ((s.ceilingAfterSetting k).tenants[k]).highest }
      ∧ ∀ j : TenantIx, j ≠ k → (s.ceilingAfterSetting k).tenants[j] = s.tenants[j] := by
  by_cases already : (s.tenants[k]).capped = true
  · have same : s.ceilingAfterSetting k = s := (if_pos reached).trans (if_pos already)
    rw [same, ← already]
    exact ⟨rfl, fun _ _ => rfl⟩
  · have capping : s.ceilingAfterSetting k = (s.capTenant k).repace k := (if_pos reached).trans (if_neg already)
    have capped : (s.capTenant k).tenants[k] = { s.tenants[k] with capped := true, cappedInEpoch := true } :=
      modTenant_get s k _
    obtain ⟨entry, others⟩ := repace_highestOnly (s.capTenant k) k
    rw [capping, entry, capped]
    exact ⟨rfl, fun j hj => (others j hj).trans (modTenant_other s k _ hj)⟩

theorem ceilingAfterSetting_below (below : (s.tenants[k]).atCeiling = false) :
    (s.ceilingAfterSetting k).tenants[k] = { s.tenants[k] with
        capped := false
        highest := ((s.ceilingAfterSetting k).tenants[k]).highest }
      ∧ (∀ j : TenantIx, j ≠ k → (s.ceilingAfterSetting k).tenants[j] = s.tenants[j])
      ∧ SameExcept [.pacers, .tenants] s (s.ceilingAfterSetting k) := by
  have clearing : s.ceilingAfterSetting k = (s.modTenant k fun r => { r with capped := false }).repace k :=
    if_neg (by rw [below]; decide)
  have cleared : (s.modTenant k fun r => { r with capped := false }).tenants[k] = { s.tenants[k] with capped := false } :=
    modTenant_get s k _
  obtain ⟨entry, others⟩ := repace_highestOnly (s.modTenant k fun r => { r with capped := false }) k
  rw [clearing, entry, cleared]
  exact ⟨rfl, fun j hj => (others j hj).trans (modTenant_other s k _ hj),
    ((modTenant_frame s k _).mono (by simp)).trans (repace_frame _ k)⟩

/-- The ceiling test sets or clears CAPPED, and touches nothing else of the record but capped in epoch and the highest level. -/
theorem ceilingAfterSetting_tenants (s : State) (k : TenantIx) :
    (s.ceilingAfterSetting k).tenants[k] = { s.tenants[k] with
        capped := (s.tenants[k]).atCeiling
        cappedInEpoch := ((s.ceilingAfterSetting k).tenants[k]).cappedInEpoch
        highest := ((s.ceilingAfterSetting k).tenants[k]).highest }
      ∧ ∀ j : TenantIx, j ≠ k → (s.ceilingAfterSetting k).tenants[j] = s.tenants[j] := by
  cases reached : (s.tenants[k]).atCeiling
  · obtain ⟨entry, others, -⟩ := ceilingAfterSetting_below reached
    refine ⟨?_, others⟩
    rw [entry]
  · exact ceilingAfterSetting_at reached

end ceiling

/-! ### The tenant commands -/

theorem clampInt_eq {lo hi : Int} (h : lo ≤ hi) (v : Int) : clampInt lo hi v = max lo (min hi v) := by
  unfold clampInt
  split
  · omega
  · split <;> omega

/-- A value is clamped exactly when it lies beyond a limit. -/
theorem clampInt_ne_iff {lo hi : Int} (h : lo ≤ hi) (v : Int) : clampInt lo hi v ≠ v ↔ hi < v ∨ v < lo := by
  rw [clampInt_eq h]
  omega

section tenantRules
variable {s : State} {k : TenantIx}

/-- The state after SET_TENANT's settings are written and the pacer has followed them. -/
def State.retuned (s : State) (k : TenantIx) (card : Fin 16) (profile : Fin 4) (ceiling : Option Nat) (cap floor : Nat) : State :=
  (s.modTenant k fun r => { r with
    state := .active, card := card, profile := profile, ceiling := ceiling, cap := cap, floor := floor }).retune k

theorem setTenant_rule {card : Fin 16} {profile : Fin 4} {present value : Nat} {ceiling : Option Nat} {cap floor : Nat}
    (arg : State.ceilingArg present value = some ceiling) (hcap : cap ≤ 3) (hfloor : floor ≤ 3)
    (hstate : (s.tenants[k]).state ≠ .retiring) :
    s.setTenant k.1 card.1 profile.1 present value cap floor
      = ((s.retuned k card profile ceiling cap floor).ceilingAfterSetting k).okay := by
  simp only [State.setTenant, toIx_val, arg]
  rw [if_neg (by omega), if_neg hstate]
  rfl

variable (s k) in
/-- The written settings, with the highest level as the pacer leaves it. -/
theorem retuned_tenants (card : Fin 16) (profile : Fin 4) (ceiling : Option Nat) (cap floor : Nat) :
    (s.retuned k card profile ceiling cap floor).tenants[k] = { s.tenants[k] with
        state := .active, card := card, profile := profile, ceiling := ceiling, cap := cap, floor := floor
        highest := ((s.retuned k card profile ceiling cap floor).tenants[k]).highest }
      ∧ ∀ j : TenantIx, j ≠ k → (s.retuned k card profile ceiling cap floor).tenants[j] = s.tenants[j] := by
  set u : State := s.modTenant k fun r => { r with
    state := .active, card := card, profile := profile, ceiling := ceiling, cap := cap, floor := floor } with hu
  have written : u.tenants[k] = { s.tenants[k] with
    state := .active, card := card, profile := profile, ceiling := ceiling, cap := cap, floor := floor } := modTenant_get s k _
  obtain ⟨entry, others⟩ := retune_highestOnly u k
  refine ⟨?_, fun j hj => (others j hj).trans (modTenant_other s k _ hj)⟩
  rw [State.retuned, entry, written]

theorem retuned_frame (card : Fin 16) (profile : Fin 4) (ceiling : Option Nat) (cap floor : Nat) :
    SameExcept [.tenants, .pacers] s (s.retuned k card profile ceiling cap floor) :=
  ((modTenant_frame s k _).mono (by simp)).trans ((retune_frame _ k).mono (by simp))

variable (s k) in
/-- The pending adjustment becomes `adj` where `sum` was asked for; a difference is marked (R113). -/
def State.adjusted (adj sum : Int) : State :=
  if adj = sum then s.modTenant k fun r => { r with adj := adj } else (s.modTenant k fun r => { r with adj := adj }).markOverflow k

theorem markOverflow_tenants : (s.markOverflow k).tenants = mapAt s.tenants k fun r => { r with os := true } := rfl

theorem adjusted_tenants (adj sum : Int) :
    (s.adjusted k adj sum).tenants = mapAt s.tenants k fun r => { r with adj := adj, os := r.os || decide (adj ≠ sum) } := by
  unfold State.adjusted
  split
  · rename_i same
    rw [State.modTenant_tenants]
    exact mapAt_congr (by simp [same])
  · rename_i differs
    rw [markOverflow_tenants, State.modTenant_tenants, mapAt_mapAt]
    exact mapAt_congr (by simp [differs])

theorem adjusted_frame (adj sum : Int) : SameExcept [.tenants, .causes] s (s.adjusted k adj sum) :=
  .ite ((modTenant_frame s k _).mono (by simp)) (((modTenant_frame s k _).mono (by simp)).trans (markOverflow_frame _ k))

/-- The adjustment saturates at its limits, and a saturation is marked (R112, R113). -/
theorem adjustTenant_rule {amount : Int} (low : -2 ^ 31 ≤ amount) (high : amount < 2 ^ 31)
    (hstate : (s.tenants[k]).state ≠ .unused) :
    s.adjustTenant k.1 amount = (s.adjusted k (clampInt (-(2 ^ 47 - 1)) (2 ^ 47 - 1) ((s.tenants[k]).adj + amount))
      ((s.tenants[k]).adj + amount)).okay := by
  have amountFits : amountOk amount = true := by
    rw [amountOk, Bool.and_eq_true, decide_eq_true_eq, decide_eq_true_eq]
    exact ⟨low, high⟩
  simp only [State.adjustTenant, toIx_val, amountFits]
  rw [if_neg (by decide), if_neg hstate]
  rfl

end tenantRules

/-- Settles O47: each command writes its fields of the one record. -/
theorem tenantCommandsWriteRecord : Obligations.TenantCommandsWriteRecord := by
  intro s k r
  refine ⟨fun card profile ceiling cap floor may low high hcap hfloor hstate => ?ceiling,
    fun card profile ceiling cap floor may hcap hfloor hstate => ?none, fun amount may low high hstate => ?adjust,
    fun may hstate => ?sticky⟩
  case ceiling =>
    have arg : State.ceilingArg 1 ceiling = some (some ceiling) := if_pos (within_iff.mpr ⟨low, by omega⟩)
    set u : State := s.retuned k card profile (some ceiling) cap floor with hu
    obtain ⟨written, others⟩ := retuned_tenants s k card profile (some ceiling) cap floor
    have kept := retuned_frame (s := s) (k := k) card profile (some ceiling) cap floor
    obtain ⟨t, row, answer, tested, frame⟩ :=
      command_okay (cmd := fun s => s.setTenant k.1 card.1 profile.1 1 ceiling cap floor) may (setTenant_rule arg hcap hfloor hstate)
        ((kept.mono (more := [.tenants, .pacers, .causes]) (by simp)).trans ((ceilingAfterSetting_frame _ k).mono (by simp)))
        (by decide)
    have tenants : t.tenants = (u.ceilingAfterSetting k).tenants := tested .tenants (by simp)
    have reached : (u.tenants[k]).atCeiling = decide ((ceiling : Int) ≤ r.acc / 2 ^ 24) := by
      rw [written]; rfl
    obtain ⟨entry, rest⟩ := ceilingAfterSetting_tenants u k
    refine ⟨t, row, answer, ?_, fun j hj => ?_, frame⟩ <;> rw [tenants]
    · rw [entry, reached, written]
    · rw [rest j hj, others j hj]
  case none =>
    set u : State := s.retuned k card profile none cap floor with hu
    obtain ⟨written, others⟩ := retuned_tenants s k card profile none cap floor
    have kept := retuned_frame (s := s) (k := k) card profile none cap floor
    have below : (u.tenants[k]).atCeiling = false := by rw [written]; rfl
    obtain ⟨entry, rest, cleared⟩ := ceilingAfterSetting_below below
    obtain ⟨t, row, answer, tested, frame⟩ :=
      command_okay (cmd := fun s => s.setTenant k.1 card.1 profile.1 0 ceiling cap floor) may (setTenant_rule rfl hcap hfloor hstate)
        (kept.trans (cleared.mono (by simp))) (by decide)
    have tenants : t.tenants = (u.ceilingAfterSetting k).tenants := tested .tenants (by simp)
    refine ⟨t, row, answer, ?_, fun j hj => ?_, frame⟩ <;> rw [tenants]
    · rw [entry, written]
    · rw [rest j hj, others j hj]
  case adjust =>
    intro sum
    obtain ⟨t, row, answer, kept, frame⟩ := command_okay (cmd := fun s => s.adjustTenant k.1 amount) may
      (adjustTenant_rule low high hstate) (adjusted_frame _ _) (by decide)
    have limits : (-(2 ^ 47 - 1) : Int) ≤ 2 ^ 47 - 1 := by decide
    refine ⟨t, row, answer, (kept .tenants (by simp)).trans ((adjusted_tenants _ _).trans ?_), frame⟩
    have saturated : decide (clampInt (-(2 ^ 47 - 1)) (2 ^ 47 - 1) sum ≠ sum) = decide (2 ^ 47 - 1 < sum ∨ sum < -(2 ^ 47 - 1)) :=
      decide_eq_decide.mpr (clampInt_ne_iff limits sum)
    show (mapAt s.tenants k fun r => { r with
      adj := clampInt (-(2 ^ 47 - 1)) (2 ^ 47 - 1) sum
      os := r.os || decide (clampInt (-(2 ^ 47 - 1)) (2 ^ 47 - 1) sum ≠ sum) }) = _
    rw [saturated, clampInt_eq limits]
  case sticky =>
    have rule : s.clearSticky k.1 = (s.modTenant k fun r => { r with os := false }).okay := by
      simp only [State.clearSticky, toIx_val]
      exact if_neg hstate
    obtain ⟨t, row, answer, kept, frame⟩ := command_okay (cmd := fun s => s.clearSticky k.1) may rule (modTenant_frame s k _) (by decide)
    exact ⟨t, row, answer, kept .tenants (by simp), frame⟩

/-! ### Windows -/

section windowRules
variable (s : State) (w : WindowIx)

theorem modWindow_get (f : Window → Window) : (s.modWindow w f).windows[w] = f s.windows[w] := mapAt_get_self _ w f

theorem modWindow_other {v : WindowIx} (f : Window → Window) (h : v ≠ w) : (s.modWindow w f).windows[v] = s.windows[v] :=
  mapAt_get_ne _ w v f h.symm

/-- Another window of the tenant for which `f` holds shares a line with the range (R47). -/
theorem overlapsOther_iff (k : TenantIx) (base length : Nat) (f : Window → Bool) :
    s.overlapsOther w k base length f = true ↔ ∃ v : WindowIx, v ≠ w ∧ f (s.windows[v]) = true ∧ (s.windows[v]).tenant = k
      ∧ base < (s.windows[v]).base + (s.windows[v]).length ∧ (s.windows[v]).base < base + length := by
  simp only [State.overlapsOther, List.any_eq_true, List.mem_finRange, true_and, Bool.and_eq_true, bne_iff_ne, beq_iff_eq,
    rangesOverlap, decide_eq_true_eq, and_assoc]

/-- The window as SET_WINDOW writes it. -/
def Window.written (win : Window) (k : TenantIx) (base length : Nat) (a : Access) (primary mirror : WindowLeg) : Window :=
  { win with
    configured := true, enabled := false, tenant := k, base := base, length := length, access := a
    primary := primary, mirror := mirror }

variable {s w} in
/-- SET_WINDOW in range, of a DISABLED window without transactions and for an ACTIVE tenant (R45). -/
theorem setWindow_rule {k : TenantIx} {base length : Nat} {a : Access} {pp pb pi present mp mb mi : Nat} {primary mirror : WindowLeg}
    (first : State.legArg pp pb pi length = some primary) (second : State.mirrorArg present mp mb mi length = some mirror)
    (small : length ≤ 2 ^ 24) (fits : base + length ≤ 2 ^ 31) (disabled : (s.windows[w]).enabled = false)
    (quiet : (s.windows[w]).outstanding = 0) (active : (s.tenants[k]).state = .active) :
    s.setWindow w.1 k.1 base length (accessCode a) pp pb pi present mp mb mi =
      if s.overlapsOther w k base length (fun v => v.configured) then s.refuse .conflict
      else (s.modWindow w fun win => win.written k base length a primary mirror).okay := by
  simp only [State.setWindow, toIx_val, toAccess_accessCode, first, second]
  have free : ¬ ((s.windows[w]).enabled = true ∨ 0 < (s.windows[w]).outstanding ∨ (s.tenants[k]).state ≠ .active) := by
    rw [disabled, quiet, active]
    simp
  rw [if_neg (by omega), if_neg free]
  rfl

theorem legArg_fits {p : PortIx} {r : ReqId} {base length : Nat} (h : base + length ≤ 2 ^ 31) :
    State.legArg p.1 base r.1 length = some ⟨p, base, r, .inService⟩ := by
  simp only [State.legArg, toIx_val]
  exact if_pos h

/-- The rows of SET_WINDOW with a length above 0 that pass its range and state checks: the window is written, or its range is taken. -/
theorem setWindow_answers {k : TenantIx} {base length : Nat} {a : Access} {pp pb pi present mp mb mi : Nat}
    {primary mirror : WindowLeg} (may : s.mayTake (.setWindow w.1 k.1 base length (accessCode a) pp pb pi present mp mb mi))
    (rule : s.setWindow w.1 k.1 base length (accessCode a) pp pb pi present mp mb mi =
      if s.overlapsOther w k base length (fun v => v.configured) then s.refuse .conflict
      else (s.modWindow w fun win => win.written k base length a primary mirror).okay) (positive : length ≠ 0) :
    (s.overlapsOther w k base length (fun v => v.configured) ≠ true →
      ∃ t, exec (.setWindow w.1 k.1 base length (accessCode a) pp pb pi present mp mb mi) s = .next t
        ∧ t.mgmt = s.answered 7 .ok [] ∧ t.windows[w] = (s.windows[w]).written k base length a primary mirror
        ∧ (∀ v : WindowIx, v ≠ w → t.windows[v] = s.windows[v]) ∧ SameExcept [.windows, .mgmt] s t)
    ∧ (s.overlapsOther w k base length (fun v => v.configured) = true →
      ∃ t, exec (.setWindow w.1 k.1 base length (accessCode a) pp pb pi present mp mb mi) s = .next t
        ∧ t.mgmt = s.answered 7 .conflict [] ∧ SameExcept [.mgmt] s t) := by
  let cmd : State → Reply := fun s => if length = 0 then s.clearWindow w.1
    else s.setWindow w.1 k.1 base length (accessCode a) pp pb pi present mp mb mi
  have taken : cmd s = _ := (if_neg positive).trans rule
  refine ⟨fun free => ?_, fun overlap => ?_⟩
  · obtain ⟨t, row, answer, kept, frame⟩ := command_okay may (taken.trans (if_neg free)) (modWindow_frame s w _) (by decide)
    have windows : t.windows = _ := kept .windows (by simp)
    refine ⟨t, row, answer, ?_, fun v hv => ?_, frame⟩ <;> rw [windows]
    · exact modWindow_get s w _
    · exact modWindow_other s w _ hv
  · exact command_refused may (taken.trans (if_pos overlap))

end windowRules

/-- Settles O49: SET_WINDOW passes its checks and writes the one window, unless its range is taken. -/
theorem windowWritten : Obligations.WindowWritten := by
  intro s w disabled quiet
  refine ⟨?written, fun may => ?clear⟩
  case written =>
    intro k base length a p1 p2 b1 b2 r1 r2 i single overlap positive small fits fit1 active
    have taken : s.overlapsOther w k base length (fun v => v.configured) = true ↔ overlap := overlapsOther_iff s w k base length _
    have leg1 : State.legArg p1.1 b1 r1.1 length = some ⟨p1, b1, r1, .inService⟩ := legArg_fits fit1
    have leg2 (fit2 : b2 + length ≤ 2 ^ 31) : State.mirrorArg 1 p2.1 b2 r2.1 length = some ⟨p2, b2, r2, .inService⟩ :=
      legArg_fits fit2
    have noLeg (mp mb mr : Nat) : State.mirrorArg 0 mp mb mr length = some ⟨0, 0, 0, .absent⟩ := rfl
    refine ⟨fun may fit2 free => ?_, fun may fit2 found => ?_, fun mp mb mr may => ?_⟩
    · have rule := setWindow_rule (a := a) leg1 (leg2 fit2) small fits disabled quiet active
      obtain ⟨t, row, answer, entry, others, frame⟩ := (setWindow_answers s w may rule (by omega)).1 (mt taken.mp free)
      refine ⟨t, row, answer, entry.trans ?_, others, frame⟩
      rw [Window.written, quiet]
    · have rule := setWindow_rule (a := a) leg1 (leg2 fit2) small fits disabled quiet active
      exact (setWindow_answers s w may rule (by omega)).2 (taken.mpr found)
    · have rule := setWindow_rule (a := a) leg1 (noLeg mp mb mr) small fits disabled quiet active
      obtain ⟨writes, conflicts⟩ := setWindow_answers s w may rule (by omega)
      refine ⟨fun free => ?_, fun found => conflicts (taken.mpr found)⟩
      obtain ⟨t, row, answer, entry, others, frame⟩ := writes (mt taken.mp free)
      refine ⟨t, row, answer, entry.trans ?_, others, frame⟩
      rw [Window.written, quiet]
  case clear =>
    have rule : s.clearWindow w.1 = (s.modWindow w fun _ => .reset).okay := by
      simp only [State.clearWindow, toIx_val]
      exact if_neg (by rw [disabled, quiet]; simp)
    obtain ⟨t, row, answer, kept, frame⟩ := command_okay (cmd := fun s => s.clearWindow w.1) may rule (modWindow_frame s w _) (by decide)
    have windows : t.windows = _ := kept .windows (by simp)
    refine ⟨t, row, answer, ?_, fun v hv => ?_, frame⟩ <;> rw [windows]
    · exact modWindow_get s w _
    · exact modWindow_other s w _ hv

/-- The windows in range of a leg's fitness for ENABLE_WINDOW (R48). -/
theorem legUsable_iff (s : State) (l : WindowLeg) : s.legUsable l = true ↔ (l.state = .inService →
    carriesLegs s.links[l.port].mode = true ∧ s.links[l.port].state ≠ .down ∧ s.links[l.port].state ≠ .failed) := by
  simp only [State.legUsable, Bool.or_eq_true, bne_iff_ne, Bool.and_eq_true, ne_eq, and_assoc]
  by_cases inService : l.state = .inService <;> simp [inService]

/-- Settles O50: a window that passes R48's checks is shown, and one that the copy engine does not work on is hidden. -/
theorem windowEnabledAndDisabled : Obligations.WindowEnabledAndDisabled := by
  intro s w win usable
  refine ⟨fun may configured active serving first second apart => ?enable, fun may idle => ?disable, fun may busy working => ?refused⟩
  case enable =>
    have usable1 : s.legUsable win.primary = true := (legUsable_iff s _).mpr first
    have usable2 : s.legUsable win.mirror = true := (legUsable_iff s _).mpr second
    have ready : s.windowReady w = true := by
      simp only [State.windowReady, Bool.and_eq_true, Bool.or_eq_true, beq_iff_eq]
      exact ⟨⟨⟨⟨configured, active⟩, serving⟩, usable1⟩, usable2⟩
    have free : s.overlapsOther w win.tenant win.base win.length (fun v => v.enabled) ≠ true := by
      rw [Ne, overlapsOther_iff]
      rintro ⟨v, other, enabled, tenant, low, high⟩
      rcases apart v other enabled tenant with h | h
      · exact absurd h (Nat.not_le.mpr high)
      · exact absurd h (Nat.not_le.mpr low)
    have rule : s.enableWindow w.1 = (s.modWindow w fun win => { win with enabled := true }).okay := by
      simp only [State.enableWindow, toIx_val]
      by_cases already : (s.windows[w]).enabled = true
      · rw [if_pos already]
        have same : (s.modWindow w fun win => { win with enabled := true }) = s := by
          have windows : mapAt s.windows w (fun win => { win with enabled := true }) = s.windows := mapAt_of_fixed (by rw [← already])
          rw [State.modWindow, windows]
        rw [same]
      · rw [if_neg already, if_neg (by rw [ready]; decide)]
        exact if_neg free
    obtain ⟨t, row, answer, kept, frame⟩ := command_okay (cmd := fun s => s.enableWindow w.1) may rule (modWindow_frame s w _) (by decide)
    exact ⟨t, row, answer, kept .windows (by simp), frame⟩
  case disable =>
    have rule : s.disableWindow w.1 = (s.modWindow w fun win => { win with enabled := false }).okay := by
      simp only [State.disableWindow, toIx_val]
      exact if_neg fun ⟨busy, working⟩ => idle.elim busy (· working)
    obtain ⟨t, row, answer, kept, frame⟩ := command_okay (cmd := fun s => s.disableWindow w.1) may rule (modWindow_frame s w _) (by decide)
    exact ⟨t, row, answer, kept .windows (by simp), frame⟩
  case refused =>
    have rule : s.disableWindow w.1 = s.refuse .state := by
      simp only [State.disableWindow, toIx_val]
      exact if_pos ⟨busy, working⟩
    exact command_refused (cmd := fun s => s.disableWindow w.1) may rule

end Sys2Proof.Machine

/-! PROOF. The pacer: its phases and what a change of level does (R94 to R98). -/

namespace Sys2Proof.Machine

/-- The record with its highest level raised to a pacer's level, unless the tenant is UNUSED (R94). -/
def Tenant.raisedTo (r : Tenant) (n : Nat) : Tenant := if r.state = .unused then r else { r with highest := max r.highest n }

section raised
variable (r : Tenant) (n : Nat)

theorem raisedTo_profile : (r.raisedTo n).profile = r.profile := by
  unfold Tenant.raisedTo
  split <;> rfl

theorem raisedTo_again : (r.raisedTo n).raisedTo n = r.raisedTo n := by
  by_cases unused : r.state = .unused <;> simp [Tenant.raisedTo, unused]

theorem raisedTo_unused (h : r.state = .unused) : r.raisedTo n = r := if_pos h

end raised

section pacer
variable (s : State) (k : TenantIx)

theorem modPacer_get (f : Pacer → Pacer) : (s.modPacer k f).pacers[k] = f s.pacers[k] := mapAt_get_self _ k f

theorem raiseHighest_tenants : (s.raiseHighest k).tenants = mapAt s.tenants k fun r => r.raisedTo (s.pacers[k]).level := rfl

/-- The widths of an OPEN phase that begins now. -/
theorem beginOpen_pacers : (s.beginOpen k).pacers = mapAt s.pacers k fun p =>
    { p with phase := .opened, timer := some ⟨s.time, max 1 (s.widthsAt k p.level).openUs⟩ } := rfl

theorem beginOpen_tenants : (s.beginOpen k).tenants = mapAt s.tenants k fun r => r.raisedTo (s.pacers[k]).level := by
  rw [State.beginOpen, raiseHighest_tenants, modPacer_get]
  rfl

theorem beginClosed_pacers_closed (closes : 0 < (s.widthsAt k (s.pacers[k]).level).closedUs) :
    (s.beginClosed k).pacers = mapAt s.pacers k fun p =>
      { p with phase := .closed, timer := some ⟨s.time, (s.widthsAt k (s.pacers[k]).level).closedUs⟩ } := by
  rw [State.beginClosed, if_pos closes]
  rfl

theorem beginClosed_open (never : (s.widthsAt k (s.pacers[k]).level).closedUs = 0) :
    s.beginClosed k = s.modPacer k fun p => { p with phase := .opened, timer := none } :=
  if_neg (by rw [never]; decide)

theorem beginClosed_tenants : (s.beginClosed k).tenants = s.tenants
    ∨ (s.beginClosed k).tenants = mapAt s.tenants k fun r => r.raisedTo (s.pacers[k]).level := by
  unfold State.beginClosed
  dsimp only
  split
  · refine .inr ?_
    rw [raiseHighest_tenants, modPacer_get]
    rfl
  · exact .inl rfl

theorem resumePacing_tenants : (s.resumePacing k).tenants = s.tenants
    ∨ (s.resumePacing k).tenants = mapAt s.tenants k fun r => r.raisedTo (s.pacers[k]).level := by
  unfold State.resumePacing
  dsimp only
  split
  · exact .inr (beginOpen_tenants s k)
  · exact .inl rfl

/-- A pacer put at a level, before its phase follows (R94). -/
def State.releveled (n : Nat) : State := (s.modPacer k fun p => { p with level := n }).raiseHighest k

variable (n : Nat)

theorem releveled_pacer : (s.releveled k n).pacers[k] = { s.pacers[k] with level := n } := modPacer_get s k _

theorem releveled_tenants : (s.releveled k n).tenants = mapAt s.tenants k fun r => r.raisedTo n := by
  rw [State.releveled, raiseHighest_tenants, modPacer_get]
  rfl

theorem releveled_widths (m : Nat) : (s.releveled k n).widthsAt k m = s.widthsAt k m := by
  have profile : ((s.releveled k n).tenants[k]).profile = (s.tenants[k]).profile := by
    rw [releveled_tenants, show (mapAt s.tenants k _)[k] = _ from mapAt_get_self _ k _]
    exact raisedTo_profile _ n
  exact congrArg (fun f : Fin 4 => (s.profiles[f]).entry m) profile

/-- A change of level, by its direction (R97, R98). -/
theorem changeLevel_eq : s.changeLevel k n = if (s.pacers[k]).level < n then (s.releveled k n).beginClosed k
    else if n = 0 then (s.releveled k n).modPacer k fun p => { p with phase := .opened, timer := none }
    else (s.releveled k n).resumePacing k := rfl

/-- A change of level raises the highest level, and changes nothing else of any record (R94). -/
theorem changeLevel_tenants : (s.changeLevel k n).tenants = mapAt s.tenants k fun r => r.raisedTo n := by
  have level : ((s.releveled k n).pacers[k]).level = n := by rw [releveled_pacer]
  have again : mapAt (s.releveled k n).tenants k (fun r => r.raisedTo n) = mapAt s.tenants k fun r => r.raisedTo n := by
    rw [releveled_tenants, mapAt_mapAt]
    exact mapAt_congr (raisedTo_again _ n)
  rw [changeLevel_eq]
  split
  · rcases beginClosed_tenants (s.releveled k n) k with h | h
    · rw [h, releveled_tenants]
    · rw [h, level, again]
  · split
    · exact releveled_tenants s k n
    · rcases resumePacing_tenants (s.releveled k n) k with h | h
      · rw [h, releveled_tenants]
      · rw [h, level, again]

theorem repace_changed (h : (s.pacers[k]).level ≠ s.effectiveLevel k) : s.repace k = s.changeLevel k (s.effectiveLevel k) :=
  if_neg (Ne.symm h)

theorem repace_same (h : (s.pacers[k]).level = s.effectiveLevel k) : s.repace k = s := if_pos h.symm

/-- A rise to a level whose entry closes restarts the pacer in CLOSED (R97). -/
theorem repace_rise_closed (rise : (s.pacers[k]).level < s.effectiveLevel k) (closes : 0 < (s.widthsAt k (s.effectiveLevel k)).closedUs) :
    (s.repace k).pacers[k] = ⟨s.effectiveLevel k, .closed, some ⟨s.time, (s.widthsAt k (s.effectiveLevel k)).closedUs⟩⟩ := by
  have level : ((s.releveled k (s.effectiveLevel k)).pacers[k]).level = s.effectiveLevel k := by rw [releveled_pacer]
  rw [repace_changed s k (Nat.ne_of_lt rise), changeLevel_eq, if_pos rise,
    beginClosed_pacers_closed _ k (by rw [level, releveled_widths]; exact closes), level, releveled_widths]
  refine (mapAt_get_self _ k _).trans ?_
  rw [show (s.releveled k (s.effectiveLevel k)).pacers[k.1] = _ from releveled_pacer s k _]
  rfl

/-- A rise to a level whose entry never closes opens the pacer and stops its timer (R95). -/
theorem repace_rise_open (rise : (s.pacers[k]).level < s.effectiveLevel k) (never : (s.widthsAt k (s.effectiveLevel k)).closedUs = 0) :
    (s.repace k).pacers[k] = ⟨s.effectiveLevel k, .opened, none⟩ := by
  have level : ((s.releveled k (s.effectiveLevel k)).pacers[k]).level = s.effectiveLevel k := by rw [releveled_pacer]
  rw [repace_changed s k (Nat.ne_of_lt rise), changeLevel_eq, if_pos rise,
    beginClosed_open _ k (by rw [level, releveled_widths]; exact never), modPacer_get, releveled_pacer]

/-- A fall to 0 opens the pacer and stops its timer (R98). -/
theorem repace_fall_zero (zero : s.effectiveLevel k = 0) (fall : 0 < (s.pacers[k]).level) :
    (s.repace k).pacers[k] = ⟨0, .opened, none⟩ := by
  rw [repace_changed s k (by omega), zero, changeLevel_eq, if_neg (Nat.not_lt_zero _), if_pos rfl, modPacer_get, releveled_pacer]

section fall
variable {s k} (low : 1 ≤ s.effectiveLevel k) (fall : s.effectiveLevel k < (s.pacers[k]).level)
include low fall

/-- A fall to 1 or more resumes pacing at the new level (R98). -/
theorem repace_fall : s.repace k = (s.releveled k (s.effectiveLevel k)).resumePacing k := by
  rw [repace_changed s k (Nat.ne_of_gt fall), changeLevel_eq, if_neg (Nat.lt_asymm fall), if_neg (Nat.ne_of_gt low)]

theorem repace_fall_runs (runs : (s.pacers[k]).timer ≠ none ∨ (s.widthsAt k (s.effectiveLevel k)).closedUs = 0) :
    (s.repace k).pacers[k] = { s.pacers[k] with level := s.effectiveLevel k } := by
  have stays : (s.releveled k (s.effectiveLevel k)).resumePacing k = s.releveled k (s.effectiveLevel k) := by
    refine if_neg ?_
    rw [releveled_pacer, releveled_widths]
    rintro ⟨-, stopped, closes⟩
    rcases runs with running | never
    · exact running stopped
    · rw [never] at closes
      exact Nat.lt_irrefl 0 closes
  rw [repace_fall low fall, stays, releveled_pacer]

theorem repace_fall_opens (stopped : (s.pacers[k]).timer = none) (closes : 0 < (s.widthsAt k (s.effectiveLevel k)).closedUs) :
    (s.repace k).pacers[k] = ⟨s.effectiveLevel k, .opened, some ⟨s.time, max 1 (s.widthsAt k (s.effectiveLevel k)).openUs⟩⟩ := by
  have opens : (s.releveled k (s.effectiveLevel k)).resumePacing k = (s.releveled k (s.effectiveLevel k)).beginOpen k := by
    refine if_pos ?_
    rw [releveled_pacer, releveled_widths]
    exact ⟨low, stopped, closes⟩
  rw [repace_fall low fall, opens, beginOpen_pacers]
  refine (mapAt_get_self _ k _).trans ?_
  rw [show (s.releveled k (s.effectiveLevel k)).pacers[k.1] = _ from releveled_pacer s k _, releveled_widths]
  rfl

end fall

/-- A change of level raises the highest level of a tenant in use (R94). -/
theorem repace_tenants (changed : (s.pacers[k]).level ≠ s.effectiveLevel k) :
    (s.repace k).tenants = mapAt s.tenants k fun r => r.raisedTo (s.effectiveLevel k) := by
  rw [repace_changed s k changed, changeLevel_tenants]

end pacer

section phaseEnd
variable {s : State} {k : TenantIx} (h : s.running) (due : timerDue (s.pacers[k]).timer s.time = true)
include h due

theorem exec_phaseEnd_closed (closed : (s.pacers[k]).phase = .closed) : exec (.phaseEnd k) s = .next (s.beginOpen k) := by
  show execPhaseEnd k s = _
  rw [execPhaseEnd, event_running h, if_pos due, closed]

theorem exec_phaseEnd_opened (opened : (s.pacers[k]).phase = .opened) : exec (.phaseEnd k) s = .next (s.beginClosed k) := by
  show execPhaseEnd k s = _
  rw [execPhaseEnd, event_running h, if_pos due, opened]

end phaseEnd

/-- Settles O36: each phase end and each change of level gives the pacer its next phase. -/
theorem pacerPhases : Obligations.PacerPhases := by
  intro s k p profile w level changed
  refine ⟨fun h due closed => ?_, fun h due opened closes => ?_, fun h due opened never => ?_, repace_rise_closed s k,
    repace_rise_open s k, repace_fall_zero s k, repace_fall_runs, repace_fall_opens, fun differs used => ?_, repace_same s k⟩
  · exact ⟨_, exec_phaseEnd_closed h due closed, beginOpen_pacers s k, beginOpen_frame s k⟩
  · exact ⟨_, exec_phaseEnd_opened h due opened, beginClosed_pacers_closed s k closes, beginClosed_frame s k⟩
  · refine ⟨_, exec_phaseEnd_opened h due opened, ?_, ?_⟩ <;> rw [beginClosed_open s k never]
    · rfl
    · exact modPacer_frame s k _
  · rw [repace_tenants s k differs]
    exact mapAt_congr (if_neg used)

end Sys2Proof.Machine

/-! PROOF. The congestion monitor's evaluation of a port (R86 to R91). -/

namespace Sys2Proof.Machine

/-! ### Folds over tables -/

/-- Steps that change one entry each of a table, over different indices, change every listed entry once. -/
theorem foldl_table_get {α : Type} {n : Nat} {read : State → Vector α n} {step : State → Fin n → State} {g : Fin n → α → α}
    (changes : ∀ s t, read (step s t) = mapAt (read s) t (g t)) {l : List (Fin n)} (nodup : l.Nodup) (s : State) (k : Fin n) :
    (read (l.foldl step s))[k] = if k ∈ l then g k (read s)[k] else (read s)[k] := by
  induction l generalizing s with
  | nil => simp
  | cons t l ih =>
    obtain ⟨fresh, nodup⟩ := List.nodup_cons.mp nodup
    rw [List.foldl_cons, ih nodup, changes]
    by_cases hk : k = t
    · subst hk
      rw [if_neg fresh, if_pos (List.mem_cons_self ..)]
      exact mapAt_get_self _ k _
    · rw [show (mapAt (read s) t (g t))[k] = (read s)[k] from mapAt_get_ne _ t k _ (Ne.symm hk)]
      simp only [List.mem_cons, hk, false_or]

/-- The place of the largest value found in ascending order: no value is larger, and none before it is as large. -/
theorem foldl_largest {n : Nat} (f : Fin n → Nat) {l : List (Fin n)} (sorted : l.Pairwise (· < ·)) (b : Fin n) (above : ∀ t ∈ l, b ≤ t) :
    let r := l.foldl (fun best t => if f best < f t then t else best) b
    (∀ j ∈ b :: l, f j ≤ f r) ∧ ∀ j ∈ b :: l, j < r → f j < f r := by
  induction l generalizing b with
  | nil =>
    refine ⟨fun j hj => ?_, fun j hj low => ?_⟩
    · rw [List.mem_singleton.mp hj]; rfl
    · rw [List.mem_singleton.mp hj] at low
      exact absurd low (lt_irrefl _)
  | cons t l ih =>
    obtain ⟨below, sorted⟩ := List.pairwise_cons.mp sorted
    have hbt : b ≤ t := above t (List.mem_cons_self ..)
    rw [List.foldl_cons]
    by_cases larger : f b < f t
    · rw [if_pos larger]
      obtain ⟨most, first⟩ := ih sorted t fun u hu => (below u hu).le
      have top := most t (List.mem_cons_self ..)
      refine ⟨fun j hj => ?_, fun j hj low => ?_⟩
      · rcases List.mem_cons.mp hj with rfl | hj
        · exact larger.le.trans top
        · exact most j hj
      · rcases List.mem_cons.mp hj with rfl | hj
        · exact larger.trans_le top
        · exact first j hj low
    · rw [if_neg larger]
      obtain ⟨most, first⟩ := ih sorted b fun u hu => hbt.trans (below u hu).le
      have top := most b (List.mem_cons_self ..)
      have small : f t ≤ f b := Nat.le_of_not_lt larger
      refine ⟨fun j hj => ?_, fun j hj low => ?_⟩
      · rcases List.mem_cons.mp hj with rfl | hj
        · exact top
        · rcases List.mem_cons.mp hj with rfl | hj
          · exact small.trans top
          · exact most j (List.mem_cons_of_mem _ hj)
      · rcases List.mem_cons.mp hj with rfl | hj
        · exact first j (List.mem_cons_self ..) low
        · rcases List.mem_cons.mp hj with rfl | hj
          · exact small.trans_lt (first b (List.mem_cons_self ..) (hbt.trans_lt low))
          · exact first j (List.mem_cons_of_mem _ hj) low

/-! ### Contributors -/

section evaluate
variable (s : State) (p : PortIx)

/-- The largest tenant at a port: no tenant has more legs there, and none of a lower number has as many (R90). -/
theorem largestTenant_spec : (∀ j : TenantIx, s.inFlightAt j p ≤ s.inFlightAt (s.largestTenant p) p)
    ∧ ∀ j : TenantIx, j < s.largestTenant p → s.inFlightAt j p < s.inFlightAt (s.largestTenant p) p := by
  obtain ⟨most, first⟩ := foldl_largest (fun k => s.inFlightAt k p) (List.pairwise_lt_finRange 64) 0 fun t _ => Fin.zero_le t
  have listed (j : TenantIx) : j ∈ (0 : TenantIx) :: List.finRange 64 := List.mem_cons_of_mem _ (List.mem_finRange j)
  exact ⟨fun j => most j (listed j), fun j => first j (listed j)⟩

theorem largestTenant_eq_iff (k : TenantIx) : k = s.largestTenant p ↔
    (∀ j : TenantIx, s.inFlightAt j p ≤ s.inFlightAt k p) ∧ ∀ j : TenantIx, j < k → s.inFlightAt j p < s.inFlightAt k p := by
  obtain ⟨most, first⟩ := largestTenant_spec s p
  refine ⟨fun h => ?_, fun ⟨most', first'⟩ => ?_⟩
  · rw [h]; exact ⟨most, first⟩
  · rcases lt_trichotomy k (s.largestTenant p) with low | same | high
    · exact absurd (most' _) (Nat.not_le.mpr (first k low))
    · exact same
    · exact absurd (most k) (Nat.not_le.mpr (first' _ high))

theorem contributes_iff (k : TenantIx) : s.contributes p k = true ↔
    0 < (s.monitors[p]).inFlight ∧ 0 < s.inFlightAt k p ∧
      (s.settings.share * (s.monitors[p]).inFlight ≤ s.inFlightAt k p * 256 ∨ k = s.largestTenant p) := by
  simp only [State.contributes, Bool.and_eq_true, Bool.or_eq_true, decide_eq_true_eq, beq_iff_eq, and_assoc]

/-! ### The levels and the monitor after an evaluation -/

/-- One tenant's level at the port is adjusted. -/
theorem adjustLevels_contrib (up : TenantIx → Bool) (k : TenantIx) : (s.adjustLevels p up).contrib[k] =
    mapAt s.contrib[k] p fun c => { c with level := State.nextLevel (up k) c.level } := by
  have changes (s : State) (t : TenantIx) : (let old := ((s.contrib[t])[p]).level
      let new := State.nextLevel (up t) old
      if new = old then s else (s.modContrib t p fun c => { c with level := new }).repace t).contrib
      = mapAt s.contrib t fun v => mapAt v p fun c => { c with level := State.nextLevel (up t) c.level } := by
    dsimp only
    split
    · rename_i same
      have fixed : mapAt s.contrib[t] p (fun c => { c with level := State.nextLevel (up t) c.level }) = s.contrib[t] :=
        mapAt_of_fixed (by rw [same])
      exact (mapAt_of_fixed fixed).symm
    · refine (repace_frame _ t .contrib (by simp)).trans ?_
      have entry : mapAt s.contrib[t] p (fun c => { c with level := State.nextLevel (up t) ((s.contrib[t])[p]).level })
          = mapAt s.contrib[t] p fun c => { c with level := State.nextLevel (up t) c.level } := mapAt_congr rfl
      rw [State.modContrib_contrib]
      exact mapAt_congr entry
  refine (foldl_table_get changes (List.nodup_finRange 64) s k).trans (if_pos (List.mem_finRange k))

theorem recordJudgement_monitor (congested : Bool) : (s.recordJudgement p congested).monitors[p] = { s.monitors[p] with
    portState := if congested then .congested else .clear
    fresh := false
    sample := if (s.monitors[p]).sample = .idle then .armed else (s.monitors[p]).sample
    reliefTimer := ⟨s.time, s.settings.reliefInterval⟩ } := by
  unfold State.recordJudgement
  dsimp only
  split <;> exact mapAt_get_self _ p _

/-- An evaluation sets each tenant's level at the port by whether the tenant contributes to a congested port. -/
theorem evaluate_contrib (k : TenantIx) : (s.evaluate p).contrib[k] = mapAt s.contrib[k] p fun c =>
    { c with level := State.nextLevel (s.judgedCongested p && s.contributes p k) c.level } := by
  rw [State.evaluate, adjustLevels_contrib]
  have kept : (s.recordJudgement p (s.judgedCongested p)).contrib = s.contrib := recordJudgement_frame s p _ .contrib (by simp)
  rw [kept]

theorem evaluate_monitor : (s.evaluate p).monitors[p] = { s.monitors[p] with
    portState := if s.judgedCongested p then .congested else .clear
    fresh := false
    sample := if (s.monitors[p]).sample = .idle then .armed else (s.monitors[p]).sample
    reliefTimer := ⟨s.time, s.settings.reliefInterval⟩ } := by
  have kept : (s.evaluate p).monitors = (s.recordJudgement p (s.judgedCongested p)).monitors :=
    adjustLevels_frame _ p _ .monitors (by simp)
  rw [kept, recordJudgement_monitor]

theorem evaluate_causes : (s.evaluate p).causes = (s.recordJudgement p (s.judgedCongested p)).causes :=
  adjustLevels_frame _ p _ .causes (by simp)

variable {s p} in
theorem exec_reliefTimerExpiry (h : s.running) (due : (s.monitors[p]).reliefTimer.due s.time = true) :
    exec (.reliefTimerExpiry p) s = .next (s.evaluate p) := by
  show execReliefTimerExpiry p s = _
  rw [execReliefTimerExpiry, event_running h, if_pos due]

end evaluate

/-- Settles O34: a CLEAR judgement names no contributor, and raises nothing. -/
theorem clearEvaluationLowersLevels : Obligations.ClearEvaluationLowersLevels := by
  intro s p h due clear
  have levels (k : TenantIx) : (s.evaluate p).contrib[k] = mapAt s.contrib[k] p fun c => { c with level := c.level - 1 } := by
    rw [evaluate_contrib, clear]
    rfl
  refine ⟨_, exec_reliefTimerExpiry h due, fun k => ?_, fun k q hq => ?_, ?_, ?_⟩
  · rw [levels k, show (mapAt s.contrib[k] p _)[p] = _ from mapAt_get_self _ p _]
    exact ⟨rfl, rfl⟩
  · rw [levels k]
    exact mapAt_get_ne _ p q _ hq.symm
  · rw [evaluate_monitor, clear]
    rfl
  · have recorded : s.recordJudgement p (s.judgedCongested p) = _ := if_neg (by rw [clear]; simp)
    rw [State.evaluate, recorded]
    exact ((modMonitor_frame s p _).mono (by simp)).trans ((adjustLevels_frame _ p _).mono (by simp))

/-- Settles O35: a CONGESTED judgement raises the contributors, who pass the share test or come first among the largest. -/
theorem congestedEvaluationRaisesContributors : Obligations.CongestedEvaluationRaisesContributors := by
  intro s p h due congested n total
  have level (k : TenantIx) : (((s.evaluate p).contrib[k])[p]).level = State.nextLevel (s.contributes p k) ((s.contrib[k])[p]).level := by
    rw [evaluate_contrib, congested, show (mapAt s.contrib[k] p _)[p] = _ from mapAt_get_self _ p _]
    rfl
  refine ⟨_, exec_reliefTimerExpiry h due, fun k some_ legs passes => ?_, fun k fails => ?_, ?_, fun turned => ?_⟩
  · have up : s.contributes p k = true := (contributes_iff s p k).mpr ⟨some_, legs, passes.imp_right (largestTenant_eq_iff s p k).mpr⟩
    rw [level, up]
    rfl
  · have down : s.contributes p k = false := by
      rw [Bool.eq_false_iff, Ne, contributes_iff, largestTenant_eq_iff]
      rintro ⟨some_, legs, passes⟩
      rcases fails with none | none | ⟨share, j, larger⟩
      · exact Nat.lt_irrefl 0 (none ▸ some_)
      · exact Nat.lt_irrefl 0 (none ▸ legs)
      · rcases passes with enough | ⟨most, first⟩
        · exact absurd enough (Nat.not_le.mpr share)
        · rcases larger with more | ⟨before, asLarge⟩
          · exact absurd (most j) (Nat.not_le.mpr more)
          · exact absurd asLarge (Nat.not_le.mpr (first j before))
    rw [level, down]
    rfl
  · rw [evaluate_monitor, congested]
    rfl
  · have raised : s.recordJudgement p (s.judgedCongested p) = State.raise _ .portCongested (bitDetail p.1) :=
      if_pos ⟨congested, turned⟩
    rw [evaluate_causes, raised]
    exact ⟨raise_pending _ _ _, raise_bits _ _ _ rfl⟩

end Sys2Proof.Machine

/-! PROOF. Metering (R108 to R113) and the charge at close (R114 to R116). -/

namespace Sys2Proof.Machine

/-! ### Rounding (Table 6-4) -/

section rounding
variable (total : Int)

/-- Rounding to the nearest BU errs by at most half a BU, and a half goes away from zero. -/
theorem roundUnits_nearest : 2 * |total - roundUnits .nearest total * 2 ^ 24| ≤ 2 ^ 24
    ∧ (2 * |total - roundUnits .nearest total * 2 ^ 24| = 2 ^ 24 → |total| ≤ |roundUnits .nearest total * 2 ^ 24|) := by
  have unit : Config.unitScale = 16777216 := rfl
  simp only [roundUnits, unit]
  split
  · obtain ⟨e, _⟩ | ⟨e, _⟩ := abs_cases (total - (total + 16777216 / 2) / 16777216 * 2 ^ 24) <;>
    obtain ⟨e', _⟩ | ⟨e', _⟩ := abs_cases ((total + 16777216 / 2) / 16777216 * 2 ^ 24) <;>
    obtain ⟨e'', _⟩ | ⟨e'', _⟩ := abs_cases total <;> rw [e, e', e''] <;> omega
  · obtain ⟨e, _⟩ | ⟨e, _⟩ := abs_cases (total - -((-total + 16777216 / 2) / 16777216) * 2 ^ 24) <;>
    obtain ⟨e', _⟩ | ⟨e', _⟩ := abs_cases (-((-total + 16777216 / 2) / 16777216) * 2 ^ 24) <;>
    obtain ⟨e'', _⟩ | ⟨e'', _⟩ := abs_cases total <;> rw [e, e', e''] <;> omega

/-- Rounding up leaves less than a BU to spare. -/
theorem roundUnits_up : 0 ≤ roundUnits .up total * 2 ^ 24 - total ∧ roundUnits .up total * 2 ^ 24 - total < 2 ^ 24 := by
  have unit : Config.unitScale = 16777216 := rfl
  simp only [roundUnits, unit]
  omega

/-- Rounding down leaves a residue below a BU. -/
theorem roundUnits_down : 0 ≤ total - roundUnits .down total * 2 ^ 24 ∧ total - roundUnits .down total * 2 ^ 24 < 2 ^ 24 := by
  have unit : Config.unitScale = 16777216 := rfl
  simp only [roundUnits, unit]
  omega

/-- Truncation goes toward zero by less than a BU. -/
theorem roundUnits_trunc : |roundUnits .trunc total * 2 ^ 24| ≤ |total| ∧ |total - roundUnits .trunc total * 2 ^ 24| < 2 ^ 24 := by
  have unit : Config.unitScale = 16777216 := rfl
  simp only [roundUnits, unit]
  split
  · rename_i positive
    have floor : 0 ≤ total / 16777216 * 2 ^ 24 := by omega
    have residue : 0 ≤ total - total / 16777216 * 2 ^ 24 := by omega
    rw [abs_of_nonneg positive, abs_of_nonneg floor, abs_of_nonneg residue]
    omega
  · rename_i negative
    have floor : -(-total / 16777216) * 2 ^ 24 ≤ 0 := by omega
    have residue : total - -(-total / 16777216) * 2 ^ 24 ≤ 0 := by omega
    rw [abs_of_nonpos (by omega : total ≤ 0), abs_of_nonpos floor, abs_of_nonpos residue]
    omega

end rounding

/-! ### The charge at close -/

/-- A clamp to the money range lies in it. -/
theorem clampMoney_range (v : Int) : -2 ^ 47 ≤ clampInt Config.moneyMin Config.moneyMax v
    ∧ clampInt Config.moneyMin Config.moneyMax v ≤ 2 ^ 47 - 1 := by
  rw [clampInt_eq (by decide), show Config.moneyMin = -2 ^ 47 from rfl, show Config.moneyMax = 2 ^ 47 - 1 from rfl]
  omega

theorem clampMoney_ne_iff (v : Int) : clampInt Config.moneyMin Config.moneyMax v ≠ v ↔ v < -2 ^ 47 ∨ 2 ^ 47 - 1 < v :=
  (clampInt_ne_iff (by decide) v).trans or_comm

theorem clampMoney_of_mem {v : Int} (low : -2 ^ 47 ≤ v) (high : v ≤ 2 ^ 47 - 1) : clampInt Config.moneyMin Config.moneyMax v = v := by
  by_contra h
  rcases (clampMoney_ne_iff v).mp h with h | h <;> omega

theorem clampMoney_below {v : Int} (low : v < -2 ^ 47) : clampInt Config.moneyMin Config.moneyMax v = -2 ^ 47 := by
  rw [clampInt, if_neg (by rw [show Config.moneyMax = 2 ^ 47 - 1 from rfl]; omega)]
  exact if_pos low

theorem clampMoney_above {v : Int} (high : 2 ^ 47 - 1 < v) : clampInt Config.moneyMin Config.moneyMax v = 2 ^ 47 - 1 := if_pos high

/-- Settles O38: the charge is the rounded total clamped, and what is not charged is carried or discarded. -/
theorem chargeKeepsTotal : Obligations.ChargeKeepsTotal := by
  intro r card final total c
  have charge : c.charge = clampInt Config.moneyMin Config.moneyMax (roundUnits card.rounding total) := rfl
  have clamped : c.clamped = (c.charge != roundUnits card.rounding total) := rfl
  have carried : c.carried = (card.carry && !c.clamped && !final) := rfl
  have acc : c.acc = if c.carried then total - roundUnits card.rounding total * 2 ^ 24 else 0 := rfl
  have balance : c.balance = clampInt Config.moneyMin Config.moneyMax (r.balance + c.charge) := rfl
  have cut : c.balanceCut = (c.balance != r.balance + c.charge) := rfl
  have exact_ (h : c.clamped = false) : c.charge = roundUnits card.rounding total := by
    simpa [clamped] using h
  have whenCarried : c.carried = true ↔ card.carry = true ∧ c.clamped = false ∧ final = false := by
    rw [carried]
    simp [and_assoc]
  obtain ⟨chargeLow, chargeHigh⟩ := clampMoney_range (roundUnits card.rounding total)
  obtain ⟨balanceLow, balanceHigh⟩ := clampMoney_range (r.balance + c.charge)
  obtain ⟨half, away⟩ := roundUnits_nearest total
  obtain ⟨upLow, upHigh⟩ := roundUnits_up total
  obtain ⟨downLow, downHigh⟩ := roundUnits_down total
  obtain ⟨truncToward, truncNear⟩ := roundUnits_trunc total
  refine ⟨exact_, fun carries => ?_, fun drops => ?_, whenCarried, ?_, chargeLow, chargeHigh, balanceLow, balanceHigh,
    fun low high => ?_, fun low => ?_, fun high => ?_, half, away, upLow, upHigh, downLow, downHigh, truncToward, truncNear⟩
  · obtain ⟨-, whole, -⟩ := whenCarried.mp carries
    rw [acc, if_pos carries, exact_ whole]
    omega
  · rw [acc, if_neg (by rw [drops]; decide)]
  · rw [clamped, bne_iff_ne, charge, clampMoney_ne_iff]
  · have kept : c.balance = r.balance + c.charge := clampMoney_of_mem low high
    exact ⟨kept, by rw [cut, kept, bne_self_eq_false]⟩
  · have floor : c.balance = -2 ^ 47 := clampMoney_below low
    exact ⟨floor, by rw [cut, floor, bne_iff_ne]; omega⟩
  · have ceiling : c.balance = 2 ^ 47 - 1 := clampMoney_above high
    exact ⟨ceiling, by rw [cut, ceiling, bne_iff_ne]; omega⟩

end Sys2Proof.Machine

/-! PROOF. The meter block's addition and the ceiling test after it (R108 to R113). -/

namespace Sys2Proof.Machine

/-- A line meter after one line: it rises by 1 while it is the meter named and below its maximum (R110). -/
def bumped (this : Bool) (v : Nat) : Nat := if this && decide (v < 2 ^ 40 - 1) then v + 1 else v

/-- Counting a line raises the one meter that Table 6-3 names, or sets MSAT. -/
theorem countLine_eq (r : Tenant) (read congested : Bool) : r.countLine read congested = { r with
    rl := bumped (read && !congested) r.rl
    rlc := bumped (read && congested) r.rlc
    wl := bumped (!read && !congested) r.wl
    wlc := bumped (!read && congested) r.wlc
    msat := r.msat || decide ((if read then (if congested then r.rlc else r.rl) else if congested then r.wlc else r.wl)
      ≥ 2 ^ 40 - 1) } := by
  have limit : Config.meterMax = 2 ^ 40 - 1 := rfl
  cases read <;> cases congested <;> simp only [Tenant.countLine, limit, bumped, Bool.and_true, Bool.and_false, Bool.true_and, Bool.false_and,
    Bool.not_true, Bool.not_false, if_true, if_false, Bool.false_eq_true, decide_eq_true_eq]
  all_goals split
  all_goals rename_i h
  all_goals grind

section meter
variable (s : State) (k : TenantIx) (read congested : Bool)

/-- The accumulator's sum before it is clamped (R108, R109). -/
def State.meterSum : Int := (s.tenants[k]).acc + increment (s.cards[(s.tenants[k]).card]) read congested

/-- The accumulator after an addition. -/
def State.meterAcc : Int := clampInt (-Config.accumulatorMax) Config.accumulatorMax (s.meterSum k read congested)

/-- The part after the addition and the count, before the ceiling test. -/
def State.accumulated : State :=
  let s1 := s.modTenant k fun r => { r with acc := s.meterAcc k read congested }
  (if s.meterAcc k read congested = s.meterSum k read congested then s1 else s1.markOverflow k).modTenant k fun r =>
    r.countLine read congested

theorem meter_eq : s.meter k read congested = (s.accumulated k read congested).ceilingAfterMetering k := rfl

theorem accumulated_tenants : (s.accumulated k read congested).tenants = mapAt s.tenants k fun r =>
    ({ r with acc := s.meterAcc k read congested
              os := r.os || decide (s.meterAcc k read congested ≠ s.meterSum k read congested) }).countLine read congested := by
  unfold State.accumulated
  dsimp only
  split
  · rename_i same
    rw [State.modTenant_tenants, State.modTenant_tenants, mapAt_mapAt]
    exact mapAt_congr (by simp [same])
  · rename_i differs
    rw [State.modTenant_tenants, markOverflow_tenants, State.modTenant_tenants, mapAt_mapAt, mapAt_mapAt]
    exact mapAt_congr (by simp [differs])

theorem accumulated_causes : (s.accumulated k read congested).causes =
    if s.meterAcc k read congested = s.meterSum k read congested then s.causes
    else (s.raise .balanceSaturated (numDetail k.1)).causes := by
  unfold State.accumulated
  dsimp only
  split <;> rfl

theorem accumulated_frame : SameExcept [.tenants, .causes] s (s.accumulated k read congested) := by
  have added := (modTenant_frame s k fun r => { r with acc := s.meterAcc k read congested }).mono (more := [.tenants, .causes]) (by simp)
  exact .trans (.ite added (added.trans (markOverflow_frame _ k))) ((modTenant_frame _ k _).mono (by simp))

end meter

/-! ### The ceiling test -/

section ceilingTest
variable (s : State) (k : TenantIx)

theorem ceilingAfterMetering_reached (free : (s.tenants[k]).capped = false) (reached : (s.tenants[k]).atCeiling = true) :
    s.ceilingAfterMetering k = (s.capTenant k).repace k := if_pos (by rw [free, reached]; rfl)

theorem ceilingAfterMetering_below (below : ¬ ((s.tenants[k]).capped = false ∧ (s.tenants[k]).atCeiling = true)) :
    s.ceilingAfterMetering k = s := by
  refine if_neg fun h => below ?_
  rw [Bool.and_eq_true, Bool.not_eq_true'] at h
  exact h

theorem atCeiling_iff (r : Tenant) : r.atCeiling = true ↔ ∃ ceiling, r.ceiling = some ceiling ∧ (ceiling : Int) ≤ r.acc / 2 ^ 24 := by
  unfold Tenant.atCeiling
  cases r.ceiling with
  | none => simp
  | some c =>
    refine ⟨fun h => ⟨c, rfl, of_decide_eq_true h⟩, ?_⟩
    rintro ⟨_, ⟨⟩, h⟩
    exact decide_eq_true h

/-- After a change of its inputs the pacer runs at the effective level (R94). -/
theorem repace_level : ((s.repace k).pacers[k]).level = s.effectiveLevel k := by
  by_cases same : (s.pacers[k]).level = s.effectiveLevel k
  · rw [repace_same s k same, same]
  · rcases Nat.lt_or_gt_of_ne same with rise | fall
    · rcases Nat.eq_zero_or_pos (s.widthsAt k (s.effectiveLevel k)).closedUs with never | closes
      · rw [repace_rise_open s k rise never]
      · rw [repace_rise_closed s k rise closes]
    · rcases Nat.eq_zero_or_pos (s.effectiveLevel k) with zero | low
      · rw [repace_fall_zero s k zero (by omega), zero]
      · by_cases runs : (s.pacers[k]).timer ≠ none ∨ (s.widthsAt k (s.effectiveLevel k)).closedUs = 0
        · rw [repace_fall_runs low fall runs]
        · rw [not_or, not_not] at runs
          rw [repace_fall_opens low fall runs.1 (Nat.pos_of_ne_zero runs.2)]

/-- The effective level depends on the tenant's levels at the ports, its CAPPED flag and its cap and floor levels alone. -/
theorem effectiveLevel_congr {s t : State} (contrib : t.contrib = s.contrib) (tenant : HighestOnly k s t) :
    t.effectiveLevel k = s.effectiveLevel k := by
  have congestion : t.congestionLevel k = s.congestionLevel k := by rw [State.congestionLevel, contrib]; rfl
  unfold State.effectiveLevel
  dsimp only
  rw [congestion, tenant.1]

theorem modPacer_other {j : TenantIx} (f : Pacer → Pacer) (h : j ≠ k) : (s.modPacer k f).pacers[j] = s.pacers[j] :=
  mapAt_get_ne _ k j f h.symm

/-- A change of level leaves the pacers of the other tenants. -/
theorem changeLevel_pacer_other {j : TenantIx} (n : Nat) (h : j ≠ k) : (s.changeLevel k n).pacers[j] = s.pacers[j] := by
  have leveled : (s.releveled k n).pacers[j] = s.pacers[j] := modPacer_other s k _ h
  have closed (u : State) : (u.beginClosed k).pacers[j] = u.pacers[j] := by
    unfold State.beginClosed
    dsimp only
    split
    · exact modPacer_other u k _ h
    · exact modPacer_other u k _ h
  have resumed (u : State) : (u.resumePacing k).pacers[j] = u.pacers[j] := by
    unfold State.resumePacing
    dsimp only
    split
    · exact modPacer_other u k _ h
    · rfl
  rw [changeLevel_eq]
  split
  · rw [closed, leveled]
  · split
    · rw [modPacer_other _ k _ h, leveled]
    · rw [resumed, leveled]

theorem repace_pacer_other {j : TenantIx} (h : j ≠ k) : (s.repace k).pacers[j] = s.pacers[j] := by
  by_cases same : (s.pacers[k]).level = s.effectiveLevel k
  · rw [repace_same s k same]
  · rw [repace_changed s k same, changeLevel_pacer_other s k _ h]

end ceilingTest

/-- A cause whose details merge to the lowest keeps the lower of the one it held while pending and the one raised (R170). -/
theorem raise_lowest (s : State) (c : Cause) (rule : mergeRule c = .lowest) (k : TenantIx) :
    (s.raise c (numDetail k.1)).causes.entries[causeIx c] = { s.causes.entries[causeIx c] with
      pending := true
      detail := if (s.causes.entries[causeIx c]).pending = true ∧ (s.causes.entries[causeIx c]).detail.toNat ≤ k.1
        then (s.causes.entries[causeIx c]).detail else BitVec.ofNat 16 k.1 } := by
  have number : (numDetail k.1).toNat = k.1 := Nat.mod_eq_of_lt (by omega)
  rw [raise_get, rule]
  by_cases pending : (s.causes.entries[causeIx c]).pending = true
  · rw [if_pos pending, mergeDetail, number]
    by_cases held : (s.causes.entries[causeIx c]).detail.toNat ≤ k.1
    · rw [if_neg (Nat.not_lt.mpr held), if_pos ⟨pending, held⟩, ← pending]
    · rw [if_pos (Nat.lt_of_not_le held), if_neg fun h => held h.2, ← pending]
      rfl
  · rw [if_neg pending, if_neg fun h => pending h.1]
    rfl

/-- Causes have places of their own in the register. -/
theorem causeIx_injective {c d : Cause} (h : causeIx c = causeIx d) : c = d := by
  revert h
  cases c <;> cases d <;> decide

section meterResult
variable (s : State) (k : TenantIx) (read congested : Bool)

/-- The ceiling test touches nothing of the record but both CAPPED flags and the highest level. -/
theorem ceilingAfterMetering_tenants : (s.ceilingAfterMetering k).tenants[k] = { s.tenants[k] with
      capped := ((s.ceilingAfterMetering k).tenants[k]).capped
      cappedInEpoch := ((s.ceilingAfterMetering k).tenants[k]).cappedInEpoch
      highest := ((s.ceilingAfterMetering k).tenants[k]).highest }
    ∧ ∀ j : TenantIx, j ≠ k →
      (s.ceilingAfterMetering k).tenants[j] = s.tenants[j] ∧ (s.ceilingAfterMetering k).pacers[j] = s.pacers[j] := by
  by_cases reached : (s.tenants[k]).capped = false ∧ (s.tenants[k]).atCeiling = true
  · have capped : (s.capTenant k).tenants[k] = { s.tenants[k] with capped := true, cappedInEpoch := true } :=
      modTenant_get s k _
    obtain ⟨entry, others⟩ := repace_highestOnly (s.capTenant k) k
    rw [ceilingAfterMetering_reached s k reached.1 reached.2, entry, capped]
    refine ⟨rfl, fun j hj => ⟨(others j hj).trans (modTenant_other s k _ hj), ?_⟩⟩
    exact repace_pacer_other (s.capTenant k) k hj
  · rw [ceilingAfterMetering_below s k reached]
    exact ⟨rfl, fun _ _ => ⟨rfl, rfl⟩⟩

/-- The record after one line is metered, but for what the ceiling test gives (R108 to R110). -/
theorem meter_tenant : (s.meter k read congested).tenants[k] = { s.tenants[k] with
    acc := s.meterAcc k read congested
    os := (s.tenants[k]).os || decide (s.meterAcc k read congested ≠ s.meterSum k read congested)
    rl := bumped (read && !congested) (s.tenants[k]).rl
    rlc := bumped (read && congested) (s.tenants[k]).rlc
    wl := bumped (!read && !congested) (s.tenants[k]).wl
    wlc := bumped (!read && congested) (s.tenants[k]).wlc
    msat := (s.tenants[k]).msat || decide ((if read then (if congested then (s.tenants[k]).rlc else (s.tenants[k]).rl)
      else if congested then (s.tenants[k]).wlc else (s.tenants[k]).wl) ≥ 2 ^ 40 - 1)
    capped := ((s.meter k read congested).tenants[k]).capped
    cappedInEpoch := ((s.meter k read congested).tenants[k]).cappedInEpoch
    highest := ((s.meter k read congested).tenants[k]).highest } := by
  have entry : (s.accumulated k read congested).tenants[k] = _ :=
    (congrArg (fun v : Vector Tenant 64 => v[k]) (accumulated_tenants s k read congested)).trans (mapAt_get_self _ k _)
  rw [countLine_eq] at entry
  refine (ceilingAfterMetering_tenants (s.accumulated k read congested) k).1.trans ?_
  rw [entry]
  rfl

/-- The ceiling is reached when CAPPED is clear and the accumulator holds at least the ceiling's whole BU (R111). -/
def State.reachesCeiling : Prop := (s.tenants[k]).capped = false ∧
  ∃ ceiling, (s.tenants[k]).ceiling = some ceiling ∧ (ceiling : Int) ≤ s.meterAcc k read congested / 2 ^ 24

theorem reachesCeiling_iff : ((s.accumulated k read congested).tenants[k]).capped = false
    ∧ ((s.accumulated k read congested).tenants[k]).atCeiling = true ↔ s.reachesCeiling k read congested := by
  have entry : (s.accumulated k read congested).tenants[k] = _ :=
    (congrArg (fun v : Vector Tenant 64 => v[k]) (accumulated_tenants s k read congested)).trans (mapAt_get_self _ k _)
  rw [countLine_eq] at entry
  rw [atCeiling_iff, entry]
  exact Iff.rfl

variable {s k read congested}

theorem meter_reached (h : s.reachesCeiling k read congested) :
    s.meter k read congested = ((s.accumulated k read congested).capTenant k).repace k := by
  obtain ⟨free, reached⟩ := (reachesCeiling_iff s k read congested).mpr h
  rw [meter_eq, ceilingAfterMetering_reached _ k free reached]

theorem meter_below (h : ¬ s.reachesCeiling k read congested) : s.meter k read congested = s.accumulated k read congested := by
  rw [meter_eq, ceilingAfterMetering_below _ k (mt (reachesCeiling_iff s k read congested).mp h)]

/-- Capped, the pacer runs at the effective level with the cap level in it. -/
theorem meter_reached_level (h : s.reachesCeiling k read congested) :
    ((s.meter k read congested).pacers[k]).level = (s.meter k read congested).effectiveLevel k := by
  set u : State := (s.accumulated k read congested).capTenant k
  have kept : (u.repace k).contrib = u.contrib := repace_frame u k .contrib (by simp)
  rw [meter_reached h, repace_level, effectiveLevel_congr k kept (repace_highestOnly u k)]

/-- At the ceiling TENANT_CAPPED is raised. -/
theorem meter_reached_causes (h : s.reachesCeiling k read congested) :
    (s.meter k read congested).causes = ((s.accumulated k read congested).raise .tenantCapped (numDetail k.1)).causes := by
  rw [meter_reached h]
  exact repace_frame _ k .causes (by simp)

variable (s k read congested)

/-- An addition raises BALANCE_SATURATED at a saturation, and no other cause. -/
theorem accumulated_cause {c : Fin 14} (h : ¬ (c = causeIx .balanceSaturated ∧ s.meterAcc k read congested ≠ s.meterSum k read congested)) :
    (s.accumulated k read congested).causes.entries[c] = s.causes.entries[c] := by
  rw [accumulated_causes]
  split
  · rfl
  · rename_i saturated
    exact raise_other s _ _ fun same => h ⟨same, saturated⟩

/-- The ceiling test raises TENANT_CAPPED at the ceiling, and no other cause. -/
theorem meter_cause {c : Fin 14} (h : ¬ (c = causeIx .tenantCapped ∧ s.reachesCeiling k read congested)) :
    (s.meter k read congested).causes.entries[c] = (s.accumulated k read congested).causes.entries[c] := by
  by_cases reached : s.reachesCeiling k read congested
  · rw [meter_reached_causes reached]
    exact raise_other _ _ _ fun same => h ⟨same, reached⟩
  · rw [meter_below reached]

end meterResult

/-- Settles O37: the addition and the count change the record, and the ceiling test caps it or leaves it. -/
theorem meterAddsOneLine : Obligations.MeterAddsOneLine := by
  intro s k read congested r card rate factor sum t after raised reached bump
  set u : State := s.accumulated k read congested with hu
  have record : after = _ := meter_tenant s k read congested
  have acc : after.acc = s.meterAcc k read congested := congrArg Tenant.acc record
  have reached_iff : reached ↔ s.reachesCeiling k read congested := by rw [State.reachesCeiling, ← acc]
  have accumulated : (s.accumulated k read congested).tenants[k] = _ :=
    (congrArg (fun v : Vector Tenant 64 => v[k]) (accumulated_tenants s k read congested)).trans (mapAt_get_self _ k _)
  rw [countLine_eq] at accumulated
  refine ⟨acc, ?os, congrArg Tenant.rl record, congrArg Tenant.rlc record, congrArg Tenant.wl record, congrArg Tenant.wlc record,
    congrArg Tenant.msat record, fun saturated => ?saturated, fun h => ?reached, fun h => ?below, fun c noSaturation noCap => ?causes,
    ?record, fun j hj => ?others, ?frame⟩
  case frame => exact ((accumulated_frame s k read congested).mono (by simp)).trans ((ceilingAfterMetering_frame _ k).mono (by simp))
  case os =>
    rw [acc]
    exact congrArg Tenant.os record
  case saturated =>
    have cut : s.meterAcc k read congested ≠ s.meterSum k read congested := acc ▸ saturated
    have kept := meter_cause s k read congested (c := causeIx .balanceSaturated) fun h => absurd h.1 (by decide)
    refine kept.trans ?_
    rw [accumulated_causes, if_neg cut]
    exact raise_lowest s .balanceSaturated rfl k
  case reached =>
    have h := reached_iff.mp h
    have capped : after = _ := (congrArg (fun v : State => v.tenants[k]) (meter_reached h)).trans (repace_highestOnly _ k).1
    have flags : ((s.accumulated k read congested).capTenant k).tenants[k]
        = { (s.accumulated k read congested).tenants[k] with capped := true, cappedInEpoch := true } := modTenant_get _ k _
    rw [flags] at capped
    refine ⟨congrArg Tenant.capped capped, congrArg Tenant.cappedInEpoch capped, ?_, meter_reached_level h⟩
    have entry := accumulated_cause s k read congested (c := causeIx .tenantCapped) fun h => absurd h.1 (by decide)
    have raised := raise_lowest (s.accumulated k read congested) .tenantCapped rfl k
    rw [← meter_reached_causes h, entry] at raised
    exact raised
  case below =>
    have same : t = s.accumulated k read congested := meter_below (mt reached_iff.mpr h)
    have kept : after = _ := (congrArg (fun v : State => v.tenants[k]) same).trans accumulated
    refine ⟨(congrArg Tenant.capped kept).trans rfl, (congrArg Tenant.cappedInEpoch kept).trans rfl,
      (congrArg Tenant.highest kept).trans rfl, ?_⟩
    rw [same]
    exact accumulated_frame s k read congested .pacers (by simp)
  case causes =>
    have notCapped : ¬ (causeIx c = causeIx .tenantCapped ∧ s.reachesCeiling k read congested) := fun ⟨same, h⟩ =>
      noCap ⟨causeIx_injective same, reached_iff.mpr h⟩
    have notCut : ¬ (causeIx c = causeIx .balanceSaturated ∧ s.meterAcc k read congested ≠ s.meterSum k read congested) :=
      fun ⟨same, h⟩ => noSaturation ⟨causeIx_injective same, acc ▸ h⟩
    exact (meter_cause s k read congested notCapped).trans (accumulated_cause s k read congested notCut)
  case record => rw [record]
  case others =>
    obtain ⟨tenant, pacer⟩ := (ceilingAfterMetering_tenants (s.accumulated k read congested) k).2 j hj
    refine ⟨tenant.trans ?_, pacer.trans ?_⟩
    · rw [accumulated_tenants]
      exact mapAt_get_ne _ k j _ hj.symm
    · rw [show (s.accumulated k read congested).pacers = s.pacers from accumulated_frame s k read congested .pacers (by simp)]

end Sys2Proof.Machine

/-! PROOF. The epoch closer: how walks start, step and end (R121 to R128). -/

namespace Sys2Proof.Machine

/-! ### Starting and ending a walk -/

section walks
variable (s : State)

/-- A FULL walk finds tenant 0, which is ACTIVE. -/
theorem nextActive_zero (active : s.FabricTenantActive) : s.nextActive 0 = some 0 := by
  rw [State.nextActive, List.find?_eq_some_iff_getElem]
  refine ⟨?_, 0, by simp, by simp, fun j hj => absurd hj (Nat.not_lt_zero j)⟩
  rw [Bool.and_eq_true, beq_iff_eq]
  exact ⟨rfl, active⟩

/-- A walk starts at tenant 0. -/
theorem startFullWalk_eq (active : s.FabricTenantActive) (job : Bool) : s.startFullWalk job = { s with closer := { s.closer with
    state := s.walkState, kind := .full, position := 0, walkJob := job, built := 0 } } := by
  rw [State.startFullWalk, nextActive_zero s active]

theorem walkState_eq : s.walkState = if s.holdList.length < 8 then .walking else .waiting := rfl

end walks

/-- No stage's entry names the tenant, and it has nothing in flight. -/
theorem tenantInUse_false {s : State} {k : TenantIx}
    (windows : ∀ w : WindowIx, (s.windows[w]).configured = true → (s.windows[w]).tenant ≠ k)
    (requesters : ∀ (p : PortIx) (r : ReqId), ((s.stages[p]).requesters[r]).enabled = true → ((s.stages[p]).requesters[r]).tenant ≠ k)
    (legs : ∀ p : PortIx, ((s.contrib[k])[p]).inFlight = 0) : s.tenantInUse k = false := by
  rw [Bool.eq_false_iff]
  intro used
  simp only [State.tenantInUse, Bool.or_eq_true, List.any_eq_true, Vector.mem_toList_iff, Vector.mem_iff_getElem, Bool.and_eq_true,
    beq_iff_eq, decide_eq_true_eq] at used
  rcases used with (⟨_, ⟨w, hw, rfl⟩, configured, tenant⟩ | ⟨_, ⟨p, hp, rfl⟩, _, ⟨r, hr, rfl⟩, enabled, tenant⟩) | ⟨_, ⟨p, hp, rfl⟩, some_⟩
  · exact windows ⟨w, hw⟩ configured tenant
  · exact requesters ⟨p, hp⟩ ⟨r, hr⟩ enabled tenant
  · exact absurd (legs ⟨p, hp⟩) (Nat.ne_of_gt some_)

/-- Settles O53: the two commands start the CLOSE job and their walks. -/
theorem closeJobsStart : Obligations.CloseJobsStart := by
  intro s state
  refine ⟨fun may idle active => ?full, fun may busy => ?busy, fun k may notFabric idle active windows requesters legs => ?retire⟩
  case full =>
    set u : State := s.startJob .close with hu
    have rule : s.closeEpoch = (u.startFullWalk true).okay := if_pos idle
    rw [startFullWalk_eq u active] at rule
    obtain ⟨t, row, answer, kept, frame⟩ := command_okay may rule
      (((startJob_frame s .close).mono (more := [.closer, .jobs]) (by simp)).trans ((closerField_frame u _).mono (by simp))) (by decide)
    exact ⟨t, row, answer, kept .closer (by simp), kept .jobs (by simp), frame⟩
  case busy => exact command_refused (cmd := fun s => s.closeEpoch) may (if_neg busy)
  case retire =>
    set u : State := (s.modTenant k fun r => { r with state := .retiring }).startJob .close with hu
    have rule : s.removeTenant k.1 = (u.startRetireWalk k).okay := by
      simp only [State.removeTenant, toIx_val]
      rw [if_neg notFabric, if_neg (not_not.mpr idle), if_neg (not_not.mpr active),
        if_neg (by rw [tenantInUse_false windows requesters legs]; decide)]
    obtain ⟨t, row, answer, kept, frame⟩ := command_okay (cmd := fun s => s.removeTenant k.1) may rule
      ((((modTenant_frame s k _).mono (more := [.tenants, .closer, .jobs]) (by simp)).trans ((startJob_frame _ .close).mono (by simp))).trans
        ((startRetireWalk_frame u k).mono (by simp))) (by decide)
    exact ⟨t, row, answer, kept .tenants (by simp), kept .closer (by simp), kept .jobs (by simp), frame⟩

/-- Settles O41: an IDLE closer starts a FULL walk, and a walk in progress pends one or counts the expiry late. -/
theorem epochTimerExpires : Obligations.EpochTimerExpires := by
  intro s h due active late
  set timer : Option Timer := if s.closer.period = 0 then none else some (s.timer (epochMicros s.closer.period)) with htimer
  set u : State := { s with closer := { s.closer with timer := timer } } with hu
  have row : exec .epochTimerExpiry s = .next (if s.closer.state = .idle then u.startFullWalk false
      else if s.closer.pendingFlag then
        ({ u with closer := { u.closer with lateCount := late } } : State).raise .walkLate (numDetail late)
      else { u with closer := { u.closer with pendingFlag := true } }) := by
    show execEpochTimerExpiry s = _
    rw [execEpochTimerExpiry, event_running h, if_pos due]
    rfl
  refine ⟨fun idle => ?start, fun busy none => ?pend, fun busy pended => ?late⟩
  case start =>
    refine ⟨_, row.trans (congrArg _ ((if_pos idle).trans (startFullWalk_eq u active false))), walkState_eq s, rfl, rfl, rfl, rfl, rfl, rfl, ?_⟩
    exact closerField_frame s _
  case pend =>
    refine ⟨_, row.trans (congrArg _ ((if_neg busy).trans (if_neg (by rw [none]; decide)))), rfl, closerField_frame s _⟩
  case late =>
    refine ⟨_, row.trans (congrArg _ ((if_neg busy).trans (if_pos pended))), rfl, raise_pending _ _ _, ?_, ?_⟩
    · rw [raise_get]
      split <;> rfl
    · exact ((closerField_frame s _).mono (by simp)).trans ((raise_frame _ _ _).mono (by simp))

/-! ### The close of a tenant -/

/-- What a close computes from a tenant's record and its card. -/
def State.chargeOf (s : State) (k : TenantIx) (final : Bool) : ChargeResult := chargeAtClose (s.tenants[k]) (s.cards[(s.tenants[k]).card]) final

/-- A FINAL close carries nothing (R115). -/
theorem chargeOf_final_carried (s : State) (k : TenantIx) : (s.chargeOf k true).carried = false := Bool.and_false _

/-- A clamp of the charge or a cut of the balance (R113). -/
def ChargeResult.saturates (c : ChargeResult) : Bool := c.clamped || c.balanceCut

section closeTenant
variable (s : State) (k : TenantIx)

/-- The part with the record built, and the overflow marked, before the tenant's record is written. -/
def State.recorded (final : Bool) : State :=
  let s1 : State := { s with
    holdList := s.holdList ++ [buildRecord k (s.tenants[k]) (s.cards[(s.tenants[k]).card]) (s.chargeOf k final) final s.time] }
  if (s.chargeOf k final).saturates then s1.markOverflow k else s1

theorem recorded_holdList (final : Bool) : (s.recorded k final).holdList =
    s.holdList ++ [buildRecord k (s.tenants[k]) (s.cards[(s.tenants[k]).card]) (s.chargeOf k final) final s.time] := by
  unfold State.recorded
  dsimp only
  split <;> rfl

theorem recorded_causes (final : Bool) : (s.recorded k final).causes =
    if (s.chargeOf k final).saturates then (s.raise .balanceSaturated (numDetail k.1)).causes else s.causes := by
  unfold State.recorded
  dsimp only
  split <;> rfl

theorem recorded_tenants (final : Bool) (r : Tenant) :
    mapAt (s.recorded k final).tenants k (fun _ => r) = mapAt s.tenants k fun _ => r := by
  unfold State.recorded
  dsimp only
  split
  · rw [markOverflow_tenants, mapAt_mapAt]
  · rfl

theorem recorded_contrib (final : Bool) : (s.recorded k final).contrib = s.contrib := by
  unfold State.recorded
  dsimp only
  split <;> rfl

/-- The next epoch's record opens with the highest level at the level in force (R116). -/
theorem closeTenant_tenants : (s.closeTenant k false).tenants = mapAt s.tenants k fun r =>
    r.afterClose (s.chargeOf k false) (max (s.congestionLevel k) r.floor) := by
  set next : Tenant := (s.tenants[k]).afterClose (s.chargeOf k false) (max (s.congestionLevel k) (s.tenants[k]).floor) with hnext
  set u : State := (s.recorded k false).modTenant k fun _ => next with hu
  have closing : s.closeTenant k false = u.repace k := rfl
  have written : u.tenants = mapAt s.tenants k fun _ => next := recorded_tenants s k false next
  have level : u.effectiveLevel k = next.highest := by
    have congestion : u.congestionLevel k = s.congestionLevel k := by
      rw [State.congestionLevel, show u.contrib = s.contrib from recorded_contrib s k false]
      rfl
    have record : u.tenants[k] = next := modTenant_get _ k _
    rw [State.effectiveLevel, record, congestion]
    exact congrArg (max _) (Nat.zero_max _)
  have stays : next.raisedTo next.highest = next := by
    unfold Tenant.raisedTo
    rw [Nat.max_self, ite_self]
  have last : mapAt s.tenants k (fun _ => next) = mapAt s.tenants k fun r =>
      r.afterClose (s.chargeOf k false) (max (s.congestionLevel k) r.floor) := mapAt_congr rfl
  rw [closing, ← last]
  by_cases same : (u.pacers[k]).level = u.effectiveLevel k
  · rw [repace_same u k same, written]
  · rw [repace_tenants u k same, level, written, mapAt_mapAt, stays]

/-- A FINAL close returns the tenant to UNUSED. -/
theorem closeTenant_final_tenants : (s.closeTenant k true).tenants = mapAt s.tenants k fun _ => .unused := by
  set u : State := (s.recorded k true).modTenant k fun _ => .unused with hu
  have closing : s.closeTenant k true = u.retune k := rfl
  have written : u.tenants = mapAt s.tenants k fun _ => .unused := recorded_tenants s k true .unused
  have stays (n : Nat) : mapAt u.tenants k (fun r => r.raisedTo n) = u.tenants := by
    rw [written, mapAt_mapAt]
    exact mapAt_congr (raisedTo_unused _ n rfl)
  rw [closing, ← written, State.retune]
  split
  · rcases resumePacing_tenants u k with h | h
    · exact h
    · exact h.trans (stays _)
  · exact (changeLevel_tenants u k _).trans (stays _)

theorem closeTenant_holdList (final : Bool) : (s.closeTenant k final).holdList =
    s.holdList ++ [buildRecord k (s.tenants[k]) (s.cards[(s.tenants[k]).card]) (s.chargeOf k final) final s.time] := by
  rw [← recorded_holdList]
  cases final
  · exact repace_frame _ k .holdList (by simp)
  · exact retune_frame _ k .holdList (by simp)

theorem closeTenant_causes (final : Bool) : (s.closeTenant k final).causes =
    if (s.chargeOf k final).saturates then (s.raise .balanceSaturated (numDetail k.1)).causes else s.causes := by
  rw [← recorded_causes]
  cases final
  · exact repace_frame _ k .causes (by simp)
  · exact retune_frame _ k .causes (by simp)

end closeTenant

/-! ### The end of a walk -/

section endWalk
variable (s : State) (n : Nat)

theorem startFullWalk_kept : SameExcept [.closer] s (s.startFullWalk false) := by
  unfold State.startFullWalk
  split
  · exact closerField_frame s _
  · exact closerIdle_frame s

/-- The walk's job, if it has one, is DONE with the number given (R123). -/
def State.walkJobDone : State := if s.closer.walkJob then s.endJob .close .done n else s

theorem walkJobDone_frame : SameExcept [.jobs, .causes] s (s.walkJobDone n) := .ite (endJob_frame s .close .done n) .rfl_

theorem endWalk_kept : SameExcept [.closer] (s.walkJobDone n) (s.endWalk n) :=
  .ite ((closerField_frame _ _).trans (startFullWalk_kept _)) (closerIdle_frame _)

theorem endWalk_idle (alone : s.closer.pendingFlag = false) :
    (s.endWalk n).closer = { s.closer with state := .idle, position := 0, walkJob := false } := by
  have closer : (s.walkJobDone n).closer = s.closer := walkJobDone_frame s n .closer (by simp)
  have flag : ¬ (s.walkJobDone n).closer.pendingFlag = true := by rw [closer, alone]; decide
  have idle : s.endWalk n = (s.walkJobDone n).closerIdle := if_neg flag
  rw [idle]
  show { (s.walkJobDone n).closer with state := .idle, position := 0, walkJob := false } = _
  rw [closer]

theorem endWalk_pended (pended : s.closer.pendingFlag = true) (active : s.FabricTenantActive) :
    (s.endWalk n).closer = { s.closer with
      state := s.walkState, kind := .full, position := 0, walkJob := false, built := 0, pendingFlag := false } := by
  have frame := walkJobDone_frame s n
  have closer : (s.walkJobDone n).closer = s.closer := frame .closer (by simp)
  have hold : (s.walkJobDone n).holdList = s.holdList := frame .holdList (by simp)
  have tenants : (s.walkJobDone n).tenants = s.tenants := frame .tenants (by simp)
  have active' : (s.walkJobDone n).FabricTenantActive := by rw [State.FabricTenantActive, tenants]; exact active
  have flag : (s.walkJobDone n).closer.pendingFlag = true := by rw [closer]; exact pended
  set u : State := { s.walkJobDone n with closer := { (s.walkJobDone n).closer with pendingFlag := false } } with hu
  have starts : s.endWalk n = u.startFullWalk false := if_pos flag
  have room : u.walkState = s.walkState := by rw [walkState_eq, walkState_eq, show u.holdList = s.holdList from hold]
  rw [starts, startFullWalk_eq u active', room]
  show { (s.walkJobDone n).closer with
    state := s.walkState, kind := .full, position := 0, walkJob := false, built := 0, pendingFlag := false } = _
  rw [closer]

theorem endWalk_job (job : s.closer.walkJob = true) : (s.endWalk n).jobs = { s.jobs with close := ⟨.done, n⟩ }
    ∧ (s.endWalk n).causes = (s.raise .jobDone 1).causes := by
  have done : s.walkJobDone n = s.endJob .close .done n := if_pos job
  have kept := endWalk_kept s n
  rw [done] at kept
  exact ⟨kept .jobs (by simp), kept .causes (by simp)⟩

theorem endWalk_noJob (noJob : s.closer.walkJob = false) : (s.endWalk n).jobs = s.jobs ∧ (s.endWalk n).causes = s.causes := by
  have none : s.walkJobDone n = s := if_neg (by rw [noJob]; decide)
  have kept := endWalk_kept s n
  rw [none] at kept
  exact ⟨kept .jobs (by simp), kept .causes (by simp)⟩

end endWalk

/-! ### The close steps -/

/-- The part after a close step's record and count, before the walk moves on. -/
def State.closed (s : State) (final : Bool) : State := (s.closeTenant s.closer.position final).countBuilt

section closed
variable (s : State) (final : Bool)

theorem closed_closer : (s.closed final).closer = { s.closer with built := s.closer.built + 1 } := by
  have kept : (s.closeTenant s.closer.position final).closer = s.closer := closeTenant_frame s _ final .closer (by simp)
  show { (s.closeTenant s.closer.position final).closer with
    built := (s.closeTenant s.closer.position final).closer.built + 1 } = _
  rw [kept]

theorem closed_kept : SameExcept [.closer] (s.closeTenant s.closer.position final) (s.closed final) := closerField_frame _ _

theorem closed_jobs : (s.closed final).jobs = s.jobs := closeTenant_frame s _ final .jobs (by simp)

theorem closed_holdList : (s.closed final).holdList = s.holdList ++ [buildRecord s.closer.position (s.tenants[s.closer.position])
    (s.cards[(s.tenants[s.closer.position]).card]) (s.chargeOf s.closer.position final) final s.time] :=
  (closed_kept s final .holdList (by simp)).trans (closeTenant_holdList s _ final)

theorem closed_causes : (s.closed final).causes = if (s.chargeOf s.closer.position final).saturates
    then (s.raise .balanceSaturated (numDetail s.closer.position.1)).causes else s.causes :=
  (closed_kept s final .causes (by simp)).trans (closeTenant_causes s _ final)

theorem closed_tenants : (s.closed false).tenants = mapAt s.tenants s.closer.position fun r =>
    r.afterClose (s.chargeOf s.closer.position false) (max (s.congestionLevel s.closer.position) r.floor) :=
  (closed_kept s false .tenants (by simp)).trans (closeTenant_tenants s s.closer.position)

theorem closed_final_tenants : (s.closed true).tenants = mapAt s.tenants s.closer.position fun _ => .unused :=
  (closed_kept s true .tenants (by simp)).trans (closeTenant_final_tenants s s.closer.position)

/-- A close step that opens the next epoch leaves every tenant's state. -/
theorem closed_state (j : TenantIx) : ((s.closed false).tenants[j]).state = (s.tenants[j]).state := by
  rw [closed_tenants]
  by_cases here : j = s.closer.position
  · subst here
    rw [show (mapAt s.tenants s.closer.position _)[s.closer.position] = _ from mapAt_get_self _ s.closer.position _]
    rfl
  · rw [show (mapAt s.tenants s.closer.position _)[j] = _ from mapAt_get_ne _ s.closer.position j _ (Ne.symm here)]
    rfl

theorem closed_nextActive (n : Nat) : (s.closed false).nextActive n = s.nextActive n := by
  have states : (fun t : TenantIx => decide (n ≤ t.1) && ((s.closed false).tenants[t]).state == .active)
      = fun t : TenantIx => decide (n ≤ t.1) && (s.tenants[t]).state == .active := funext fun t => by rw [closed_state]
  exact congrArg (fun f => (List.finRange 64).find? f) states

/-- A clamp or a cut raises BALANCE_SATURATED with the tenant, or leaves a lower one pending (R113). -/
theorem closed_saturated {t : State} {k : TenantIx} (raised : t.causes.entries[causeIx .balanceSaturated]
    = (s.raise .balanceSaturated (numDetail k.1)).causes.entries[causeIx .balanceSaturated]) :
    (t.causes.entries[causeIx .balanceSaturated]).pending = true
      ∧ (t.causes.entries[causeIx .balanceSaturated]).detail.toNat ≤ k.1 := by
  rw [raised, raise_lowest s .balanceSaturated rfl k]
  refine ⟨rfl, ?_⟩
  dsimp only
  split
  · rename_i held
    exact held.2
  · exact (BitVec.toNat_ofNat ..).trans_le (Nat.mod_le _ _)

end closed

section closeSteps
variable {s : State} (h : s.running) (busy : s.closer.state ≠ .idle) (room : s.holdList.length < 8)
include h busy room

theorem exec_close (kind : s.closer.kind = .full) (active : (s.tenants[s.closer.position]).state = .active) :
    exec .close s = .next (s.closed false).moveWalk := by
  show execClose s = _
  rw [execClose, event_running h, if_pos (closeReady_iff.mpr ⟨busy, kind, room, active⟩)]
  rfl

theorem exec_finalClose (kind : s.closer.kind = .retire) (retiring : (s.tenants[s.closer.position]).state = .retiring) :
    exec .finalClose s = .next ((s.closed true).endWalk s.closer.position.1) := by
  show execFinalClose s = _
  rw [execFinalClose, event_running h, if_pos (closeReady_iff.mpr ⟨busy, kind, room, retiring⟩)]
  rfl

end closeSteps

section moveWalk
variable {s : State}

theorem moveWalk_on {n : TenantIx} (next : s.nextActive (s.closer.position.1 + 1) = some n) : s.moveWalk =
    { s with closer := { s.closer with state := s.walkState, position := n } } := by
  rw [State.moveWalk, next]

theorem moveWalk_end (none : s.nextActive (s.closer.position.1 + 1) = none) : s.moveWalk = s.endWalk s.closer.built := by
  rw [State.moveWalk, none]

/-- Moving on raises JOB_DONE at most. -/
theorem moveWalk_cause {c : Fin 14} (other : c ≠ causeIx .jobDone) : s.moveWalk.causes.entries[c] = s.causes.entries[c] := by
  cases next : s.nextActive (s.closer.position.1 + 1) with
  | some n => rw [moveWalk_on next]
  | none =>
    rw [moveWalk_end next]
    cases job : s.closer.walkJob
    · rw [(endWalk_noJob s _ job).2]
    · rw [(endWalk_job s _ job).2]
      exact raise_other s _ _ other

end moveWalk

/-- JOB_DONE is raised with the CLOSE slot's bit (R167). -/
theorem raise_closeDone (s : State) : ((s.raise .jobDone 1).causes.entries[causeIx .jobDone]).pending = true
    ∧ ((s.raise .jobDone 1).causes.entries[causeIx .jobDone]).detail &&& 1#16 = 1#16 :=
  ⟨raise_pending s _ _, raise_bits s .jobDone 1#16 rfl⟩

/-- Settles O39: the tenant's record is built and its next epoch opened, and the walk moves on or ends. -/
theorem closeStepOpensNextEpoch : Obligations.CloseStepOpensNextEpoch := by
  intro s h busy kind room active k r card c record
  set u : State := s.closed false with hu
  have closer : u.closer = { s.closer with built := s.closer.built + 1 } := closed_closer s false
  have built : u.closer.built = s.closer.built + 1 := (congrArg Closer.built closer).trans rfl
  have position : u.closer.position = s.closer.position := (congrArg Closer.position closer).trans rfl
  have hold : u.holdList = s.holdList ++ [record] := closed_holdList s false
  have walk : u.walkState = if s.holdList.length + 1 < 8 then .walking else .waiting := by
    rw [walkState_eq, hold, List.length_append]
    rfl
  have jobs : u.jobs = s.jobs := closed_jobs s false
  have tenants : u.tenants = _ := closed_tenants s
  have first (active : s.FabricTenantActive) : u.FabricTenantActive := (closed_state s _).trans active
  have moved := moveWalk_frame u
  have ahead : u.nextActive (u.closer.position.1 + 1) = s.nextActive (k.1 + 1) := by
    rw [position, closed_nextActive]
  have saturations : u.moveWalk.causes.entries[causeIx .balanceSaturated] = u.causes.entries[causeIx .balanceSaturated] :=
    moveWalk_cause (by decide)
  have causes : u.causes = if c.saturates then (s.raise .balanceSaturated (numDetail k.1)).causes else s.causes := closed_causes s false
  have steps : exec .close s = .next u.moveWalk := exec_close h busy room kind active
  clear_value u
  refine ⟨u.moveWalk, steps, (moved .holdList (by simp)).trans hold,
    (moved .tenants (by simp)).trans ?tenants, fun saturated => ?saturated, fun whole fits => ?unsaturated, fun n next => ?moves,
    fun last => ⟨fun job => ?job, fun noJob => ?noJob, fun alone => ?idle, fun pended tenant0 => ?pended⟩⟩
  case tenants => rw [tenants]; rfl
  case saturated =>
    refine closed_saturated s (saturations.trans ?_)
    rw [causes, if_pos (by rw [ChargeResult.saturates, Bool.or_eq_true]; exact saturated)]
  case unsaturated =>
    refine saturations.trans ?_
    rw [causes, if_neg (by rw [ChargeResult.saturates, whole, fits]; decide)]
  case moves =>
    rw [moveWalk_on (ahead.trans next)]
    refine ⟨?_, jobs⟩
    show { u.closer with state := u.walkState, position := n } = _
    rw [closer, walk]
  case job =>
    obtain ⟨ended, done⟩ := endWalk_job u u.closer.built ((congrArg Closer.walkJob closer).trans job)
    rw [moveWalk_end (ahead.trans last), ended, done, jobs, built]
    exact ⟨rfl, raise_closeDone u⟩
  case noJob =>
    obtain ⟨ended, kept⟩ := endWalk_noJob u u.closer.built ((congrArg Closer.walkJob closer).trans noJob)
    rw [moveWalk_end (ahead.trans last), ended, kept, jobs, causes]
    refine ⟨rfl, ?_⟩
    split
    · exact raise_other s _ _ (by decide)
    · rfl
  case idle =>
    rw [moveWalk_end (ahead.trans last), endWalk_idle u _ ((congrArg Closer.pendingFlag closer).trans alone), closer]
  case pended =>
    rw [moveWalk_end (ahead.trans last), endWalk_pended u _ ((congrArg Closer.pendingFlag closer).trans pended) (first tenant0), closer, walk, ← kind]

/-- Settles O40: the FINAL record is built, the tenant returned to UNUSED, and the walk's job DONE. -/
theorem finalCloseRetiresTenant : Obligations.FinalCloseRetiresTenant := by
  intro s h busy kind room retiring job alone r card c record
  set u : State := s.closed true with hu
  have closer : u.closer = { s.closer with built := s.closer.built + 1 } := closed_closer s true
  have causes : u.causes = if c.saturates then (s.raise .balanceSaturated (numDetail s.closer.position.1)).causes else s.causes :=
    closed_causes s true
  have tenants : u.tenants = mapAt s.tenants s.closer.position fun _ => .unused := closed_final_tenants s
  obtain ⟨jobs, done⟩ := endWalk_job u s.closer.position.1 ((congrArg Closer.walkJob closer).trans job)
  have ended := endWalk_frame u s.closer.position.1
  have idle := endWalk_idle u s.closer.position.1 ((congrArg Closer.pendingFlag closer).trans alone)
  refine ⟨u.endWalk s.closer.position.1, exec_finalClose h busy room kind retiring, (ended .holdList (by simp)).trans ?hold,
    fun saturated => closed_saturated s ?raised, ?retired, fun j other => ?others, ?state, ?position, ?jobs, ?done⟩
  case hold =>
    have uncarried : c.carried = false := chargeOf_final_carried s s.closer.position
    rw [closed_holdList, buildRecord, show (s.chargeOf s.closer.position true).carried = false from uncarried]
    rfl
  case raised =>
    rw [done, raise_other u .jobDone 1 (by decide), causes, if_pos (by rw [ChargeResult.saturates, Bool.or_eq_true]; exact saturated)]
  case retired =>
    rw [show (u.endWalk s.closer.position.1).tenants = _ from (ended .tenants (by simp)).trans tenants]
    exact mapAt_get_self _ s.closer.position _
  case others =>
    rw [show (u.endWalk s.closer.position.1).tenants = _ from (ended .tenants (by simp)).trans tenants]
    exact mapAt_get_ne _ s.closer.position j _ (Ne.symm other)
  case state => rw [idle]
  case position => rw [idle]
  case jobs => rw [jobs, closed_jobs]
  case done => rw [done]; exact raise_closeDone u

end Sys2Proof.Machine

/-! PROOF. Finishing a transaction, ending the reads that wait, and losing legs (sections 4.4, 4.7 and 8.1): what each of them keeps. -/

namespace Sys2Proof.Machine

/-! ### Legs by side -/

@[simp] theorem otherSide_otherSide (x : Side) : otherSide (otherSide x) = x := by cases x <;> rfl

theorem otherSide_ne (x : Side) : otherSide x ≠ x := by cases x <;> decide

theorem eq_otherSide {x y : Side} (h : y ≠ x) : y = otherSide x := by
  cases x <;> cases y
  · exact absurd rfl h
  · rfl
  · rfl
  · exact absurd rfl h

theorem forall_side_iff {P : Side → Prop} (x : Side) : (∀ y, P y) ↔ P x ∧ P (otherSide x) :=
  ⟨fun h => ⟨h _, h _⟩, fun ⟨a, b⟩ y => if h : y = x then h ▸ a else eq_otherSide h ▸ b⟩

theorem mem_bothSides (x : Side) : x ∈ bothSides := by cases x <;> simp [bothSides]

section legs
variable (x : Side)

@[simp] theorem OttEntry.modLeg_leg (e : OttEntry) (f : OttLeg → OttLeg) : (e.modLeg x f).leg x = f (e.leg x) := by cases x <;> rfl

@[simp] theorem OttEntry.modLeg_other (e : OttEntry) (f : OttLeg → OttLeg) : (e.modLeg x f).leg (otherSide x) = e.leg (otherSide x) := by
  cases x <;> rfl

/-- Changing a leg leaves the rest of the entry. -/
theorem OttEntry.modLeg_eq (e : OttEntry) (f : OttLeg → OttLeg) :
    e.modLeg x f = { e with primary := (e.modLeg x f).primary, mirror := (e.modLeg x f).mirror } := by cases x <;> rfl

@[simp] theorem Window.modLeg_leg (w : Window) (f : WindowLeg → WindowLeg) : (w.modLeg x f).leg x = f (w.leg x) := by cases x <;> rfl

@[simp] theorem Window.modLeg_other (w : Window) (f : WindowLeg → WindowLeg) : (w.modLeg x f).leg (otherSide x) = w.leg (otherSide x) := by
  cases x <;> rfl

theorem Window.modLeg_eq (w : Window) (f : WindowLeg → WindowLeg) :
    w.modLeg x f = { w with primary := (w.modLeg x f).primary, mirror := (w.modLeg x f).mirror } := by cases x <;> rfl

/-- A freed entry has no legs. -/
@[simp] theorem freed_leg (gen : BitVec 4) : (OttEntry.freed gen).leg x = .none := by cases x <;> rfl

end legs

section entries
variable (s : State) (i : OttIx)

theorem modEntry_get (f : OttEntry → OttEntry) : (s.modEntry i f).ott.entries[i] = f s.ott.entries[i] := mapAt_get_self _ i f

theorem modEntry_other {j : OttIx} (f : OttEntry → OttEntry) (h : j ≠ i) : (s.modEntry i f).ott.entries[j] = s.ott.entries[j] :=
  mapAt_get_ne _ i j f (Ne.symm h)

end entries

/-! ### An entry becomes FREE -/

section freeEntry
variable (s : State) (i : OttIx)

/-- The counts of an entry's origin: of the pool, and of the ingress port. -/
theorem countEntry_windows (o : Origin) (w : WindowIx) (f : Nat → Nat) :
    (s.countEntry o w f).windows = mapAt s.windows w fun win => { win with outstanding := f win.outstanding } := by cases o <;> rfl

theorem countEntry_entries (o : Origin) (w : WindowIx) (f : Nat → Nat) : (s.countEntry o w f).ott.entries = s.ott.entries := by
  cases o <;> rfl

theorem countEntry_stage (o : Origin) (w : WindowIx) (f : Nat → Nat) (q : PortIx) : (s.countEntry o w f).stages[q] =
    { s.stages[q] with ottCount := ((s.countEntry o w f).stages[q]).ottCount } := by
  cases o with
  | fabric => rfl
  | ingress p r tag =>
    have table : (s.countEntry (.ingress p r tag) w f).stages = mapAt s.stages p fun g => { g with ottCount := f g.ottCount } := rfl
    rw [table]
    by_cases h : p = q
    · subst h
      rw [show (mapAt s.stages p _)[p] = _ from mapAt_get_self _ p _]
      rfl
    · rw [show (mapAt s.stages p _)[q] = _ from mapAt_get_ne _ p q _ h]
      rfl

theorem freeEntry_entries : (s.freeEntry i).ott.entries = mapAt s.ott.entries i fun e => .freed e.gen := by
  have counted := countEntry_entries (s.modEntry i fun e => .freed e.gen) (s.ott.entries[i]).origin (s.ott.entries[i]).window (· - 1)
  unfold State.freeEntry
  dsimp only
  split <;> exact counted

theorem freeEntry_get : (s.freeEntry i).ott.entries[i] = .freed (s.ott.entries[i]).gen := by
  rw [freeEntry_entries]
  exact mapAt_get_self _ i _

theorem freeEntry_windows : (s.freeEntry i).windows =
    mapAt s.windows (s.ott.entries[i]).window fun win => { win with outstanding := win.outstanding - 1 } := by
  have counted := countEntry_windows (s.modEntry i fun e => .freed e.gen) (s.ott.entries[i]).origin (s.ott.entries[i]).window (· - 1)
  unfold State.freeEntry
  dsimp only
  split <;> exact counted

theorem freeEntry_stage (q : PortIx) :
    (s.freeEntry i).stages[q] = { s.stages[q] with ottCount := ((s.freeEntry i).stages[q]).ottCount } := by
  have counted := countEntry_stage (s.modEntry i fun e => .freed e.gen) (s.ott.entries[i]).origin (s.ott.entries[i]).window (· - 1) q
  unfold State.freeEntry
  dsimp only
  split <;> exact counted

end freeEntry

/-! ### The finish of a transaction (R79 to R83) -/

section finish
variable {s : State} {i : OttIx}

/-- A LIVE entry of server or trunk origin answers on its ingress link, and is metered when GOOD on a SERVER port. -/
theorem finish_ingress {p : PortIx} {r : ReqId} {tag : Tag} (live : (s.ott.entries[i]).state = .live)
    (origin : (s.ott.entries[i]).origin = .ingress p r tag) (status : Status) : s.finish i status =
      (if status = .good ∧ s.links[p].mode = .server
        then (s.respond p (isRead (s.ott.entries[i]).body) r tag status
            (if isRead (s.ott.entries[i]).body && status == .good then (s.ott.entries[i]).readData else none)).meter
          (s.ott.entries[i]).tenant (isRead (s.ott.entries[i]).body) (s.ott.entries[i]).congestedGood
        else s.respond p (isRead (s.ott.entries[i]).body) r tag status
            (if isRead (s.ott.entries[i]).body && status == .good then (s.ott.entries[i]).readData else none)).freeEntry i := by
  rw [State.finish, live, origin]

theorem finish_fabric {job : FabricJob} (live : (s.ott.entries[i]).state = .live) (origin : (s.ott.entries[i]).origin = .fabric job)
    (status : Status) : s.finish i status =
      (if status = .good
        then (s.report job status (if isRead (s.ott.entries[i]).body && status == .good then (s.ott.entries[i]).readData else none)).meter
          (s.ott.entries[i]).tenant (isRead (s.ott.entries[i]).body) (s.ott.entries[i]).congestedGood
        else s.report job status (if isRead (s.ott.entries[i]).body && status == .good then (s.ott.entries[i]).readData else none)).freeEntry
          i := by
  rw [State.finish, live, origin]

theorem finish_orphan (orphan : (s.ott.entries[i]).state = .orphan) (status : Status) : s.finish i status = s.freeEntry i := by
  rw [State.finish, orphan]

theorem finish_free (free : (s.ott.entries[i]).state = .free) (status : Status) : s.finish i status = s := by
  rw [State.finish, free]

end finish

end Sys2Proof.Machine

/-! PROOF. What the loss of legs and the ends of waiting reads keep (R73, R82, R138, R139, R157). -/

namespace Sys2Proof.Machine

/-! ### What a loss keeps -/

/-- What a loss keeps: link units but for responses that join their transmit queues, stages but for the entries counted, windows but for
their legs and their outstanding count, which does not rise, and every job but the rebuild. A leg that changes becomes LOST, and is one
of `hit` or of the window under rebuild. No cause but those of `raised` changes. -/
structure LossKept (hit : WindowIx → Side → Prop) (raised : List Cause) (s t : State) : Prop where
  frame : SameExcept portLossParts s t
  link : ∀ q : PortIx, ∃ more : List Payload, t.links[q] = { s.links[q] with txQueue := s.links[q].txQueue ++ more }
    ∧ (takesOffers s.links[q].state = false → more = [])
  stage : ∀ q : PortIx, t.stages[q] = { s.stages[q] with ottCount := (t.stages[q]).ottCount }
  window : ∀ w : WindowIx, t.windows[w] = { s.windows[w] with
    primary := (t.windows[w]).primary, mirror := (t.windows[w]).mirror, outstanding := (t.windows[w]).outstanding }
    ∧ (t.windows[w]).outstanding ≤ (s.windows[w]).outstanding
  leg : ∀ (w : WindowIx) (x : Side), (t.windows[w]).leg x = (s.windows[w]).leg x
    ∨ ((hit w x ∨ s.copy.window = some w) ∧ (t.windows[w]).leg x = { (s.windows[w]).leg x with state := .lost })
  engine : t.copy.window = s.copy.window ∨ t.copy.window = none
  jobs : t.jobs = { s.jobs with rebuild := t.jobs.rebuild }
  cause : ∀ c : Cause, c ∉ raised → t.causes.entries[causeIx c] = s.causes.entries[causeIx c]

/-- The causes that the end of a waiting read may raise: a copy read's report may end a drain, and a ring write's stalls the writer. -/
def reportCauses : List Cause := [.jobDone, .ringStalled]

/-- The causes that a loss of legs may raise. -/
def lossCauses : List Cause := [.legLost, .windowUnavailable, .jobDone, .ringStalled]

namespace LossKept
variable {hit : WindowIx → Side → Prop} {raised : List Cause} {s t u : State}

/-- Whatever leaves the link units, stages, windows, jobs and causes alone, and does not give the engine a window, is kept. -/
theorem of_frame (frame : SameExcept [.ott, .ring, .fabric, .copy, .sweep] s t) (engine : t.copy.window = s.copy.window ∨ t.copy.window = none) :
    LossKept hit raised s t := by
  have links : t.links = s.links := frame .links (by simp)
  have stages : t.stages = s.stages := frame .stages (by simp)
  have windows : t.windows = s.windows := frame .windows (by simp)
  have jobs : t.jobs = s.jobs := frame .jobs (by simp)
  have causes : t.causes = s.causes := frame .causes (by simp)
  refine ⟨frame.mono (by decide), fun q => ⟨[], ?_, fun _ => rfl⟩, fun q => ?_, fun w => ⟨?_, ?_⟩, fun w x => .inl ?_, engine, ?_, fun c _ => ?_⟩
  · rw [links, List.append_nil]
  · rw [stages]
  · rw [windows]
  · rw [windows]
  · rw [windows]
  · rw [jobs]
  · rw [causes]

theorem rfl_ : LossKept hit raised s s := of_frame .rfl_ (.inl rfl)

theorem mono {hit' : WindowIx → Side → Prop} {raised' : List Cause} (h : LossKept hit raised s t) (more : ∀ w x, hit w x → hit' w x)
    (sub : raised ⊆ raised') : LossKept hit' raised' s t :=
  { h with
    leg := fun w x => (h.leg w x).imp_right fun ⟨why, lost⟩ => ⟨why.imp_left (more w x), lost⟩
    cause := fun c other => h.cause c fun k => other (sub k) }

theorem trans (h : LossKept hit raised s t) (k : LossKept hit raised t u) : LossKept hit raised s u := by
  refine ⟨h.frame.trans k.frame, fun q => ?link, fun q => ?stage, fun w => ?window, fun w x => ?leg, ?engine, ?jobs,
    fun c other => (k.cause c other).trans (h.cause c other)⟩
  case link =>
    obtain ⟨first, here, silent⟩ := h.link q
    obtain ⟨second, there, silent'⟩ := k.link q
    refine ⟨first ++ second, ?_, fun down => ?_⟩
    · rw [there, here, List.append_assoc]
    · rw [here] at silent'
      rw [silent down, silent' down, List.append_nil]
  case stage => rw [k.stage q, h.stage q]
  case window =>
    obtain ⟨here, le⟩ := h.window w
    obtain ⟨there, le'⟩ := k.window w
    refine ⟨?_, le'.trans le⟩
    rw [there, here]
  case leg =>
    rcases h.leg w x with same | ⟨why, lost⟩
    · rcases k.leg w x with same' | ⟨why', lost'⟩
      · exact .inl (same'.trans same)
      · refine .inr ⟨why'.imp_right fun under => ?_, by rw [lost', same]⟩
        rcases h.engine with kept | gone
        · rw [← kept]; exact under
        · rw [gone] at under
          cases under
    · refine .inr ⟨why, ?_⟩
      rcases k.leg w x with same' | ⟨-, lost'⟩
      · rw [same', lost]
      · rw [lost', lost]
  case engine =>
    rcases k.engine with kept | gone
    · rw [kept]; exact h.engine
    · exact .inr gone
  case jobs => rw [k.jobs, h.jobs]

theorem ite {c : Prop} [Decidable c] (h : LossKept hit raised s t) (k : LossKept hit raised s u) :
    LossKept hit raised s (if c then t else u) := by
  split
  · exact h
  · exact k

theorem foldl {α : Type} {f : State → α → State} (h : ∀ s a, LossKept hit raised s (f s a)) (l : List α) (s : State) :
    LossKept hit raised s (l.foldl f s) := by
  induction l generalizing s with
  | nil => exact .rfl_
  | cons a l ih => exact (h s a).trans (ih (f s a))

/-- A leg that is LOST stays LOST. -/
theorem lost (h : LossKept hit raised s t) {w : WindowIx} {x : Side} (lost : ((s.windows[w]).leg x).state = .lost) :
    ((t.windows[w]).leg x).state = .lost := by
  rcases h.leg w x with same | ⟨-, changed⟩
  · rw [same, lost]
  · rw [changed]

/-- Legs keep their ports. -/
theorem port (h : LossKept hit raised s t) (w : WindowIx) (x : Side) : ((t.windows[w]).leg x).port = ((s.windows[w]).leg x).port := by
  rcases h.leg w x with same | ⟨-, changed⟩
  · rw [same]
  · rw [changed]

end LossKept

/-! ### Reports and the copy engine -/

section reports
variable {hit : WindowIx → Side → Prop} (s : State)

/-- Raising a cause keeps all but its entry. -/
theorem raise_lossKept {raised : List Cause} (c : Cause) (d : BitVec 16) (listed : c ∈ raised) : LossKept hit raised s (s.raise c d) := by
  refine ⟨(raise_frame s c d).mono (by decide), fun q => ⟨[], ?_, fun _ => rfl⟩, fun q => rfl, fun w => ⟨rfl, le_rfl⟩, fun w x => .inl rfl,
    .inl rfl, rfl, fun k other => ?_⟩
  · rw [List.append_nil]
    rfl
  · exact raise_other s c d fun same => other (causeIx_injective same ▸ listed)

theorem rebuildEnd_lossKept {raised : List Cause} (how : JobState) (n : Nat) (listed : .jobDone ∈ raised) :
    LossKept hit raised s (s.endJob .rebuild how n) := by
  refine .trans (t := s.setJob .rebuild ⟨how, n⟩) ?_ (raise_lossKept _ _ _ listed)
  refine ⟨(setJob_frame s _ _).mono (by decide), fun q => ⟨[], ?_, fun _ => rfl⟩, fun q => rfl, fun w => ⟨rfl, le_rfl⟩, fun w x => .inl rfl,
    .inl rfl, rfl, fun _ _ => rfl⟩
  rw [List.append_nil]
  rfl

/-- A new copy engine of the same window, or of none, is kept. -/
theorem copy_lossKept {raised : List Cause} {c : CopyEngine} (engine : c.window = s.copy.window ∨ c.window = none) :
    LossKept hit raised s { s with copy := c } :=
  .of_frame (fun x h => by cases x <;> first | rfl | exact absurd (by simp) h) engine

theorem ring_lossKept {raised : List Cause} (r : Ring) : LossKept hit raised s { s with ring := r } :=
  .of_frame (fun x h => by cases x <;> first | rfl | exact absurd (by simp) h) (.inl rfl)

theorem drainEnd_lossKept {raised : List Cause} (listed : .jobDone ∈ raised) : LossKept hit raised s s.drainEnd :=
  .ite ((copy_lossKept s (.inr rfl)).trans (rebuildEnd_lossKept _ _ _ listed)) .rfl_

theorem freeSlot_lossKept {raised : List Cause} (k : SlotIx) : LossKept hit raised s (s.freeSlot k) := copy_lossKept s (.inl rfl)

/-- A leg that is hit, or of the window under rebuild, becomes LOST. -/
theorem setLeg_lossKept {raised : List Cause} {w : WindowIx} {x : Side} (why : hit w x ∨ s.copy.window = some w) :
    LossKept hit raised s (s.setLeg w x .lost) := by
  have here : (s.setLeg w x .lost).windows[w] = (s.windows[w]).modLeg x fun l => { l with state := .lost } := modWindow_get s w _
  refine ⟨(setLeg_frame s w x _).mono (by decide), fun q => ⟨[], ?_, fun _ => rfl⟩, fun q => rfl, fun v => ?_, fun v y => ?_, .inl rfl, rfl,
    fun _ _ => rfl⟩
  · rw [List.append_nil]
    rfl
  · by_cases same : v = w
    · subst same
      rw [here, Window.modLeg_eq]
      exact ⟨rfl, le_rfl⟩
    · rw [show (s.setLeg w x .lost).windows[v] = _ from modWindow_other s w _ same]
      exact ⟨rfl, le_rfl⟩
  · by_cases same : v = w
    · subst same
      rw [here]
      by_cases side : y = x
      · subst side
        exact .inr ⟨why, Window.modLeg_leg ..⟩
      · rw [eq_otherSide side]
        exact .inl (Window.modLeg_other ..)
    · rw [show (s.setLeg w x .lost).windows[v] = _ from modWindow_other s w _ same]
      exact .inl rfl

theorem failRebuild_lossKept {raised : List Cause} (r : FailReason) (listed : .jobDone ∈ raised) :
    LossKept hit raised s (s.failRebuild r) := by
  unfold State.failRebuild
  split
  · rename_i w _ window
    set u : State := { s with copy := { s.copy with state := .draining, reason := r } }
    have drained : LossKept hit raised s u := copy_lossKept s (.inl rfl)
    have marked : LossKept hit raised s (u.setLeg w s.copy.rebuilding .lost) := drained.trans (setLeg_lossKept u (.inr window))
    have withdrawn : LossKept hit raised (u.setLeg w s.copy.rebuilding .lost) (u.setLeg w s.copy.rebuilding .lost).withdrawPending :=
      .of_frame ((withdrawPending_frame _).mono (by simp)) (.inl rfl)
    exact (marked.trans withdrawn).trans (drainEnd_lossKept _ listed)
  · exact .rfl_

theorem stallRing_lossKept {raised : List Cause} (which : RingWrite) (listed : .ringStalled ∈ raised) :
    LossKept hit raised s (s.stallRing which) :=
  (ring_lossKept s { s.ring with writer := .stalled, stalled := some which, retryTimer := some (s.timer Config.ringRetryPeriod) }).trans
    (raise_lossKept _ _ _ listed)

theorem copyReport_lossKept {raised : List Cause} (k : SlotIx) {st : Status} (bad : st ≠ .good) (d : Option LineData)
    (listed : .jobDone ∈ raised) : LossKept hit raised s (s.copyReport k st d) := by
  have fails (r : FailReason) : LossKept hit raised s ((s.freeSlot k).failRebuild r) :=
    (freeSlot_lossKept s k).trans (failRebuild_lossKept _ r listed)
  unfold State.copyReport
  split
  · exact .rfl_
  · exact (freeSlot_lossKept s k).trans (drainEnd_lossKept _ listed)
  · split
    · exact .rfl_
    · split
      · exact absurd rfl bad
      · exact fails _
    · rw [if_neg bad]
      exact fails _

theorem report_lossKept {raised : List Cause} (j : FabricJob) {st : Status} (bad : st ≠ .good) (d : Option LineData)
    (sub : reportCauses ⊆ raised) : LossKept hit raised s (s.report j st d) := by
  cases j with
  | ringRecord =>
    rw [show s.report .ringRecord st d = s.stallRing .record from if_neg bad]
    exact stallRing_lossKept s .record (sub (by decide))
  | ringIndex =>
    rw [show s.report .ringIndex st d = s.stallRing .index from if_neg bad]
    exact stallRing_lossKept s .index (sub (by decide))
  | copySlot k => exact copyReport_lossKept s k bad d (sub (by decide))

end reports

/-! ### The ends of reads -/

section reads
variable {hit : WindowIx → Side → Prop} {raised : List Cause} (s : State)

/-- A response joins the transmit queue of a link that takes offers. -/
theorem respond_lossKept (p : PortIx) (read : Bool) (r : ReqId) (tag : Tag) (st : Status) (d : Option LineData) :
    LossKept hit raised s (s.respond p read r tag st d) := by
  refine ⟨(respond_frame s p read r tag st d).mono (by decide), fun q => ?_, fun q => rfl, fun w => ⟨rfl, le_rfl⟩, fun w x => .inl rfl,
    .inl rfl, rfl, fun _ _ => rfl⟩
  by_cases here : q = p
  · subst here
    cases up : takesOffers s.links[q].state
    · refine ⟨[], ?_, fun _ => rfl⟩
      rw [State.respond, State.offer, modLink_get, if_neg (by rw [up]; decide), List.append_nil]
    · refine ⟨[.response ⟨if read then .rdata else .wack, r, tag, st, d⟩], ?_, fun down => absurd down (by decide)⟩
      rw [State.respond, State.offer, modLink_get, if_pos up]
  · refine ⟨[], ?_, fun _ => rfl⟩
    rw [show (s.respond p read r tag st d).links[q] = _ from modLink_other s _ here, List.append_nil]

/-- A freed entry leaves every leg of every window. -/
theorem freeEntry_leg (i : OttIx) (w : WindowIx) (x : Side) : ((s.freeEntry i).windows[w]).leg x = (s.windows[w]).leg x := by
  rw [freeEntry_windows]
  by_cases here : (s.ott.entries[i]).window = w
  · subst here
    rw [show (mapAt s.windows _ _)[(s.ott.entries[i]).window] = _ from mapAt_get_self _ (s.ott.entries[i]).window _]
    cases x <;> rfl
  · rw [show (mapAt s.windows _ _)[w] = _ from mapAt_get_ne _ _ w _ here]
    rfl

theorem freeEntry_lossKept (i : OttIx) : LossKept hit raised s (s.freeEntry i) := by
  have frame := freeEntry_frame s i
  have links : (s.freeEntry i).links = s.links := frame .links (by simp)
  have copy : (s.freeEntry i).copy = s.copy := frame .copy (by simp)
  have jobs : (s.freeEntry i).jobs = s.jobs := frame .jobs (by simp)
  have causes : (s.freeEntry i).causes = s.causes := frame .causes (by simp)
  have windows := freeEntry_windows s i
  refine ⟨frame.mono (by decide), fun q => ⟨[], ?_, fun _ => rfl⟩, freeEntry_stage s i, fun w => ?_,
    fun w x => .inl (freeEntry_leg s i w x), .inl ?_, ?_, fun c _ => ?_⟩
  · rw [links, List.append_nil]
  · rw [windows]
    by_cases here : (s.ott.entries[i]).window = w
    · subst here
      rw [show (mapAt s.windows _ _)[(s.ott.entries[i]).window] = _ from mapAt_get_self _ (s.ott.entries[i]).window _]
      exact ⟨rfl, Nat.sub_le _ _⟩
    · rw [show (mapAt s.windows _ _)[w] = _ from mapAt_get_ne _ _ w _ here]
      exact ⟨rfl, le_rfl⟩
  · rw [copy]
  · rw [jobs]
  · rw [causes]

theorem finish_lossKept (i : OttIx) {st : Status} (bad : st ≠ .good) (sub : reportCauses ⊆ raised) :
    LossKept hit raised s (s.finish i st) := by
  cases state : (s.ott.entries[i]).state with
  | free => rw [finish_free state]; exact .rfl_
  | orphan => rw [finish_orphan state]; exact freeEntry_lossKept s i
  | live =>
    cases origin : (s.ott.entries[i]).origin with
    | ingress p r tag =>
      rw [finish_ingress state origin, if_neg (fun k => bad k.1)]
      exact (respond_lossKept s ..).trans (freeEntry_lossKept _ i)
    | fabric job =>
      rw [finish_fabric state origin, if_neg bad]
      exact (report_lossKept s job bad _ sub).trans (freeEntry_lossKept _ i)

/-- A read without data never finishes GOOD. -/
theorem readFailStatus_ne (st : Option Status) : readFailStatus st ≠ .good := by
  unfold readFailStatus
  split <;> decide

theorem readFailure_ne (e : OttEntry) (x : Side) : e.readFailure x ≠ .good := by
  unfold OttEntry.readFailure
  dsimp only
  split <;> exact readFailStatus_ne _

theorem finishReadFailed_lossKept (i : OttIx) (x : Side) (sub : reportCauses ⊆ raised) : LossKept hit raised s (s.finishReadFailed i x) :=
  finish_lossKept s i (readFailure_ne _ x) sub

/-- A new outstanding transaction table is kept. -/
theorem modEntry_lossKept (i : OttIx) (f : OttEntry → OttEntry) : LossKept hit raised s (s.modEntry i f) :=
  .of_frame ((modEntry_frame s i f).mono (by simp)) (.inl rfl)

theorem cancelWaitingOf_lossKept (i : OttIx) (f : State → Side → Bool) (sub : reportCauses ⊆ raised) :
    LossKept hit raised s (s.cancelWaitingOf i f) :=
  .foldl (fun s x => .ite ((modEntry_lossKept s i _).trans (finishReadFailed_lossKept _ i x sub)) .rfl_) _ s

theorem cancelLostWaiting_lossKept (sub : reportCauses ⊆ raised) : LossKept hit raised s s.cancelLostWaiting :=
  .foldl (fun s i => cancelWaitingOf_lossKept s i _ sub) _ s

end reads

/-! ### The loss of a window's legs -/

section loss
variable (s : State) (w : WindowIx) (hit : Side → Bool)

/-- The legs that the window step takes itself: hit, and IN_SERVICE or REBUILDING (R138). -/
def State.losing (x : Side) : Bool := hit x && ((s.windows[w]).leg x).state.losable

/-- The survivor of the window under rebuild is lost (R157). -/
def State.survivorLost : Bool := s.underRebuild w && s.losing w hit (otherSide s.copy.rebuilding)

/-- The legs that become LOST: those taken, and the REBUILDING leg with its survivor. -/
def State.losesLeg (x : Side) : Bool := s.losing w hit x || (s.survivorLost w hit && x == s.copy.rebuilding)

/-- A leg is LOST when told so. -/
def WindowLeg.lostWhen (l : WindowLeg) (lost : Bool) : WindowLeg := if lost then { l with state := .lost } else l

/-- The part with the legs of the window LOST, before any cause is raised. -/
def State.marked : State := s.modWindow w fun win => { win with
  primary := win.primary.lostWhen (s.losesLeg w hit .primary), mirror := win.mirror.lostWhen (s.losesLeg w hit .mirror) }

/-- The part with the loss raised as the condition that its leg states give (R138). -/
def State.lossTold : State :=
  if ((s.marked w hit).windows[w]).legCondition = .unavailable then (s.marked w hit).raise .windowUnavailable (numDetail w.1)
  else (s.marked w hit).raise .legLost (numDetail w.1)

theorem loseLegs_none (none : bothSides.any (s.losing w hit) = false) : s.loseLegs w hit = s :=
  if_neg fun some_ => Bool.false_ne_true (none.symm.trans some_)

theorem setLeg_when (x : Side) (c : Bool) :
    (if c then s.setLeg w x .lost else s) = s.modWindow w fun win => win.modLeg x fun l => l.lostWhen c := by
  cases c
  · have same : (fun win : Window => win.modLeg x fun l => l.lostWhen false) = fun win => win := by
      funext win
      cases x <;> rfl
    rw [same, State.modWindow, mapAt_id]
    rfl
  · rfl

theorem modWindow_modWindow (f g : Window → Window) : (s.modWindow w f).modWindow w g = s.modWindow w fun win => g (f win) := by
  rw [State.modWindow, State.modWindow_windows, mapAt_mapAt]
  rfl

theorem marked_eq : bothSides.foldl (fun u x =>
    if s.losing w hit x || (s.survivorLost w hit && x == u.copy.rebuilding) then u.setLeg w x .lost else u) s = s.marked w hit := by
  set u : State := if s.losesLeg w hit .primary then s.setLeg w .primary .lost else s with hu
  have copy : u.copy = s.copy := by
    rw [hu]
    split <;> rfl
  show (if s.losing w hit .mirror || (s.survivorLost w hit && .mirror == u.copy.rebuilding) then u.setLeg w .mirror .lost else u) = _
  rw [copy]
  refine (setLeg_when u w .mirror (s.losesLeg w hit .mirror)).trans ?_
  rw [hu, setLeg_when, modWindow_modWindow]
  rfl

/-- A loss marks the legs, raises its cause and tells the copy engine. -/
theorem loseLegs_some (some_ : bothSides.any (s.losing w hit) = true) : s.loseLegs w hit =
    if s.survivorLost w hit then (s.lossTold w hit).failRebuild .survivorLost
    else if s.underRebuild w && s.losing w hit s.copy.rebuilding then (s.lossTold w hit).failRebuild .rebuildLegLost
    else s.lossTold w hit := by
  have told : (match ((s.marked w hit).windows[w]).legCondition with
      | .unavailable => (s.marked w hit).raise .windowUnavailable (numDetail w.1)
      | _ => (s.marked w hit).raise .legLost (numDetail w.1)) = s.lossTold w hit := by
    unfold State.lossTold
    cases ((s.marked w hit).windows[w]).legCondition <;> rfl
  refine (if_pos some_ : s.loseLegs w hit = _).trans ?_
  rw [← told, ← marked_eq]
  rfl

theorem losesLeg_why {x : Side} (h : s.losesLeg w hit x = true) : hit x = true ∨ s.copy.window = some w := by
  rcases Bool.or_eq_true_iff.mp h with direct | follows
  · exact .inl (Bool.and_eq_true_iff.mp direct).1
  · obtain ⟨survivor, -⟩ := Bool.and_eq_true_iff.mp follows
    obtain ⟨under, -⟩ := Bool.and_eq_true_iff.mp survivor
    obtain ⟨-, window⟩ := Bool.and_eq_true_iff.mp under
    exact .inr (eq_of_beq window)

theorem marked_get : (s.marked w hit).windows[w] = { s.windows[w] with
    primary := (s.windows[w]).primary.lostWhen (s.losesLeg w hit .primary)
    mirror := (s.windows[w]).mirror.lostWhen (s.losesLeg w hit .mirror) } := modWindow_get s w _

theorem marked_leg (x : Side) : ((s.marked w hit).windows[w]).leg x = ((s.windows[w]).leg x).lostWhen (s.losesLeg w hit x) := by
  rw [marked_get]
  cases x <;> rfl

theorem marked_lossKept : LossKept (fun v x => v = w ∧ hit x = true) lossCauses s (s.marked w hit) := by
  refine ⟨(modWindow_frame s w _).mono (by decide), fun q => ⟨[], ?_, fun _ => rfl⟩, fun q => rfl, fun v => ?_, fun v x => ?_, .inl rfl, rfl,
    fun _ _ => rfl⟩
  · rw [List.append_nil]
    rfl
  · by_cases same : v = w
    · subst same
      rw [marked_get]
      exact ⟨rfl, le_rfl⟩
    · rw [show (s.marked w hit).windows[v] = _ from modWindow_other s w _ same]
      exact ⟨rfl, le_rfl⟩
  · by_cases same : v = w
    · subst same
      rw [marked_leg]
      cases lost : s.losesLeg v hit x
      · exact .inl rfl
      · exact .inr ⟨(losesLeg_why s v hit lost).imp_left fun h => ⟨rfl, h⟩, rfl⟩
    · rw [show (s.marked w hit).windows[v] = _ from modWindow_other s w _ same]
      exact .inl rfl

theorem lossTold_lossKept : LossKept (fun v x => v = w ∧ hit x = true) lossCauses s (s.lossTold w hit) :=
  .ite ((marked_lossKept s w hit).trans (raise_lossKept _ _ _ (by decide))) ((marked_lossKept s w hit).trans (raise_lossKept _ _ _ (by decide)))

theorem loseLegs_lossKept : LossKept (fun v x => v = w ∧ hit x = true) lossCauses s (s.loseLegs w hit) := by
  have told := lossTold_lossKept s w hit
  cases lost : bothSides.any (s.losing w hit)
  · rw [loseLegs_none s w hit lost]
    exact .rfl_
  · rw [loseLegs_some s w hit lost]
    exact .ite (told.trans (failRebuild_lossKept _ _ (by decide)))
      (.ite (told.trans (failRebuild_lossKept _ _ (by decide))) told)

/-- Every leg that a loss takes is LOST after it. -/
theorem loseLegs_lost {x : Side} (taken : s.losing w hit x = true) : (((s.loseLegs w hit).windows[w]).leg x).state = .lost := by
  have some_ : bothSides.any (s.losing w hit) = true := List.any_eq_true.mpr ⟨x, mem_bothSides x, taken⟩
  have marked : (((s.marked w hit).windows[w]).leg x).state = .lost := by
    rw [marked_leg, State.losesLeg, taken, Bool.true_or]
    rfl
  have told : (((s.lossTold w hit).windows[w]).leg x).state = .lost := by
    unfold State.lossTold
    split <;> exact marked
  have failed (r : FailReason) : ((((s.lossTold w hit).failRebuild r).windows[w]).leg x).state = .lost :=
    (failRebuild_lossKept (hit := fun _ _ => False) (raised := lossCauses) _ r (by decide)).lost told
  rw [loseLegs_some s w hit some_]
  split
  · exact failed _
  · split
    · exact failed _
    · exact told

end loss

/-! ### A port-wide loss -/

section portLoss
variable {s : State} (p : PortIx)

/-- The legs on port `p`. -/
def State.onPort (s : State) (p : PortIx) (w : WindowIx) (x : Side) : Prop := ((s.windows[w]).leg x).port = p

/-- One window's step of a port-wide loss. -/
def State.loseOnPort (p : PortIx) (s : State) (w : WindowIx) : State := s.loseLegs w fun side => ((s.windows[w]).leg side).port == p

theorem loseOnPort_lossKept {u : State} (h : LossKept (s.onPort p) lossCauses s u) (w : WindowIx) :
    LossKept (s.onPort p) lossCauses s (u.loseOnPort p w) :=
  h.trans ((loseLegs_lossKept u w _).mono (fun v x ⟨here, there⟩ => by
    rw [State.onPort, ← h.port v x, here]
    exact eq_of_beq there) (List.Subset.refl _))

/-- The window steps keep what a loss keeps, and lose the legs on the port of every window they visit. -/
theorem windowSteps_lossKept (l : List WindowIx) {u : State} (h : LossKept (s.onPort p) lossCauses s u) :
    LossKept (s.onPort p) lossCauses s (l.foldl (State.loseOnPort p) u) := by
  induction l generalizing u with
  | nil => exact h
  | cons w l ih => exact ih (loseOnPort_lossKept p h w)

theorem windowSteps_lost (l : List WindowIx) {u : State} (h : LossKept (s.onPort p) lossCauses s u) {w : WindowIx} (mem : w ∈ l)
    {x : Side} (here : s.onPort p w x) (losable : ((s.windows[w]).leg x).state.losable = true) :
    (((l.foldl (State.loseOnPort p) u).windows[w]).leg x).state = .lost := by
  induction l generalizing u with
  | nil => cases mem
  | cons v l ih =>
    have next := loseOnPort_lossKept p h v
    rcases List.mem_cons.mp mem with head | tail
    · subst head
      have rest := windowSteps_lossKept (s := u.loseOnPort p w) p l .rfl_
      refine rest.lost ?_
      rcases h.leg w x with same | ⟨-, lost⟩
      · refine loseLegs_lost u w _ ?_
        rw [State.losing, same, losable, Bool.and_true, beq_iff_eq]
        exact here
      · exact (loseLegs_lossKept u w _).lost (by rw [lost])
    · exact ih next tail

theorem windowStep_lossKept (change : Bool) : LossKept (s.onPort p) lossCauses s (s.windowStep p change) :=
  (windowSteps_lossKept p _ .rfl_).trans (cancelLostWaiting_lossKept _ (by decide))

/-- A window taken by the loss has its legs on the port LOST (R138). -/
theorem windowStep_lost {change : Bool} {w : WindowIx} (taken : s.takenByLoss change w = true) {x : Side} (here : s.onPort p w x)
    (losable : ((s.windows[w]).leg x).state.losable = true) : (((s.windowStep p change).windows[w]).leg x).state = .lost := by
  have mem : w ∈ indicesWhere 256 (s.takenByLoss change) := List.mem_filter.mpr ⟨List.mem_finRange w, taken⟩
  exact (cancelLostWaiting_lossKept (hit := fun _ _ => False) _ (List.Subset.refl _)).lost (windowSteps_lost p _ .rfl_ mem here losable)

/-- The part with the port's legs lost, before its sweep is queued. -/
def State.portLegs (s : State) (p : PortIx) (change : Bool) : State := (s.raise .linkFailed (bitDetail p.1)).windowStep p change

theorem portLoss_eq (change : Bool) : s.portLoss p change = (s.portLegs p change).queueSweep p := rfl

/-- A port-wide loss (R137). -/
theorem portLoss_lossKept (change : Bool) : LossKept (s.onPort p) (.linkFailed :: lossCauses) s (s.portLoss p change) := by
  have raised : LossKept (s.onPort p) (.linkFailed :: lossCauses) s (s.raise .linkFailed (bitDetail p.1)) :=
    raise_lossKept s _ _ (List.mem_cons_self ..)
  have stepped := (windowStep_lossKept (s := s.raise .linkFailed (bitDetail p.1)) p change).mono (fun _ _ h => h)
    (List.subset_cons_self .linkFailed lossCauses)
  have queued : LossKept (s.onPort p) (.linkFailed :: lossCauses) (s.portLegs p change) (s.portLoss p change) :=
    .of_frame ((queueSweep_frame _ p).mono (by simp)) (.inl (congrArg CopyEngine.window (queueSweep_frame _ p .copy (by simp))))
  exact (raised.trans stepped).trans queued

/-- LINK_FAILED is pending with the port's bit after a port-wide loss. -/
theorem portLoss_linkFailed (change : Bool) : ((s.portLoss p change).causes.entries[causeIx .linkFailed]).pending = true
    ∧ ((s.portLoss p change).causes.entries[causeIx .linkFailed]).detail &&& bitDetail p.1 = bitDetail p.1 := by
  have queued : (s.portLoss p change).causes = (s.portLegs p change).causes := queueSweep_frame _ p .causes (by simp)
  have stepped : ((s.raise .linkFailed (bitDetail p.1)).windowStep p change).causes.entries[causeIx .linkFailed]
      = (s.raise .linkFailed (bitDetail p.1)).causes.entries[causeIx .linkFailed] :=
    (windowStep_lossKept (s := s.raise .linkFailed (bitDetail p.1)) p change).cause .linkFailed (by decide)
  rw [queued, State.portLegs, stepped]
  exact ⟨raise_pending s _ _, raise_bits s _ _ rfl⟩

theorem startSweep_has {u : State} (h : u.sweep.port = some p ∨ p ∈ u.sweep.queue) :
    u.startSweep.sweep.port = some p ∨ p ∈ u.startSweep.sweep.queue := by
  unfold State.startSweep
  split
  · rename_i q rest none queue
    rw [none, queue] at h
    rcases h with running | waiting
    · cases running
    · rcases List.mem_cons.mp waiting with head | tail
      · exact .inl (by rw [head])
      · exact .inr tail
  · exact h

/-- The port's sweep runs or is queued after a port-wide loss (R141). -/
theorem portLoss_sweep (change : Bool) : (s.portLoss p change).sweep.port = some p ∨ p ∈ (s.portLoss p change).sweep.queue := by
  rw [portLoss_eq, State.queueSweep]
  refine startSweep_has p ?_
  split
  · rename_i queued
    exact .inr (List.contains_iff_mem.mp queued)
  · exact .inr (List.mem_append_right _ (List.mem_singleton.mpr rfl))

/-- The legs that a port-wide loss takes are LOST after it (R138). -/
theorem portLoss_lost {change : Bool} {w : WindowIx} (taken : s.takenByLoss change w = true) {x : Side} (here : s.onPort p w x)
    (losable : ((s.windows[w]).leg x).state.losable = true) : (((s.portLoss p change).windows[w]).leg x).state = .lost := by
  have queued : (s.portLoss p change).windows = (s.portLegs p change).windows := queueSweep_frame _ p .windows (by simp)
  rw [queued]
  exact windowStep_lost (s := s.raise .linkFailed (bitDetail p.1)) p taken here losable

end portLoss

end Sys2Proof.Machine

/-! PROOF. The entries of the outstanding transaction table when transactions finish, reads end and ports are orphaned (R73, R79, R82). -/

namespace Sys2Proof.Machine

/-! ### The entries after a finish -/

section finish
variable (s : State) (i : OttIx)

/-- A transaction that finishes frees its entry, and no other entry changes (R79, R81, R83). -/
theorem finish_entries (busy : (s.ott.entries[i]).state ≠ .free) (st : Status) :
    (s.finish i st).ott.entries = mapAt s.ott.entries i fun e => .freed e.gen := by
  have freed {u : State} {parts : List Part} (frame : SameExcept parts s u) (k : Part.ott ∉ parts) :
      (u.freeEntry i).ott.entries = mapAt s.ott.entries i fun e => .freed e.gen := by
    rw [freeEntry_entries, show u.ott = s.ott from frame .ott k]
  cases state : (s.ott.entries[i]).state with
  | free => exact absurd state busy
  | orphan => rw [finish_orphan state, freeEntry_entries]
  | live =>
    cases origin : (s.ott.entries[i]).origin with
    | ingress p r tag =>
      rw [finish_ingress state origin]
      refine freed (parts := [.links, .pacers, .tenants, .causes]) (.ite ?_ ?_) (by decide)
      · exact .trans ((respond_frame s _ _ _ _ _ _).mono (by decide)) ((meter_frame _ _ _ _).mono (by decide))
      · exact (respond_frame s _ _ _ _ _ _).mono (by decide)
    | fabric job =>
      rw [finish_fabric state origin]
      refine freed (parts := [.ring, .holdList, .copy, .windows, .fabric, .jobs, .causes, .pacers, .tenants]) (.ite ?_ ?_) (by decide)
      · exact .trans ((report_frame s _ _ _).mono (by decide)) ((meter_frame _ _ _ _).mono (by decide))
      · exact (report_frame s _ _ _).mono (by decide)

theorem finish_get (busy : (s.ott.entries[i]).state ≠ .free) (st : Status) :
    (s.finish i st).ott.entries[i] = .freed (s.ott.entries[i]).gen := by
  rw [finish_entries s i busy]
  exact mapAt_get_self _ i _

theorem finish_other (st : Status) {j : OttIx} (h : j ≠ i) : (s.finish i st).ott.entries[j] = s.ott.entries[j] := by
  by_cases busy : (s.ott.entries[i]).state = .free
  · rw [finish_free busy]
  · rw [finish_entries s i busy]
    exact mapAt_get_ne _ i j _ (Ne.symm h)

end finish

/-! ### The ends of waiting reads -/

/-- Each entry is the same, or it awaited a send credit and is FREE. -/
def EntriesCut (s t : State) : Prop := ∀ i : OttIx, t.ott.entries[i] = s.ott.entries[i]
  ∨ ((∃ x, ((s.ott.entries[i]).leg x).progress = .waiting) ∧ (t.ott.entries[i]).state = .free)

namespace EntriesCut
variable {s t u : State}

theorem of_ott (h : t.ott = s.ott) : EntriesCut s t := fun i => .inl (by rw [h])

theorem rfl_ : EntriesCut s s := of_ott rfl

theorem trans (h : EntriesCut s t) (k : EntriesCut t u) : EntriesCut s u := by
  intro i
  rcases h i with same | ⟨waited, free⟩
  · rw [← same]
    exact k i
  · rcases k i with same' | ⟨-, free'⟩
    · exact .inr ⟨waited, by rw [same', free]⟩
    · exact .inr ⟨waited, free'⟩

theorem ite {c : Prop} [Decidable c] (h : EntriesCut s t) (k : EntriesCut s u) : EntriesCut s (if c then t else u) := by
  split
  · exact h
  · exact k

theorem foldl {α : Type} {f : State → α → State} (h : ∀ s a, EntriesCut s (f s a)) (l : List α) (s : State) :
    EntriesCut s (l.foldl f s) := by
  induction l generalizing s with
  | nil => exact .rfl_
  | cons a l ih => exact (h s a).trans (ih (f s a))

/-- An entry that awaited no send credit is the same. -/
theorem same (h : EntriesCut s t) {i : OttIx} (none : ∀ x, ((s.ott.entries[i]).leg x).progress ≠ .waiting) :
    t.ott.entries[i] = s.ott.entries[i] :=
  (h i).resolve_right fun ⟨⟨x, waits⟩, _⟩ => none x waits

/-- An entry that is in use is the same. -/
theorem used (h : EntriesCut s t) {i : OttIx} (busy : (t.ott.entries[i]).state ≠ .free) : t.ott.entries[i] = s.ott.entries[i] :=
  (h i).resolve_right fun ⟨_, free⟩ => busy free

end EntriesCut

section cancel
variable (s : State) (i : OttIx)

theorem cancelWaiting_cut {x : Side} (waits : ((s.ott.entries[i]).leg x).progress = .waiting) : EntriesCut s (s.cancelWaiting i x) := by
  set u : State := s.modOttLeg i x fun _ => .none with hu
  have here : u.ott.entries[i] = (s.ott.entries[i]).modLeg x fun _ => .none := modEntry_get s i _
  intro j
  by_cases same : j = i
  · subst same
    refine .inr ⟨⟨x, waits⟩, ?_⟩
    show ((u.finish j _).ott.entries[j]).state = .free
    by_cases busy : (u.ott.entries[j]).state = .free
    · rw [finish_free busy]
      exact busy
    · rw [finish_get u j busy]
      rfl
  · refine .inl ?_
    show (u.finish i _).ott.entries[j] = _
    rw [finish_other u i _ same]
    exact modEntry_other s i _ same

theorem cancelWaitingOf_cut (f : State → Side → Bool) : EntriesCut s (s.cancelWaitingOf i f) := by
  refine .foldl (fun s x => ?_) _ s
  split
  · rename_i h
    exact cancelWaiting_cut s i h.1
  · exact .rfl_

theorem cancelLostWaiting_cut : EntriesCut s s.cancelLostWaiting := .foldl (fun s i => cancelWaitingOf_cut s i _) _ s

theorem loseLegs_ott (w : WindowIx) (hit : Side → Bool) : (s.loseLegs w hit).ott = s.ott := loseLegs_frame s w hit .ott (by simp)

theorem windowStep_cut (p : PortIx) (change : Bool) : EntriesCut s (s.windowStep p change) :=
  (EntriesCut.foldl (fun s w => .of_ott (loseLegs_ott s w _)) _ s).trans (cancelLostWaiting_cut _)

theorem portLoss_cut (p : PortIx) (change : Bool) : EntriesCut s (s.portLoss p change) :=
  ((EntriesCut.of_ott rfl).trans (windowStep_cut (s.raise .linkFailed (bitDetail p.1)) p change)).trans
    (.of_ott (queueSweep_frame _ p .ott (by simp)))

/-- Nothing ends where no leg is WAITING. -/
theorem cancelLostWaiting_none (none : ∀ (i : OttIx) (x : Side), ((s.ott.entries[i]).leg x).progress ≠ .waiting) :
    s.cancelLostWaiting = s := by
  have empty : indicesWhere 1024 (fun i => bothSides.any fun x => ((s.ott.entries[i]).leg x).progress == .waiting) = [] := by
    rw [indicesWhere, List.filter_eq_nil_iff]
    intro i _ waits
    obtain ⟨x, -, waits⟩ := List.any_eq_true.mp waits
    exact none i x (eq_of_beq waits)
  rw [State.cancelLostWaiting, empty]
  rfl

end cancel

/-! ### A port is orphaned (R82) -/

/-- What becomes of a LIVE entry of an orphaned port: ORPHAN, or FREE where a leg was WAITING. -/
def OttEntry.orphaned (e : OttEntry) : OttEntry :=
  if e.primary.progress = .waiting ∨ e.mirror.progress = .waiting then .freed e.gen else { e with state := .orphan }

section orphan
variable (s : State) (i : OttIx)

theorem cancelWaiting_orphan (orphan : (s.ott.entries[i]).state = .orphan) (x : Side) :
    s.cancelWaiting i x = (s.modOttLeg i x fun _ => .none).freeEntry i := by
  refine finish_orphan ?_ _
  rw [show (s.modOttLeg i x fun _ => .none).ott.entries[i] = _ from modEntry_get s i _, OttEntry.modLeg_eq]
  exact orphan

/-- One leg of an entry is considered for the end of its read. -/
def State.cancelOne (s : State) (i : OttIx) (f : State → Side → Bool) (x : Side) : State :=
  if ((s.ott.entries[i]).leg x).progress = .waiting ∧ f s x then s.cancelWaiting i x else s

theorem cancelWaitingOf_eq (f : State → Side → Bool) : s.cancelWaitingOf i f = (s.cancelOne i f .primary).cancelOne i f .mirror := rfl

theorem cancelOne_waits {f : State → Side → Bool} {x : Side} (waits : ((s.ott.entries[i]).leg x).progress = .waiting) (chosen : f s x = true) :
    s.cancelOne i f x = s.cancelWaiting i x := if_pos ⟨waits, chosen⟩

theorem cancelOne_not {f : State → Side → Bool} {x : Side} (none : ((s.ott.entries[i]).leg x).progress ≠ .waiting) :
    s.cancelOne i f x = s := if_neg fun h => none h.1

/-- The entry of an orphaned port, before its waiting read ends. -/
def State.orphanMarked (s : State) (i : OttIx) : State := s.modEntry i fun e => { e with state := .orphan }

/-- One entry of an orphaned port. -/
def State.orphanEntry (s : State) (i : OttIx) : State := (s.orphanMarked i).cancelWaitingOf i fun _ _ => true

theorem orphanMarked_get : (s.orphanMarked i).ott.entries[i] = { s.ott.entries[i] with state := .orphan } := modEntry_get s i _

theorem orphanMarked_leg (x : Side) : ((s.orphanMarked i).ott.entries[i]).leg x = (s.ott.entries[i]).leg x := by
  rw [orphanMarked_get]
  cases x <;> rfl

/-- The read of an orphaned entry ends by freeing it, at most once. -/
theorem orphanEntry_eq : s.orphanEntry i =
    if (s.ott.entries[i]).primary.progress = .waiting then ((s.orphanMarked i).modOttLeg i .primary fun _ => .none).freeEntry i
    else if (s.ott.entries[i]).mirror.progress = .waiting then ((s.orphanMarked i).modOttLeg i .mirror fun _ => .none).freeEntry i
    else s.orphanMarked i := by
  set u : State := s.orphanMarked i with hu
  have leg (x : Side) : (u.ott.entries[i]).leg x = (s.ott.entries[i]).leg x := orphanMarked_leg s i x
  have ends (x : Side) : u.cancelWaiting i x = (u.modOttLeg i x fun _ => .none).freeEntry i :=
    cancelWaiting_orphan u i (by rw [hu, orphanMarked_get]) x
  rw [State.orphanEntry, ← hu, cancelWaitingOf_eq]
  by_cases primary : (s.ott.entries[i]).primary.progress = .waiting
  · rw [cancelOne_waits u i (by rw [leg]; exact primary) rfl, ends, if_pos primary]
    exact cancelOne_not _ i (by rw [freeEntry_get, freed_leg]; decide)
  · rw [cancelOne_not u i (by rw [leg]; exact primary), if_neg primary]
    by_cases mirror : (s.ott.entries[i]).mirror.progress = .waiting
    · rw [cancelOne_waits u i (by rw [leg]; exact mirror) rfl, ends, if_pos mirror]
    · rw [cancelOne_not u i (by rw [leg]; exact mirror), if_neg mirror]

theorem orphanEntry_entries : (s.orphanEntry i).ott.entries = mapAt s.ott.entries i OttEntry.orphaned := by
  have freed (x : Side) : (((s.orphanMarked i).modOttLeg i x fun _ => .none).freeEntry i).ott.entries =
      mapAt s.ott.entries i fun e => .freed e.gen := by
    have before : ((s.orphanMarked i).modOttLeg i x fun _ => .none).ott.entries = mapAt (mapAt s.ott.entries i fun e =>
      { e with state := .orphan }) i fun e => e.modLeg x fun _ => .none := rfl
    rw [freeEntry_entries, before, mapAt_mapAt, mapAt_mapAt]
    cases x <;> rfl
  rw [orphanEntry_eq]
  split
  · rename_i primary
    rw [freed]
    exact mapAt_congr (if_pos (.inl primary)).symm
  · rename_i primary
    split
    · rename_i mirror
      rw [freed]
      exact mapAt_congr (if_pos (.inr mirror)).symm
    · rename_i mirror
      have stays : (s.ott.entries[i]).orphaned = { s.ott.entries[i] with state := .orphan } := if_neg (not_or.mpr ⟨primary, mirror⟩)
      exact mapAt_congr (f := fun e : OttEntry => { e with state := .orphan }) stays.symm

/-- Orphaning touches windows and stages only by their counts. -/
theorem orphanEntry_frame : SameExcept [.windows, .ott, .stages] s (s.orphanEntry i) := by
  have marked : SameExcept [.windows, .ott, .stages] s (s.orphanMarked i) := (modEntry_frame s i _).mono (by simp)
  have ends (x : Side) : SameExcept [.windows, .ott, .stages] s (((s.orphanMarked i).modOttLeg i x fun _ => .none).freeEntry i) :=
    (marked.trans ((modOttLeg_frame _ i x _).mono (by simp))).trans (freeEntry_frame _ i)
  rw [orphanEntry_eq]
  exact .ite (ends _) (.ite (ends _) marked)

theorem orphanEntry_lossKept {hit : WindowIx → Side → Prop} {raised : List Cause} : LossKept hit raised s (s.orphanEntry i) := by
  have marked : LossKept hit raised s (s.orphanMarked i) := modEntry_lossKept s i _
  have ends (x : Side) : LossKept hit raised s (((s.orphanMarked i).modOttLeg i x fun _ => .none).freeEntry i) :=
    (marked.trans (modEntry_lossKept _ i _)).trans (freeEntry_lossKept _ i)
  rw [orphanEntry_eq]
  exact .ite (ends _) (.ite (ends _) marked)

end orphan

/-! ### The ingress side of a port is given up -/

section orphanPort
variable (s : State) (p : PortIx)

/-- The LIVE entries of server or trunk origin whose ingress port is `p` (R82). -/
def State.liveFrom (s : State) (p : PortIx) (i : OttIx) : Bool :=
  (s.ott.entries[i]).state == .live && (match (s.ott.entries[i]).origin with | .ingress q _ _ => q == p | .fabric _ => false)

theorem orphanPort_eq : s.orphanPort p = (indicesWhere 1024 (s.liveFrom p)).foldl State.orphanEntry s := rfl

theorem orphanPort_get (i : OttIx) : (s.orphanPort p).ott.entries[i] =
    if s.liveFrom p i then (s.ott.entries[i]).orphaned else s.ott.entries[i] := by
  have nodup : (indicesWhere 1024 (s.liveFrom p)).Nodup := (List.nodup_finRange 1024).filter _
  have mem : i ∈ indicesWhere 1024 (s.liveFrom p) ↔ s.liveFrom p i = true := by simp [indicesWhere]
  rw [orphanPort_eq, foldl_table_get (read := fun s => s.ott.entries) (g := fun _ => OttEntry.orphaned) orphanEntry_entries nodup]
  simp only [mem]

theorem liveFrom_of {i : OttIx} {r : ReqId} {tag : Tag} (live : (s.ott.entries[i]).state = .live)
    (origin : (s.ott.entries[i]).origin = .ingress p r tag) : s.liveFrom p i = true := by
  rw [State.liveFrom, live, origin]
  exact Bool.and_eq_true_iff.mpr ⟨rfl, beq_self_eq_true p⟩

theorem orphanPort_counts : SameExcept [.windows, .ott, .stages] s (s.orphanPort p) := .foldl (fun s i => orphanEntry_frame s i) _ s

theorem orphanPort_lossKept {hit : WindowIx → Side → Prop} {raised : List Cause} : LossKept hit raised s (s.orphanPort p) :=
  .foldl (fun s i => orphanEntry_lossKept s i) _ s

/-- Orphaning a port leaves every leg of every window: no copy engine fails for it. -/
theorem orphanPort_leg (w : WindowIx) (x : Side) : ((s.orphanPort p).windows[w]).leg x = (s.windows[w]).leg x := by
  have one (u : State) (i : OttIx) : ((u.orphanEntry i).windows[w]).leg x = (u.windows[w]).leg x := by
    rw [orphanEntry_eq]
    split
    · exact freeEntry_leg _ i w x
    · split
      · exact freeEntry_leg _ i w x
      · rfl
  rw [orphanPort_eq]
  induction indicesWhere 1024 (s.liveFrom p) generalizing s with
  | nil => rfl
  | cons i l ih => exact (ih (s.orphanEntry i)).trans (one s i)

end orphanPort

/-! ### The ingress side of a port is given up (R27) -/

section giveUp
variable (s : State) (p : PortIx)

/-- The port with its queued requests and owed credits discarded. -/
def State.emptied (s : State) (p : PortIx) : State := s.modRequesters p fun e => { e with queue := [], owed := 0 }

theorem giveUpIngress_eq : s.giveUpIngress p = (s.emptied p).orphanPort p := rfl

theorem giveUpIngress_kept (q : PortIx) : ∃ n, (s.giveUpIngress p).stages[q] = { (s.emptied p).stages[q] with ottCount := n } :=
  ⟨_, (orphanPort_lossKept (hit := fun _ _ => False) (raised := []) (s.emptied p) p).stage q⟩

theorem giveUpIngress_requester (r : ReqId) : ((s.giveUpIngress p).stages[p]).requesters[r] =
    { ((s.stages[p]).requesters)[r] with queue := [], owed := 0 } := by
  obtain ⟨n, kept⟩ := giveUpIngress_kept s p p
  rw [kept]
  exact modRequesters_get s p _ r

/-- The stages of the other ports change by their counts of entries alone. -/
theorem giveUpIngress_otherStage {q : PortIx} (h : q ≠ p) : (s.giveUpIngress p).stages[q] =
    { s.stages[q] with ottCount := ((s.giveUpIngress p).stages[q]).ottCount } := by
  obtain ⟨n, kept⟩ := giveUpIngress_kept s p q
  rw [kept, show (s.emptied p).stages[q] = s.stages[q] from modRequesters_other s _ h]

theorem giveUpIngress_get (i : OttIx) : (s.giveUpIngress p).ott.entries[i] =
    if s.liveFrom p i then (s.ott.entries[i]).orphaned else s.ott.entries[i] := by
  rw [giveUpIngress_eq]
  exact orphanPort_get (s.emptied p) p i

theorem giveUpIngress_counts : SameExcept [.windows, .ott, .stages] s (s.giveUpIngress p) :=
  ((modRequesters_frame s p _).mono (by simp)).trans (orphanPort_counts (s.emptied p) p)

theorem giveUpIngress_leg (w : WindowIx) (x : Side) : ((s.giveUpIngress p).windows[w]).leg x = (s.windows[w]).leg x := by
  rw [giveUpIngress_eq]
  exact orphanPort_leg (s.emptied p) p w x

theorem giveUpIngress_window (w : WindowIx) : (s.giveUpIngress p).windows[w] = { s.windows[w] with
    primary := ((s.giveUpIngress p).windows[w]).primary, mirror := ((s.giveUpIngress p).windows[w]).mirror
    outstanding := ((s.giveUpIngress p).windows[w]).outstanding } := by
  rw [giveUpIngress_eq]
  exact ((orphanPort_lossKept (hit := fun _ _ => False) (raised := []) (s.emptied p) p).window w).1

end giveUp

end Sys2Proof.Machine

/-! PROOF. A link fails, is reset or changes mode (R17, R22, R26, R27, R67, R137): what becomes of its port and what is left alone. -/

namespace Sys2Proof.Machine

/-! ### Legs marked stale (R67) -/

/-- The SENT legs of an entry in use on port `p` are stale. -/
def OttEntry.staled (p : PortIx) (e : OttEntry) : OttEntry :=
  if e.state = .free then e
  else { e with
    primary := if e.primary.progress = .sent ∧ e.primary.port = p then { e.primary with stale := true } else e.primary
    mirror := if e.mirror.progress = .sent ∧ e.mirror.port = p then { e.mirror with stale := true } else e.mirror }

/-- An entry and its form after its legs may have been marked stale. -/
def StaleOnly (e e' : OttEntry) : Prop :=
  e'.state = e.state ∧ (∀ x, (e'.leg x).progress = (e.leg x).progress) ∧ (e.state = .free → e' = e)

theorem staleOnly_refl (e : OttEntry) : StaleOnly e e := ⟨rfl, fun _ => rfl, fun _ => rfl⟩

theorem staled_leg (p : PortIx) {e : OttEntry} (busy : e.state ≠ .free) (x : Side) : (e.staled p).leg x =
    if (e.leg x).progress = .sent ∧ (e.leg x).port = p then { e.leg x with stale := true } else e.leg x := by
  rw [OttEntry.staled, if_neg busy]
  cases x <;> rfl

theorem staled_staleOnly (p : PortIx) (e : OttEntry) : StaleOnly e (e.staled p) := by
  by_cases free : e.state = .free
  · rw [OttEntry.staled, if_pos free]
    exact staleOnly_refl e
  · refine ⟨?_, fun x => ?_, fun k => absurd k free⟩
    · rw [OttEntry.staled, if_neg free]
    · rw [staled_leg p free]
      split <;> rfl

theorem markStale_get (s : State) (p : PortIx) (i : OttIx) : (s.markStale p).ott.entries[i] = (s.ott.entries[i]).staled p :=
  Vector.getElem_map ..

/-- Every SENT leg on the port is stale after the marking. -/
theorem staled_stale (p : PortIx) {e : OttEntry} {x : Side} (busy : (e.staled p).state ≠ .free)
    (sent : ((e.staled p).leg x).progress = .sent) (here : ((e.staled p).leg x).port = p) : ((e.staled p).leg x).stale = true := by
  obtain ⟨state, progress, -⟩ := staled_staleOnly p e
  rw [staled_leg p (state ▸ busy)] at here ⊢
  split
  · rfl
  · rename_i other
    rw [if_neg other] at here
    exact absurd ⟨(progress x).symm.trans sent, here⟩ other

/-! ### An orphaned entry -/

/-- The legs of an orphaned entry wait for nothing: it is ORPHAN with the progress of its legs, or FREE where one was WAITING. -/
theorem orphaned_cases {e e' : OttEntry} (h : StaleOnly e.orphaned e') :
    ((∀ x, (e.leg x).progress ≠ .waiting) → e'.state = .orphan ∧ ∀ x, (e'.leg x).progress = (e.leg x).progress)
      ∧ (∀ x, (e.leg x).progress = .waiting → e' = .freed e.gen) ∧ ∀ x, (e'.leg x).progress ≠ .waiting := by
  obtain ⟨state, progress, free⟩ := h
  by_cases waits : e.primary.progress = .waiting ∨ e.mirror.progress = .waiting
  · have freed : e.orphaned = .freed e.gen := if_pos waits
    have same : e' = .freed e.gen := (free (by rw [freed]; rfl)).trans freed
    refine ⟨fun none => ?_, fun _ _ => same, fun x => ?_⟩
    · rcases waits with primary | mirror
      · exact absurd primary (none .primary)
      · exact absurd mirror (none .mirror)
    · rw [same, freed_leg]
      decide
  · have stays : e.orphaned = { e with state := .orphan } := if_neg waits
    obtain ⟨primary, mirror⟩ := not_or.mp waits
    have leg (x : Side) : (e'.leg x).progress = (e.leg x).progress := by
      rw [progress, stays]
      cases x <;> rfl
    have none (x : Side) : (e.leg x).progress ≠ .waiting := by
      cases x
      · exact primary
      · exact mirror
    refine ⟨fun _ => ⟨by rw [state, stays], leg⟩, fun x waiting => absurd waiting (none x), fun x => ?_⟩
    rw [leg]
    exact none x

/-! ### The port is cleared -/

/-- What clearing port `p` leaves alone: every other link unit, the other stages but for their counts, and the windows but for theirs. -/
structure PortCleared (s : State) (p : PortIx) (u : State) : Prop where
  frame : SameExcept [.links, .stages, .windows, .ott] s u
  link : ∀ q : PortIx, q ≠ p → u.links[q] = s.links[q]
  stage : ∀ q : PortIx, q ≠ p → u.stages[q] = { s.stages[q] with ottCount := (u.stages[q]).ottCount }
  leg : ∀ (w : WindowIx) (x : Side), (u.windows[w]).leg x = (s.windows[w]).leg x
  window : ∀ w : WindowIx, (u.windows[w]).enabled = (s.windows[w]).enabled ∧ (u.windows[w]).configured = (s.windows[w]).configured

section cleared
variable {s : State} {p : PortIx}

theorem PortCleared.rfl_ : PortCleared s p s := ⟨.rfl_, fun _ _ => rfl, fun _ _ => rfl, fun _ _ => rfl, fun _ => ⟨rfl, rfl⟩⟩

theorem PortCleared.trans {u v : State} (h : PortCleared s p u) (k : PortCleared u p v) : PortCleared s p v := by
  refine ⟨h.frame.trans k.frame, fun q hq => (k.link q hq).trans (h.link q hq), fun q hq => ?_, fun w x => (k.leg w x).trans (h.leg w x),
    fun w => ⟨(k.window w).1.trans (h.window w).1, (k.window w).2.trans (h.window w).2⟩⟩
  rw [k.stage q hq, h.stage q hq]

theorem modLink_cleared (f : LinkUnit → LinkUnit) : PortCleared s p (s.modLink p f) :=
  ⟨(modLink_frame s p f).mono (by simp), fun _ hq => modLink_other s f hq, fun _ _ => rfl, fun _ _ => rfl, fun _ => ⟨rfl, rfl⟩⟩

theorem markStale_cleared : PortCleared s p (s.markStale p) :=
  ⟨(markStale_frame s p).mono (by simp), fun _ _ => rfl, fun _ _ => rfl, fun _ _ => rfl, fun _ => ⟨rfl, rfl⟩⟩

theorem giveUpIngress_cleared : PortCleared s p (s.giveUpIngress p) := by
  have frame := giveUpIngress_counts s p
  have links : (s.giveUpIngress p).links = s.links := frame .links (by simp)
  refine ⟨frame.mono (by simp), fun q _ => by rw [links], fun q hq => giveUpIngress_otherStage s p hq, giveUpIngress_leg s p, fun w => ?_⟩
  have kept := giveUpIngress_window s p w
  exact ⟨(congrArg Window.enabled kept).trans rfl, (congrArg Window.configured kept).trans rfl⟩

/-- The ingress side is given up on a port that takes requests. -/
def State.ingressCleared (s : State) (p : PortIx) (m : PortMode) : State := if takesRequests m then s.giveUpIngress p else s

theorem ingressCleared_cleared (m : PortMode) : PortCleared s p (s.ingressCleared p m) := by
  unfold State.ingressCleared
  split
  · exact giveUpIngress_cleared
  · exact .rfl_

theorem ingressCleared_links (m : PortMode) : (s.ingressCleared p m).links = s.links := by
  unfold State.ingressCleared
  split
  · exact giveUpIngress_counts s p .links (by simp)
  · rfl

theorem ingressCleared_takes {m : PortMode} (takes : takesRequests m = true) : s.ingressCleared p m = s.giveUpIngress p := if_pos takes

theorem ingressCleared_requester (m : PortMode) (r : ReqId) : ∃ owed, ((s.ingressCleared p m).stages[p]).requesters[r] =
    { ((s.stages[p]).requesters)[r] with owed := owed, queue := if takesRequests m then [] else (((s.stages[p]).requesters)[r]).queue } := by
  unfold State.ingressCleared
  by_cases takes : takesRequests m = true
  · refine ⟨0, ?_⟩
    rw [if_pos takes, if_pos takes, giveUpIngress_requester]
  · refine ⟨(((s.stages[p]).requesters)[r]).owed, ?_⟩
    rw [if_neg takes, if_neg takes]

/-- The LIVE entries from a port whose ingress side is given up are orphaned. -/
theorem ingressCleared_entry {m : PortMode} (takes : takesRequests m = true) {i : OttIx} (from_ : s.liveFrom p i = true) :
    (s.ingressCleared p m).ott.entries[i] = (s.ott.entries[i]).orphaned := by
  rw [ingressCleared_takes takes, giveUpIngress_get, if_pos from_]

end cleared

/-! ### A cleared port loses its legs -/

section loses
variable {s u t : State} {p : PortIx}

theorem losable_of {st : LegState} (h : st = .inService ∨ st = .rebuilding) : st.losable = true := by
  rcases h with h | h <;> rw [h] <;> rfl

theorem cleared_frame (c : PortCleared s p u) {raised : List Cause} (l : LossKept (u.onPort p) raised u t) :
    SameExcept portLossParts s t := (c.frame.mono (by decide)).trans l.frame

theorem cleared_jobs (c : PortCleared s p u) {raised : List Cause} (l : LossKept (u.onPort p) raised u t) :
    t.jobs = { s.jobs with rebuild := t.jobs.rebuild } := by
  have jobs : u.jobs = s.jobs := c.frame .jobs (by simp)
  rw [← jobs]
  exact l.jobs

/-- What a port-wide loss leaves alone (sections 2.1 and 8.1). -/
theorem cleared_lossFrame (c : PortCleared s p u) {raised : List Cause} (l : LossKept (u.onPort p) raised u t)
    (carries : carriesLegs s.links[p].mode = true) : s.PortLossFrame p t := by
  have copy : u.copy = s.copy := c.frame .copy (by simp)
  refine ⟨fun q hq => ⟨?_, ?_⟩, fun w x elsewhere other => ?_, fun none => ?_⟩
  · obtain ⟨more, link, -⟩ := l.link q
    rw [link, c.link q hq]
  · rw [l.stage q, c.stage q hq]
  · rcases l.leg w x with same | ⟨here | under, -⟩
    · rw [same, c.leg]
    · rw [State.onPort, c.leg] at here
      exact absurd here elsewhere
    · rw [copy] at under
      exact absurd under other
  · rw [carries] at none
    cases none

theorem cleared_quietFrame (c : PortCleared s p u) (same : SameExcept [.causes] u t) : s.PortLossFrame p t := by
  have links : t.links = u.links := same .links (by simp)
  have stages : t.stages = u.stages := same .stages (by simp)
  have windows : t.windows = u.windows := same .windows (by simp)
  have sweep : t.sweep = u.sweep := same .sweep (by simp)
  refine ⟨fun q hq => ⟨?_, ?_⟩, fun w x _ _ => ?_, fun _ => ⟨sweep.trans (c.frame .sweep (by simp)), fun w x => ?_⟩⟩
  · rw [links, c.link q hq]
  · rw [stages, c.stage q hq]
  · rw [windows, c.leg]
  · rw [windows, c.leg]

/-- A port-wide loss of a cleared port (R137, R138, R141). -/
theorem cleared_legsLost (c : PortCleared s p u) (change : Bool) : s.PortLegsLost p (u.portLoss p change) := by
  have l := portLoss_lossKept (s := u) p change
  obtain ⟨pending, bit⟩ := portLoss_linkFailed (s := u) p change
  refine ⟨fun w x taken here st => ?_, pending, bit, portLoss_sweep p change⟩
  have taken' : u.takenByLoss change w = true := by
    simp only [State.takenByLoss, Bool.or_eq_true, decide_eq_true_eq]
    rcases taken with enabled | some_
    · exact .inl (.inl ((c.window w).1.trans enabled))
    · exact .inl (.inr (some_.trans_le (l.window w).2))
  refine portLoss_lost p taken' ?_ ?_
  · rw [State.onPort, c.leg]
    exact here
  · rw [c.leg]
    exact losable_of st

/-- The ingress side is given up when its stage is empty and its entries are orphaned. -/
theorem ingressGivenUp_of (stage : ∀ r : ReqId, ((t.stages[p]).requesters[r]).queue = [] ∧ ((t.stages[p]).requesters[r]).owed = 0)
    (entries : ∀ i, s.liveFrom p i = true → StaleOnly (s.ott.entries[i]).orphaned (u.ott.entries[i])) (cut : EntriesCut u t) :
    s.IngressGivenUp p t := by
  refine ⟨stage, fun i r tag live origin => ?_⟩
  obtain ⟨orphan, freed, none⟩ := orphaned_cases (entries i (liveFrom_of s p live origin))
  have same : t.ott.entries[i] = u.ott.entries[i] := cut.same none
  rw [same]
  exact ⟨orphan, freed⟩

end loses

/-! ### A link enters FAILED (R17) -/

section failed
variable {s u : State} {p : PortIx}

/-- The part with the link unit FAILED and the ingress side given up. -/
def State.failCleared (s : State) (p : PortIx) : State := (s.modLink p LinkUnit.failing).ingressCleared p s.links[p].mode

theorem enterFailed_eq (s : State) (p : PortIx) : s.enterFailed p =
    if carriesLegs s.links[p].mode then (s.failCleared p).portLoss p false else (s.failCleared p).raise .linkFailed (bitDetail p.1) := rfl

theorem failCleared_cleared : PortCleared s p (s.failCleared p) := (modLink_cleared _).trans (ingressCleared_cleared _)

theorem failCleared_link : (s.failCleared p).links[p] = s.links[p].failing := by
  rw [State.failCleared, ingressCleared_links]
  exact modLink_get s p _

theorem enterFailed_link : (s.enterFailed p).links[p] = s.links[p].failing := by
  rw [enterFailed_eq]
  split
  · obtain ⟨more, link, silent⟩ := (portLoss_lossKept (s := s.failCleared p) p false).link p
    rw [failCleared_link] at link silent
    rw [link, silent rfl, List.append_nil]
  · exact failCleared_link

theorem enterFailed_kept : SameExcept portLossParts s (s.enterFailed p) := by
  rw [enterFailed_eq]
  split
  · exact cleared_frame failCleared_cleared (portLoss_lossKept p false)
  · exact (failCleared_cleared.frame.mono (by decide)).trans ((raise_frame _ _ _).mono (by decide))

theorem enterFailed_jobs : (s.enterFailed p).jobs = { s.jobs with rebuild := (s.enterFailed p).jobs.rebuild } := by
  rw [enterFailed_eq]
  split
  · exact cleared_jobs failCleared_cleared (portLoss_lossKept p false)
  · rw [show ((s.failCleared p).raise .linkFailed (bitDetail p.1)).jobs = s.jobs from failCleared_cleared.frame .jobs (by simp)]

/-- A link that fails has its consequences (R17, R27, R137), counted from a state that differs in the port's link unit alone. -/
theorem enterFailed_fails (c : PortCleared s p u) (ott : u.ott = s.ott) (mode : u.links[p].mode = s.links[p].mode) :
    s.LinkFails p (u.enterFailed p) := by
  have cleared : PortCleared s p (u.failCleared p) := c.trans failCleared_cleared
  have cut : EntriesCut (u.failCleared p) (u.enterFailed p) := by
    rw [enterFailed_eq]
    exact .ite (portLoss_cut _ p false) (.of_ott rfl)
  have stage : ∃ n, (u.enterFailed p).stages[p] = { (u.failCleared p).stages[p] with ottCount := n } := by
    rw [enterFailed_eq]
    split
    · exact ⟨_, (portLoss_lossKept (s := u.failCleared p) p false).stage p⟩
    · exact ⟨_, rfl⟩
  refine ⟨?pending, ?bit, fun takes => ?ingress, fun carries => ?legs, ?frame⟩
  case ingress =>
    rw [← mode] at takes
    refine ingressGivenUp_of (fun r => ?_) (fun i from_ => ?_) cut
    · obtain ⟨n, stage⟩ := stage
      rw [stage]
      have emptied := giveUpIngress_requester (u.modLink p LinkUnit.failing) p r
      rw [State.failCleared, ingressCleared_takes takes, emptied]
      exact ⟨rfl, rfl⟩
    · have entry := ingressCleared_entry (s := u.modLink p LinkUnit.failing) takes (i := i)
        (by rw [State.liveFrom, show (u.modLink p LinkUnit.failing).ott = s.ott from ott]; exact from_)
      rw [show (u.modLink p LinkUnit.failing).ott = s.ott from ott] at entry
      rw [State.failCleared, entry]
      exact staleOnly_refl _
  case legs =>
    rw [enterFailed_eq, if_pos (by rw [mode]; exact carries)]
    exact cleared_legsLost cleared false
  all_goals
    rw [enterFailed_eq]
    split
  · exact (portLoss_linkFailed (s := u.failCleared p) p false).1
  · exact raise_pending _ _ _
  · exact (portLoss_linkFailed (s := u.failCleared p) p false).2
  · exact raise_bits _ _ _ rfl
  · rename_i carries
    exact cleared_lossFrame cleared (portLoss_lossKept p false) (by rw [← mode]; exact carries)
  · exact cleared_quietFrame cleared (raise_frame _ _ _)

end failed

/-! ### A port is reset (R22, R26) -/

section reset
variable (s : State) (p : PortIx) (change : Bool)

/-- The part with the ingress side given up and the port's legs stale. -/
def State.resetCleared (s : State) (p : PortIx) : State := (s.ingressCleared p s.links[p].mode).markStale p

/-- The part before the link unit itself is reset: the legs of a port that carries them are lost. -/
def State.portGone (s : State) (p : PortIx) (change : Bool) : State :=
  if carriesLegs s.links[p].mode then (s.resetCleared p).portLoss p change else s.resetCleared p

theorem linkReset_eq : s.linkReset p = (s.portGone p false).resetUnit p := rfl

theorem resetCleared_cleared : PortCleared s p (s.resetCleared p) := (ingressCleared_cleared _).trans markStale_cleared

theorem resetCleared_links : (s.resetCleared p).links = s.links := ingressCleared_links _

theorem portGone_cut : EntriesCut (s.resetCleared p) (s.portGone p change) := .ite (portLoss_cut _ p change) .rfl_

theorem portGone_lossKept : LossKept ((s.resetCleared p).onPort p) (.linkFailed :: lossCauses) (s.resetCleared p) (s.portGone p change) :=
  .ite (portLoss_lossKept p change) .rfl_

theorem portGone_kept : SameExcept portLossParts s (s.portGone p change) := cleared_frame (resetCleared_cleared s p) (portGone_lossKept s p change)

theorem portGone_jobs : (s.portGone p change).jobs = { s.jobs with rebuild := (s.portGone p change).jobs.rebuild } :=
  cleared_jobs (resetCleared_cleared s p) (portGone_lossKept s p change)

theorem portGone_link : ∃ queue, (s.portGone p change).links[p] = { s.links[p] with txQueue := queue } := by
  obtain ⟨more, link, -⟩ := (portGone_lossKept s p change).link p
  rw [resetCleared_links] at link
  exact ⟨_, link⟩

theorem portGone_requester (r : ReqId) : ∃ owed, ((s.portGone p change).stages[p]).requesters[r] =
    { ((s.stages[p]).requesters)[r] with
      owed := owed, queue := if takesRequests s.links[p].mode then [] else (((s.stages[p]).requesters)[r]).queue } := by
  rw [(portGone_lossKept s p change).stage p]
  exact ingressCleared_requester s.links[p].mode r

theorem portGone_frame : s.PortLossFrame p (s.portGone p change) := by
  unfold State.portGone
  split
  · rename_i carries
    exact cleared_lossFrame (resetCleared_cleared s p) (portLoss_lossKept p change) carries
  · exact cleared_quietFrame (resetCleared_cleared s p) .rfl_

theorem portGone_entry {i : OttIx} (takes : takesRequests s.links[p].mode = true) (from_ : s.liveFrom p i = true) :
    StaleOnly (s.ott.entries[i]).orphaned ((s.resetCleared p).ott.entries[i]) := by
  rw [State.resetCleared, markStale_get, ingressCleared_entry takes from_]
  exact staled_staleOnly p _

/-- Every SENT leg on the port is stale (R67). -/
theorem portGone_stale (i : OttIx) (x : Side) (busy : ((s.portGone p change).ott.entries[i]).state ≠ .free)
    (sent : (((s.portGone p change).ott.entries[i]).leg x).progress = .sent)
    (here : (((s.portGone p change).ott.entries[i]).leg x).port = p) : (((s.portGone p change).ott.entries[i]).leg x).stale = true := by
  have same : (s.portGone p change).ott.entries[i] = ((s.ingressCleared p s.links[p].mode).ott.entries[i]).staled p :=
    ((portGone_cut s p change).used busy).trans (markStale_get _ p i)
  rw [same] at busy sent here ⊢
  exact staled_stale p busy sent here

/-- A port that carries no legs raises no cause. -/
theorem portGone_causes (none : carriesLegs s.links[p].mode = false) : (s.portGone p change).causes = s.causes := by
  rw [State.portGone, if_neg (by rw [none]; decide)]
  exact (resetCleared_cleared s p).frame .causes (by simp)

theorem portGone_legsLost (carries : carriesLegs s.links[p].mode = true) : s.PortLegsLost p (s.portGone p change) := by
  rw [State.portGone, if_pos carries]
  exact cleared_legsLost (resetCleared_cleared s p) change

/-- At a change of mode every configured window has its legs there LOST (R138). -/
theorem portGone_configured (carries : carriesLegs s.links[p].mode = true) {w : WindowIx} {x : Side} (configured : (s.windows[w]).configured = true)
    (here : ((s.windows[w]).leg x).port = p)
    (st : ((s.windows[w]).leg x).state = .inService ∨ ((s.windows[w]).leg x).state = .rebuilding) :
    (((s.portGone p true).windows[w]).leg x).state = .lost := by
  have cleared := resetCleared_cleared s p
  rw [State.portGone, if_pos carries]
  refine portLoss_lost p ?_ ?_ ?_
  · simp only [State.takenByLoss, Bool.or_eq_true, Bool.true_and]
    exact .inr ((cleared.window w).2.trans configured)
  · rw [State.onPort, cleared.leg]
    exact here
  · rw [cleared.leg]
    exact losable_of st

end reset

/-! ### The link unit is reset -/

section resetUnit
variable (s : State) (p : PortIx)

theorem resetUnit_link : (s.resetUnit p).links[p] = s.links[p].restarted ⟨s.time, s.settings.trainTimeout⟩ := modLink_get s p _

theorem resetUnit_otherLink {q : PortIx} (h : q ≠ p) : (s.resetUnit p).links[q] = s.links[q] := modLink_other s _ h

theorem resetUnit_stage : (s.resetUnit p).stages[p] = { s.stages[p] with
    requesters := (s.stages[p]).requesters.map fun e => { e with inForce := e.target s.links[p].mode, owed := 0 }
    lastDispatched := 15 } := by
  have tables : (s.resetUnit p).stages = mapAt (mapAt s.stages p fun g => { g with
    requesters := g.requesters.map fun e => { e with inForce := e.target s.links[p].mode, owed := 0 } }) p fun g =>
      { g with lastDispatched := 15 } := rfl
  rw [tables, mapAt_mapAt]
  exact mapAt_get_self _ p _

theorem resetUnit_requester (r : ReqId) : ((s.resetUnit p).stages[p]).requesters[r] =
    { ((s.stages[p]).requesters)[r] with inForce := (((s.stages[p]).requesters)[r]).target s.links[p].mode, owed := 0 } := by
  rw [resetUnit_stage]
  exact Vector.getElem_map ..

theorem resetUnit_otherStage {q : PortIx} (h : q ≠ p) : (s.resetUnit p).stages[q] = s.stages[q] := by
  have tables : (s.resetUnit p).stages = mapAt (mapAt s.stages p fun g => { g with
    requesters := g.requesters.map fun e => { e with inForce := e.target s.links[p].mode, owed := 0 } }) p fun g =>
      { g with lastDispatched := 15 } := rfl
  rw [tables, mapAt_mapAt]
  exact mapAt_get_ne _ p q _ (Ne.symm h)

end resetUnit

end Sys2Proof.Machine

/-! PROOF. Training messages, the train timer, and links that train, retrain or fail (R15 to R18, R145). -/

namespace Sys2Proof.Machine

/-! ### The rows of the training messages -/

section rows
variable {s : State} {p : PortIx} (h : s.running) (m : PortMode) (seq : Seq)
include h

theorem exec_trn_training (fresh : Bool) (state : s.links[p].state = .training) :
    exec (.trnReceived p m seq fresh) s = .next ((s.answerTrn p m 0).hearPartner p) := by
  show execTrnReceived p m seq fresh s = _
  rw [execTrnReceived, event_running h]
  dsimp only
  rw [state]

theorem exec_trn_fresh (up : s.links[p].state = .active ∨ s.links[p].state = .retrain) :
    exec (.trnReceived p m seq true) s = .next (s.enterFailed p) := by
  show execTrnReceived p m seq true s = _
  rw [execTrnReceived, event_running h]
  dsimp only
  rcases up with state | state <;> rw [state] <;> rfl

theorem exec_trn_active (state : s.links[p].state = .active) : exec (.trnReceived p m seq false) s =
    .next (if s.links[p].ahead seq ≤ s.links[p].retry.length then (s.answerTrn p m s.links[p].expSeq).replayFrom p seq
      else (s.answerTrn p m s.links[p].expSeq).enterFailed p) := by
  show execTrnReceived p m seq false s = _
  rw [execTrnReceived, event_running h]
  dsimp only
  rw [state]
  rfl

theorem exec_trn_retrain (state : s.links[p].state = .retrain) :
    exec (.trnReceived p m seq false) s = .next ((s.answerTrn p m s.links[p].expSeq).decideRetrain p seq) := by
  show execTrnReceived p m seq false s = _
  rw [execTrnReceived, event_running h]
  dsimp only
  rw [state]
  rfl

theorem exec_trnr_training (state : s.links[p].state = .training) : exec (.trnrReceived p seq) s = .next (s.hearPartner p) := by
  show execTrnrReceived p seq s = _
  rw [execTrnrReceived, event_running h]
  rw [state]

theorem exec_trnr_retrain (state : s.links[p].state = .retrain) : exec (.trnrReceived p seq) s = .next (s.decideRetrain p seq) := by
  show execTrnrReceived p seq s = _
  rw [execTrnrReceived, event_running h]
  rw [state]

variable (due : timerDue s.links[p].trainTimer s.time = true)
include due

theorem exec_trainTimer_training (state : s.links[p].state = .training) : exec (.trainTimerExpiry p) s =
    .next (s.modLink p fun u => { u with trnOwed := some true, trainTimer := some ⟨s.time, s.settings.trainTimeout⟩ }) := by
  show execTrainTimerExpiry p s = _
  rw [execTrainTimerExpiry, event_running h]
  dsimp only
  rw [if_pos due, state]
  rfl

theorem exec_trainTimer_retrain (state : s.links[p].state = .retrain) {k : Nat} (attempt : s.links[p].attempt = some k) :
    exec (.trainTimerExpiry p) s = .next (if k < 3
      then s.modLink p fun u =>
        { u with trnOwed := some false, trainTimer := some ⟨s.time, s.settings.trainTimeout⟩, attempt := some (k + 1) }
      else s.enterFailed p) := by
  show execTrainTimerExpiry p s = _
  rw [execTrainTimerExpiry, event_running h]
  dsimp only
  rw [if_pos due, state]
  dsimp only
  rw [attempt]
  rfl

end rows

/-! ### A link fails -/

/-- Settles O16: a fresh TRN brings FAILED with its consequences. -/
theorem freshTrnFailsLink : Obligations.FreshTrnFailsLink := by
  intro s p m seq h up
  exact ⟨_, exec_trn_fresh h m seq up, enterFailed_link, enterFailed_fails .rfl_ rfl rfl, enterFailed_jobs, enterFailed_kept⟩

/-- Settles O21: in TRAINING a TRN is owed again, and a retrain takes its next attempt or fails. -/
theorem trainTimerExpires : Obligations.TrainTimerExpires := by
  intro s p h due u again
  refine ⟨fun state => ?_, fun k state attempt low => ?_, fun k state attempt full => ?_⟩
  · exact ⟨_, exec_trainTimer_training h due state, modLink_get s p _, onlyLink_modLink s p _⟩
  · exact ⟨_, (exec_trainTimer_retrain h due state attempt).trans (congrArg _ (if_pos low)), modLink_get s p _, onlyLink_modLink s p _⟩
  · refine ⟨_, (exec_trainTimer_retrain h due state attempt).trans (congrArg _ (if_neg (Nat.not_lt.mpr full))), ?_, ?_, ?_,
      enterFailed_fails .rfl_ rfl rfl, enterFailed_kept⟩
    all_goals rw [enterFailed_link]; rfl

/-! ### A retrain is decided (R16) -/

section retrain
variable {s : State} {p : PortIx} {seq : Seq}

/-- A retrain that succeeds drops what the partner has and replays the rest. -/
theorem retrainSuccess_link (s : State) (p : PortIx) (seq : Seq) : (s.retrainSuccess p seq).links[p] = { s.links[p] with
    state := .active, retry := s.links[p].retry.drop (s.links[p].ahead seq), replayCount := 0, ackOwed := 0, attempt := none
    trainTimer := none, trnOwed := none
    replayPos := if s.links[p].ahead seq < s.links[p].retry.length then some seq else none
    replayTimer := if s.links[p].ahead seq < s.links[p].retry.length then some ⟨s.time, s.settings.retryTimeout⟩
      else s.links[p].replayTimer } := by
  set f : LinkUnit → LinkUnit := fun u => { u.dropAcked (u.ahead seq) with
    state := .active, replayCount := 0, ackOwed := 0, trainTimer := none, attempt := none, trnOwed := none } with hf
  have resumed : (s.modLink p f).links[p] = f s.links[p] := modLink_get s p f
  have ended : s.retrainSuccess p seq =
      if (s.modLink p f).links[p].retry.isEmpty then s.modLink p f else (s.modLink p f).startReplay p seq := rfl
  rw [ended]
  by_cases left : s.links[p].ahead seq < s.links[p].retry.length
  · have some_ : ¬ (s.modLink p f).links[p].retry.isEmpty = true := by
      rw [resumed, hf]
      simpa [LinkUnit.dropAcked] using left
    rw [if_neg some_, if_pos left, if_pos left, State.startReplay, modLink_get, resumed]
    rfl
  · have all : s.links[p].retry.length ≤ s.links[p].ahead seq := Nat.not_lt.mp left
    have gone : (s.modLink p f).links[p] = { s.links[p] with
        retry := [], replayPos := none, state := .active, replayCount := 0, ackOwed := 0, trainTimer := none, attempt := none
        trnOwed := none } := by
      rw [resumed, hf]
      dsimp only
      rw [dropAcked_all _ all]
    rw [if_pos (by rw [gone]; rfl), if_neg left, if_neg left, gone, List.drop_eq_nil_iff.mpr all]

theorem decideRetrain_span (span : s.links[p].ahead seq ≤ s.links[p].retry.length) : s.decideRetrain p seq = s.retrainSuccess p seq :=
  if_pos span

theorem decideRetrain_beyond (beyond : s.links[p].retry.length < s.links[p].ahead seq) : s.decideRetrain p seq = s.enterFailed p :=
  if_neg (Nat.not_le.mpr beyond)

end retrain

/-- Settles O17: the partner's number resumes, replays or fails the session. -/
theorem retrainDecidedByPartner : Obligations.RetrainDecidedByPartner := by
  intro s p seq h u d again answered resumed failed
  set a : PortMode → State := fun m => s.answerTrn p m u.expSeq with ha
  have link (m : PortMode) : (a m).links[p] = answered m := modLink_get s p _
  have only (m : PortMode) : OnlyLinkOf p [] s (a m) := onlyLink_modLink s p _
  have fails (m : PortMode) : failed (answered m) ((a m).enterFailed p) := by
    refine ⟨?_, enterFailed_fails (modLink_cleared _) rfl (by rw [link]), ?_⟩
    · rw [enterFailed_link, link]; rfl
    · exact ((modLink_frame s p _).mono (by decide)).trans enterFailed_kept
  refine ⟨fun state => ⟨fun span => ?_, fun beyond => ?_, fun m => ⟨fun span => ?_, fun beyond => ?_⟩⟩, fun state m => ?active⟩
  · rw [exec_trnr_retrain h seq state, decideRetrain_span span]
    exact ⟨_, rfl, retrainSuccess_link s p seq, retrainSuccess_onlyLink s p seq⟩
  · rw [exec_trnr_retrain h seq state, decideRetrain_beyond beyond]
    exact ⟨_, rfl, enterFailed_link, enterFailed_fails .rfl_ rfl rfl, enterFailed_kept⟩
  · rw [exec_trn_retrain h m seq state, decideRetrain_span (by rw [link m]; exact span)]
    refine ⟨_, rfl, ?_, (only m).trans (retrainSuccess_onlyLink _ p seq)⟩
    have done := retrainSuccess_link (a m) p seq
    rw [link m] at done
    exact done
  · rw [exec_trn_retrain h m seq state, decideRetrain_beyond (by rw [link m]; exact beyond)]
    exact ⟨_, rfl, fails m⟩
  case active =>
    intro a' count
    have row := exec_trn_active h m seq state
    refine ⟨fun left low => ?_, fun left full => ?_, fun all => ?_, fun beyond => ?_⟩
    · rw [row, if_pos (show u.ahead seq ≤ u.retry.length from left.le)]
      have done := replayFrom_low (s := a m) (p := p) (q := seq)
      rw [link m] at done
      exact ⟨_, rfl, done left low, (only m).trans (replayFrom_onlyLink _ p seq)⟩
    · rw [row, if_pos (show u.ahead seq ≤ u.retry.length from left.le)]
      have full' := replayFrom_full (s := a m) (p := p) (q := seq)
      rw [link m] at full'
      rw [full' left full]
      refine ⟨_, rfl, ?_, (only m).trans (enterRetrain_onlyLink _ p)⟩
      rw [enterRetrain_link, link]
      rfl
    · rw [row, if_pos (show u.ahead seq ≤ u.retry.length from all.le)]
      have last := replayFrom_none (s := a m) (p := p) (q := seq)
      rw [link m] at last
      rw [last all]
      refine ⟨_, rfl, ?_, (only m).trans (.ite .rfl_ (ackProgress_onlyLink _ p _))⟩
      show (if d = 0 then a m else (a m).ackProgress p d).links[p] = _
      by_cases zero : d = 0
      · rw [if_pos zero, if_pos zero]
        exact link m
      · rw [if_neg zero, if_neg zero]
        have gone := ackProgress_all (a m) p (d := d)
        rw [link m] at gone
        exact gone all
    · rw [row, if_neg (show ¬ u.ahead seq ≤ u.retry.length from Nat.not_le.mpr beyond)]
      exact ⟨_, rfl, fails m⟩

/-! ### Training completes (R15) -/

section training
variable {s : State} {p : PortIx}

/-- The part with the session ACTIVE and the credits owed, before a RESTORE_LINK ends. -/
def State.trainedPart (s : State) (p : PortIx) : State :=
  ((s.modLink p fun u => { u with heard := true }).modLink p LinkUnit.trained).modRequesters p fun e => { e with owed := e.inForce }

theorem hearPartner_completes (sent : s.links[p].trnSent = true) : s.hearPartner p = (s.trainedPart p).restoreDone p := by
  have sent' : (s.modLink p fun u => { u with heard := true }).links[p].trnSent = true := by rw [modLink_get]; exact sent
  exact if_pos sent'

theorem trainedPart_link : (s.trainedPart p).links[p] = ({ s.links[p] with heard := true } : LinkUnit).trained := by
  show ((s.modLink p fun u => { u with heard := true }).modLink p LinkUnit.trained).links[p] = _
  rw [modLink_get, modLink_get]

theorem trainedPart_only : OnlyLinkOf p [.stages] s (s.trainedPart p) :=
  ((onlyLink_modLink s p _).trans (onlyLink_modLink _ p _)).widen.trans ((modRequesters_frame _ p _).onlyLink p (by simp))

theorem trainedPart_owed (r : ReqId) : (((s.trainedPart p).stages[p]).requesters[r]).owed = (((s.stages[p]).requesters)[r]).inForce := by
  rw [State.trainedPart, modRequesters_get]
  rfl

theorem restoreDone_none (none : s.linkJobOn p = false) : s.restoreDone p = s := if_neg (by rw [none]; decide)

/-- The windows whose primary returns are the ones the RESTORE_LINK counts (R145). -/
theorem mem_returning (w : WindowIx) : w ∈ s.returning p ↔ (carriesLegs s.links[p].mode && (s.windows[w]).configured
    && (s.windows[w]).mirror.state == .absent && (s.windows[w]).primary.port == p && (s.windows[w]).primary.state == .lost) = true := by
  simp [State.returning, indicesWhere]

/-- The part with the returned primaries IN_SERVICE. -/
def State.returned (s : State) (p : PortIx) : State := (s.returning p).foldl (fun s w => s.setLeg w .primary .inService) s

theorem returned_frame : SameExcept [.windows] s (s.returned p) := .foldl (fun s w => setLeg_frame s w _ _) _ s

theorem returned_get (w : WindowIx) : (s.returned p).windows[w] = if w ∈ s.returning p
    then { s.windows[w] with primary := { (s.windows[w]).primary with state := .inService } } else s.windows[w] := by
  have nodup : (s.returning p).Nodup := by
    rw [State.returning, indicesWhere]
    exact (List.nodup_finRange 256).filter _
  have changed := foldl_table_get (read := fun s => s.windows) (step := fun s w => s.setLeg w .primary .inService)
    (g := fun _ win => win.modLeg .primary fun l => { l with state := .inService }) (fun _ _ => rfl) nodup s w
  exact changed

theorem restoreDone_some (on : s.linkJobOn p = true) : s.restoreDone p =
    ({ s.returned p with jobs := { (s.returned p).jobs with deadline := none } } : State).endJob .link .done (s.returning p).length :=
  if_pos on

/-- What the end of a RESTORE_LINK leaves, from a part `v` that differs from `s` in the port's link unit and stages (R145). -/
theorem restoreDone_restores {v : State} (only : OnlyLinkOf p [.stages] s v) (mode : v.links[p].mode = s.links[p].mode)
    (on : s.linkJobOn p = true) :
    (v.restoreDone p).links = v.links ∧ (v.restoreDone p).stages = v.stages
      ∧ (∀ w : WindowIx, (v.restoreDone p).windows[w] = if w ∈ s.returning p
        then { s.windows[w] with primary := { (s.windows[w]).primary with state := .inService } } else s.windows[w])
      ∧ (v.restoreDone p).jobs = { s.jobs with link := ⟨.done, (s.returning p).length⟩, deadline := none }
      ∧ ((v.restoreDone p).causes.entries[causeIx .jobDone]).pending = true
      ∧ ((v.restoreDone p).causes.entries[causeIx .jobDone]).detail &&& 2#16 = 2#16
      ∧ OnlyLinkOf p [.stages, .windows, .jobs, .causes] s (v.restoreDone p) := by
  have frame := restoreDone_frame v p
  have jobs : v.jobs = s.jobs := only.1 .jobs (by simp)
  have windows : v.windows = s.windows := only.1 .windows (by simp)
  have returning : v.returning p = s.returning p := by rw [State.returning, State.returning, windows, mode]
  have kept : (v.returned p).jobs = s.jobs := (returned_frame (s := v) (p := p) .jobs (by simp)).trans jobs
  have ended := restoreDone_some (s := v) (p := p) (by rw [State.linkJobOn, jobs]; exact on)
  refine ⟨frame .links (by simp), frame .stages (by simp), fun w => ?_, ?_, ?_, ?_,
    (only.mono (by simp)).trans ((frame.onlyLink p (by simp)).mono (by simp))⟩
  · rw [ended]
    show (v.returned p).windows[w] = _
    rw [returned_get, returning, windows]
  · rw [ended, returning]
    show { (v.returned p).jobs with link := ⟨.done, (s.returning p).length⟩, deadline := none } = _
    rw [kept]
  · rw [ended]
    exact raise_pending _ _ _
  · rw [ended]
    exact raise_bits _ .jobDone 2#16 rfl

end training

/-- Settles O15: the session opens with its credits owed, and a RESTORE_LINK of the port ends. -/
theorem trainingCompletes : Obligations.TrainingCompletes := by
  intro s p m seq fresh h training sent active granted returned restored
  have heardTrn : exec (.trnReceived p m seq fresh) s = .next (((s.answerTrn p m 0).trainedPart p).restoreDone p) := by
    rw [exec_trn_training h m seq fresh training, hearPartner_completes (by rw [State.answerTrn, modLink_get]; exact sent)]
  have heardTrnr : exec (.trnrReceived p seq) s = .next ((s.trainedPart p).restoreDone p) := by
    rw [exec_trnr_training h seq training, hearPartner_completes sent]
  have linkTrn : ((s.answerTrn p m 0).trainedPart p).links[p] = { active with trnrOwed := some 0, partnerMode := some m } := by
    rw [trainedPart_link, State.answerTrn, modLink_get]
    rfl
  have linkTrnr : (s.trainedPart p).links[p] = active := trainedPart_link
  have onlyTrn : OnlyLinkOf p [.stages] s ((s.answerTrn p m 0).trainedPart p) := (onlyLink_modLink s p _).widen.trans trainedPart_only
  have onlyTrnr : OnlyLinkOf p [.stages] s (s.trainedPart p) := trainedPart_only
  have grantedTrn : granted ((s.answerTrn p m 0).trainedPart p) := trainedPart_owed
  have grantedTrnr : granted (s.trainedPart p) := trainedPart_owed
  have restores {v : State} (only : OnlyLinkOf p [.stages] s v) (mode : v.links[p].mode = s.links[p].mode) (owed : granted v)
      (on : s.linkJobOn p = true) : (v.restoreDone p).links = v.links ∧ granted (v.restoreDone p) ∧ restored (v.restoreDone p) := by
    obtain ⟨links, stages, windows, jobs, pending, bit, kept⟩ := restoreDone_restores only mode on
    refine ⟨links, fun r => by rw [stages]; exact owed r, fun w back => ?_, fun w stays => ?_, jobs, pending, bit, kept⟩
    · exact (windows w).trans (if_pos ((mem_returning w).mpr back))
    · exact (windows w).trans (if_neg fun k => Bool.false_ne_true (stays.symm.trans ((mem_returning w).mp k)))
  refine ⟨fun off => ⟨?_, ?_⟩, fun on => ⟨?_, ?_⟩⟩
  · rw [heardTrn, restoreDone_none (by rw [State.linkJobOn, show State.jobs _ = _ from onlyTrn.1 .jobs (by simp)]; exact off)]
    exact ⟨_, rfl, linkTrn, grantedTrn, onlyTrn⟩
  · rw [heardTrnr, restoreDone_none (by rw [State.linkJobOn, show State.jobs _ = _ from onlyTrnr.1 .jobs (by simp)]; exact off)]
    exact ⟨_, rfl, linkTrnr, grantedTrnr, onlyTrnr⟩
  · obtain ⟨links, owed, done⟩ := restores onlyTrn (by rw [linkTrn]) grantedTrn on
    exact ⟨_, heardTrn, by rw [links]; exact linkTrn, owed, done⟩
  · obtain ⟨links, owed, done⟩ := restores onlyTrnr (by rw [linkTrnr]) grantedTrnr on
    exact ⟨_, heardTrnr, by rw [links]; exact linkTrnr, owed, done⟩

end Sys2Proof.Machine

/-! PROOF. The commands that change a port's mode or reset its link, and the RESTORE_LINK deadline (R25, R26, R144 to R146). -/

namespace Sys2Proof.Machine

/-- A state that differs in the management port alone. -/
theorem eq_of_mgmt {u t : State} (h : SameExcept [.mgmt] u t) : t = { u with mgmt := t.mgmt } := by
  cases t
  cases u
  simp only [State.mk.injEq]
  exact ⟨h .links (by simp), h .stages (by simp), h .windows (by simp), h .ott (by simp), h .monitors (by simp), h .contrib (by simp),
    h .pacers (by simp), h .profiles (by simp), h .tenants (by simp), h .cards (by simp), h .closer (by simp), h .holdList (by simp),
    h .ring (by simp), h .fabric (by simp), h .sweep (by simp), h .copy (by simp), h .jobs (by simp), h .causes (by simp), trivial,
    h .settings (by simp), h .time (by simp), h .resetPin (by simp), h .queue (by simp)⟩

/-! ### SET_PORT_MODE (R25) -/

theorem toMode_modeCode (m : PortMode) : toMode (modeCode m) = some m := by cases m <;> rfl

theorem toMode_none {n : Nat} (h : 4 < n) : toMode n = none := by
  unfold toMode
  split
  all_goals first | rfl | exact absurd h (by decide)

theorem setPortMode_badArg {s : State} {port mode : Nat} (h : 15 < port ∨ 4 < mode) : s.setPortMode port mode = s.refuse .badArg := by
  unfold State.setPortMode
  rcases h with port_ | mode_
  · rw [toIx, dif_neg (Nat.not_lt.mpr port_)]
  · rw [toMode_none mode_]
    cases toIx 16 port <;> rfl

theorem setPortMode_rule (s : State) (p : PortIx) (m : PortMode) : s.setPortMode p.1 (modeCode m) =
    if s.linkJobOn p then s.refuse .state else if m = s.links[p].mode then s.okay else (s.changeMode p m).okay := by
  rw [State.setPortMode, toIx_val, toMode_modeCode]

theorem linkJobOn_iff {s : State} {p : PortIx} : s.linkJobOn p = true ↔ s.jobs.link.state = .active ∧ s.jobs.linkPort = p := by
  simp [State.linkJobOn]

/-! ### A port that is gone is reset -/

/-- The link unit after a reset, written out (R15, R22). -/
theorem restarted_eq (u : LinkUnit) (timer : Timer) : u.restarted timer = { u with
    state := if u.mode = .off then .down else .training
    sendSeq := 0, retry := [], replayPos := none, replayTimer := none, replayCount := 0, expSeq := 0, ackOwed := 0
    episode := false, trnSent := decide (u.mode ≠ .off), heard := false
    trainTimer := if u.mode = .off then none else some timer
    attempt := none, partnerMode := none, sendCredit := Vector.replicate 16 0, recvCredit := Vector.replicate 16 0
    txQueue := [], trnrOwed := none, trnOwed := if u.mode = .off then none else some true, lnakOwed := false } := by
  cases h : u.mode <;> simp [LinkUnit.restarted, h]

section gone
variable {s v : State} {p : PortIx} {m : PortMode}

/-- The reset of a link unit that differs by its mode and its transmit queue. -/
theorem reset_link (link : ∃ queue, v.links[p] = { s.links[p] with mode := m, txQueue := queue })
    (time : v.time = s.time) (settings : v.settings = s.settings) :
    (v.resetUnit p).links[p] = ({ s.links[p] with mode := m } : LinkUnit).restarted ⟨s.time, s.settings.trainTimeout⟩ := by
  obtain ⟨queue, link⟩ := link
  rw [resetUnit_link, link, time, settings]
  rfl

/-- The reset of a requester entry that differs by its queue and its owed credit (R29). -/
theorem reset_requester (r : ReqId) {queue : List Request} (mode : v.links[p].mode = m)
    (entry : ∃ owed, ((v.stages[p]).requesters)[r] = { ((s.stages[p]).requesters)[r] with owed := owed, queue := queue }) :
    (((v.resetUnit p).stages[p]).requesters)[r] = { ((s.stages[p]).requesters)[r] with
      owed := 0, inForce := (((s.stages[p]).requesters)[r]).target m, queue := queue } := by
  obtain ⟨owed, entry⟩ := entry
  rw [resetUnit_requester, entry, mode]
  rfl

theorem resetUnit_lastDispatched (v : State) (p : PortIx) : ((v.resetUnit p).stages[p]).lastDispatched = 15 := by rw [resetUnit_stage]

theorem resetUnit_ott (v : State) (p : PortIx) : (v.resetUnit p).ott = v.ott := resetUnit_frame v p .ott (by simp)

theorem resetUnit_windows (v : State) (p : PortIx) : (v.resetUnit p).windows = v.windows := resetUnit_frame v p .windows (by simp)

theorem resetUnit_causes (v : State) (p : PortIx) : (v.resetUnit p).causes = v.causes := resetUnit_frame v p .causes (by simp)

theorem resetUnit_sweep (v : State) (p : PortIx) : (v.resetUnit p).sweep = v.sweep := resetUnit_frame v p .sweep (by simp)

theorem resetUnit_jobs (v : State) (p : PortIx) : (v.resetUnit p).jobs = v.jobs := resetUnit_frame v p .jobs (by simp)

end gone

section changeMode
variable (s : State) (p : PortIx) (m : PortMode)

/-- The part with the port gone and its new mode in force, before the link unit is reset. -/
def State.remoded (s : State) (p : PortIx) (m : PortMode) : State := (s.portGone p true).modLink p fun u => { u with mode := m }

theorem changeMode_reset : s.changeMode p m = (s.remoded p m).resetUnit p := rfl

theorem remoded_link : ∃ queue, (s.remoded p m).links[p] = { s.links[p] with mode := m, txQueue := queue } := by
  obtain ⟨queue, link⟩ := portGone_link s p true
  refine ⟨queue, ?_⟩
  rw [State.remoded, modLink_get, link]

theorem changeMode_kept : SameExcept portLossParts s (s.changeMode p m) :=
  ((portGone_kept s p true).trans ((modLink_frame _ p _).mono (by decide))).trans ((resetUnit_frame _ p).mono (by decide))

theorem changeMode_link : (s.changeMode p m).links[p] = ({ s.links[p] with mode := m } : LinkUnit).restarted ⟨s.time, s.settings.trainTimeout⟩ := by
  have kept := portGone_kept s p true
  rw [changeMode_reset]
  exact reset_link (remoded_link s p m) (kept .time (by decide)) (kept .settings (by decide))

theorem changeMode_requester (r : ReqId) : (((s.changeMode p m).stages[p]).requesters)[r] = { ((s.stages[p]).requesters)[r] with
    owed := 0
    inForce := (((s.stages[p]).requesters)[r]).target m
    queue := if takesRequests s.links[p].mode then [] else (((s.stages[p]).requesters)[r]).queue } := by
  obtain ⟨queue, link⟩ := remoded_link s p m
  rw [changeMode_reset]
  exact reset_requester r (by rw [link]) (portGone_requester s p true r)

theorem changeMode_ott : (s.changeMode p m).ott = (s.portGone p true).ott := by rw [changeMode_reset, resetUnit_ott]; rfl

theorem changeMode_windows : (s.changeMode p m).windows = (s.portGone p true).windows := by rw [changeMode_reset, resetUnit_windows]; rfl

theorem changeMode_causes : (s.changeMode p m).causes = (s.portGone p true).causes := by rw [changeMode_reset, resetUnit_causes]; rfl

theorem changeMode_sweep : (s.changeMode p m).sweep = (s.portGone p true).sweep := by rw [changeMode_reset, resetUnit_sweep]; rfl

end changeMode

/-- The LIVE entries of a port whose ingress side goes are ORPHAN or FREE (R82). -/
theorem portGone_live {s : State} {p : PortIx} (change : Bool) (takes : takesRequests s.links[p].mode = true) {i : OttIx} {r : ReqId} {tag : Tag}
    (live : (s.ott.entries[i]).state = .live) (origin : (s.ott.entries[i]).origin = .ingress p r tag) :
    ((∀ x, ((s.ott.entries[i]).leg x).progress ≠ .waiting) → ((s.portGone p change).ott.entries[i]).state = .orphan
      ∧ ∀ x, (((s.portGone p change).ott.entries[i]).leg x).progress = ((s.ott.entries[i]).leg x).progress)
    ∧ (∀ x, ((s.ott.entries[i]).leg x).progress = .waiting → (s.portGone p change).ott.entries[i] = .freed (s.ott.entries[i]).gen) := by
  obtain ⟨orphan, freed, none⟩ := orphaned_cases (portGone_entry s p takes (liveFrom_of s p live origin))
  rw [(portGone_cut s p change).same none]
  exact ⟨orphan, freed⟩

/-- Settles O45: the command is refused, does nothing, or changes the mode in one event. -/
theorem setPortModeRule : Obligations.SetPortModeRule := by
  intro s port mode may
  refine ⟨fun bad => command_refused (cmd := fun s => s.setPortMode port mode) may (setPortMode_badArg bad), fun p m hp hm => ?_⟩
  subst hp hm
  have rule := setPortMode_rule s p m
  refine ⟨fun on here => ?_, fun free same => ?_, fun free other => ?_⟩
  · rw [if_pos (linkJobOn_iff.mpr ⟨on, here⟩)] at rule
    exact command_refused (cmd := fun s => s.setPortMode p.1 (modeCode m)) may rule
  · rw [if_neg (fun k => free (linkJobOn_iff.mp k)), if_pos same] at rule
    obtain ⟨t, row, answer, -, frame⟩ := command_okay (cmd := fun s => s.setPortMode p.1 (modeCode m)) (parts := []) may rule .rfl_ (by decide)
    exact ⟨t, row, answer, frame⟩
  · rw [if_neg (fun k => free (linkJobOn_iff.mp k)), if_neg other] at rule
    obtain ⟨t, row, answer, kept, frame⟩ := command_okay (cmd := fun s => s.setPortMode p.1 (modeCode m)) may rule
      (changeMode_kept s p m) (by decide)
    obtain ⟨answered, rfl⟩ : ∃ answered, t = { s.changeMode p m with mgmt := answered } := ⟨_, eq_of_mgmt kept⟩
    refine ⟨_, row, answer, rfl, ?link, changeMode_requester s p m, ?dispatched, ?entries, ?stale, ?legs, frame⟩
    case link => exact (changeMode_link s p m).trans (restarted_eq _ _)
    case dispatched => exact resetUnit_lastDispatched _ p
    case entries =>
      intro i r tag takes live origin
      rw [changeMode_ott]
      exact portGone_live true takes live origin
    case stale =>
      intro i x
      rw [changeMode_ott]
      exact portGone_stale s p true i x
    case legs =>
      intro carries
      obtain ⟨-, pending, bit, sweep⟩ := portGone_legsLost s p true carries
      rw [changeMode_windows, changeMode_causes, changeMode_sweep]
      exact ⟨fun w x configured here st => portGone_configured s p carries configured here st, pending, bit, sweep⟩

/-! ### A link reset (R22, R144, R146) -/

section linkReset
variable (s : State) (p : PortIx)

theorem linkReset_link : (s.linkReset p).links[p] = s.links[p].restarted ⟨s.time, s.settings.trainTimeout⟩ := by
  have kept := portGone_kept s p false
  rw [linkReset_eq]
  exact reset_link (m := s.links[p].mode) (portGone_link s p false) (kept .time (by decide)) (kept .settings (by decide))

theorem linkReset_requester (r : ReqId) : (((s.linkReset p).stages[p]).requesters)[r] = { ((s.stages[p]).requesters)[r] with
    owed := 0
    inForce := (((s.stages[p]).requesters)[r]).target s.links[p].mode
    queue := if takesRequests s.links[p].mode then [] else (((s.stages[p]).requesters)[r]).queue } := by
  obtain ⟨queue, link⟩ := portGone_link s p false
  rw [linkReset_eq]
  exact reset_requester r (by rw [link]) (portGone_requester s p false r)

theorem linkReset_ott : (s.linkReset p).ott = (s.portGone p false).ott := by rw [linkReset_eq, resetUnit_ott]

theorem linkReset_windows : (s.linkReset p).windows = (s.portGone p false).windows := by rw [linkReset_eq, resetUnit_windows]

theorem linkReset_causes : (s.linkReset p).causes = (s.portGone p false).causes := by rw [linkReset_eq, resetUnit_causes]

theorem linkReset_sweep : (s.linkReset p).sweep = (s.portGone p false).sweep := by rw [linkReset_eq, resetUnit_sweep]

theorem linkReset_jobs : (s.linkReset p).jobs = { s.jobs with rebuild := (s.linkReset p).jobs.rebuild } := by
  rw [linkReset_eq, resetUnit_jobs]
  exact portGone_jobs s p false

theorem linkReset_kept : SameExcept portLossParts s (s.linkReset p) :=
  (portGone_kept s p false).trans ((resetUnit_frame _ p).mono (by decide))

theorem linkReset_ingress (takes : takesRequests s.links[p].mode = true) : s.IngressGivenUp p (s.linkReset p) := by
  refine ⟨fun r => ?_, fun i r tag live origin => ?_⟩
  · rw [linkReset_requester, if_pos takes]
    exact ⟨rfl, rfl⟩
  · rw [linkReset_ott]
    exact portGone_live false takes live origin

theorem linkReset_legs (carries : carriesLegs s.links[p].mode = true) : s.PortLegsLost p (s.linkReset p) := by
  have lost := portGone_legsLost s p false carries
  rw [State.PortLegsLost, linkReset_windows, linkReset_causes, linkReset_sweep]
  exact lost

theorem linkReset_lossFrame : s.PortLossFrame p (s.linkReset p) := by
  obtain ⟨others, legs, quiet⟩ := portGone_frame s p false
  refine ⟨fun q hq => ?_, fun w x => ?_, fun none => ?_⟩
  · rw [linkReset_eq, resetUnit_otherLink _ p hq, resetUnit_otherStage _ p hq]
    exact others q hq
  · rw [linkReset_windows]
    exact legs w x
  · rw [linkReset_windows, linkReset_sweep]
    exact quiet none

end linkReset

theorem linkResetCommand_rule {s : State} {p : PortIx} (free : s.linkJobOn p = false) : s.linkResetCommand p.1 = (s.linkReset p).okay := by
  rw [State.linkResetCommand, toIx_val]
  exact if_neg (by rw [free]; decide)

/-- The jobs once a RESTORE_LINK of the port has started (R144). -/
def State.restoring (s : State) (p : PortIx) : Jobs := { s.jobs with
  link := ⟨.active, 0⟩, linkPort := p, deadline := some ⟨s.time, 3 * s.settings.trainTimeout⟩ }

theorem restoreLink_rule {s : State} {p : PortIx} (free : s.jobs.link.state ≠ .active) (on : s.links[p].mode ≠ .off) :
    s.restoreLink p.1 = (({ s with jobs := s.restoring p } : State).linkReset p).okay := by
  rw [State.restoreLink, toIx_val]
  dsimp only
  rw [if_neg free, if_neg on]
  rfl

/-- The consequences of a failure outlive changes of the jobs and of other causes. -/
theorem linkFails_of_later {s t u : State} {p : PortIx} (h : s.LinkFails p t) (frame : SameExcept [.jobs, .causes] t u)
    (cause : u.causes.entries[causeIx .linkFailed] = t.causes.entries[causeIx .linkFailed]) : s.LinkFails p u := by
  have links : u.links = t.links := frame .links (by simp)
  have stages : u.stages = t.stages := frame .stages (by simp)
  have windows : u.windows = t.windows := frame .windows (by simp)
  have ott : u.ott = t.ott := frame .ott (by simp)
  have sweep : u.sweep = t.sweep := frame .sweep (by simp)
  simp only [State.LinkFails, State.IngressGivenUp, State.PortLegsLost, State.PortLossFrame, links, stages, windows, ott, sweep, cause] at h ⊢
  exact h

/-- Settles O54: both commands reset the link, and the deadline fails it. -/
theorem linkResetCommands : Obligations.LinkResetCommands := by
  intro s p u timer fresh
  have fresh_of (j : Jobs) (m : Mgmt) : fresh { ({ s with jobs := j } : State).linkReset p with mgmt := m } := by
    set v : State := { s with jobs := j } with hv
    refine ⟨(linkReset_link v p).trans (restarted_eq _ _), linkReset_requester v p, resetUnit_lastDispatched _ p, ?stale,
      linkReset_ingress v p, linkReset_legs v p, ?causes, linkReset_lossFrame v p, ?kept⟩
    case stale =>
      intro i x
      rw [linkReset_ott]
      exact portGone_stale v p false i x
    case causes =>
      intro none
      exact (linkReset_causes v p).trans (portGone_causes v p false none)
    case kept =>
      have jobs : SameExcept (.mgmt :: portLossParts) s v := fun x h => by cases x <;> first | rfl | exact absurd (by decide) h
      have mgmt : SameExcept (.mgmt :: portLossParts) (v.linkReset p) { v.linkReset p with mgmt := m } := fun x h => by
        cases x <;> first | rfl | exact absurd (by decide) h
      exact (jobs.trans ((linkReset_kept v p).mono (List.subset_cons_self _ _))).trans mgmt
  refine ⟨fun may free => ?reset, fun may free on => ?restore, fun h active port due => ?deadline⟩
  case reset =>
    obtain ⟨t, row, answer, kept, -⟩ := command_okay (cmd := fun s => s.linkResetCommand p.1) may (linkResetCommand_rule free)
      (linkReset_kept s p) (by decide)
    obtain ⟨answered, rfl⟩ : ∃ answered, t = { s.linkReset p with mgmt := answered } := ⟨_, eq_of_mgmt kept⟩
    exact ⟨_, row, answer, fresh_of s.jobs answered, linkReset_jobs s p⟩
  case restore =>
    set v : State := { s with jobs := s.restoring p } with hv
    have jobs : SameExcept portLossParts s v := fun x h => by cases x <;> first | rfl | exact absurd (by decide) h
    obtain ⟨t, row, answer, kept, -⟩ := command_okay (cmd := fun s => s.restoreLink p.1) may (restoreLink_rule free on)
      (jobs.trans (linkReset_kept v p)) (by decide)
    obtain ⟨answered, rfl⟩ : ∃ answered, t = { v.linkReset p with mgmt := answered } := ⟨_, eq_of_mgmt kept⟩
    exact ⟨_, row, answer, fresh_of _ answered, linkReset_jobs v p⟩
  case deadline =>
    subst port
    set q : PortIx := s.jobs.linkPort with hq
    set v : State := { s.enterFailed q with jobs := { (s.enterFailed q).jobs with deadline := none } } with hv
    have row : exec .restoreLinkDeadline s = .next (v.endJob .link .failed (linkStateCode s.links[q].state)) := by
      show execRestoreLinkDeadline s = _
      rw [execRestoreLinkDeadline, event_running h, if_pos ⟨active, due⟩]
    have ended : SameExcept [.jobs, .causes] (s.enterFailed q) (v.endJob .link .failed (linkStateCode s.links[q].state)) :=
      .trans (fun x h => by cases x <;> first | rfl | exact absurd (by decide) h) (endJob_frame v _ _ _)
    have cause : (v.endJob .link .failed (linkStateCode s.links[q].state)).causes.entries[causeIx .linkFailed]
        = (s.enterFailed q).causes.entries[causeIx .linkFailed] :=
      raise_other (v.setJob .link ⟨.failed, linkStateCode s.links[q].state⟩) .jobDone _ (by decide)
    have jobs : (v.endJob .link .failed (linkStateCode s.links[q].state)).jobs = { s.jobs with
        rebuild := (s.enterFailed q).jobs.rebuild, link := ⟨.failed, linkStateCode s.links[q].state⟩, deadline := none } := by
      show { (s.enterFailed q).jobs with link := ⟨.failed, linkStateCode s.links[q].state⟩, deadline := none } = _
      rw [enterFailed_jobs]
    exact ⟨_, row, enterFailed_link, linkFails_of_later (enterFailed_fails .rfl_ rfl rfl) ended cause, jobs, raise_pending _ _ _,
      raise_bits _ .jobDone 2#16 rfl, enterFailed_kept.trans (ended.mono (by decide))⟩

end Sys2Proof.Machine

/-! PROOF. The window lookup and the head that the dispatcher takes (sections 2.4 and 3.3). -/

namespace Sys2Proof.Machine

/-! ### The lookup (Table 3-4) -/

section lookup
variable {s : State} {k : TenantIx}

theorem isRead_iff {body : ReqBody} : isRead body = true ↔ body = .rd := by cases body <;> simp [isRead]

theorem isRead_false {body : ReqBody} : isRead body = false ↔ body ≠ .rd := by cases body <;> simp [isRead]

/-- A window covers the lines of its range. -/
theorem covers_iff (w : Window) (line : Nat) : w.covers line = true ↔ w.base * 32768 ≤ line ∧ line < (w.base + w.length) * 32768 := by
  rw [Window.covers, Bool.and_eq_true, decide_eq_true_eq, decide_eq_true_eq]
  exact Iff.rfl

/-- What the search for a window looks for (R51). -/
def State.found (s : State) (k : TenantIx) (line : Nat) (w : WindowIx) : Prop :=
  (s.windows[w]).enabled = true ∧ (s.windows[w]).tenant = k ∧ (s.windows[w]).base * 32768 ≤ line
    ∧ line < ((s.windows[w]).base + (s.windows[w]).length) * 32768

theorem found_iff (line : Nat) (w : WindowIx) :
    ((s.windows[w]).enabled && (s.windows[w]).tenant == k && (s.windows[w]).covers line) = true ↔ s.found k line w := by
  rw [Bool.and_eq_true, Bool.and_eq_true, beq_iff_eq, covers_iff, State.found, and_assoc]

theorem findWindow_some {line : Nat} {w : WindowIx} (h : s.findWindow k line = some w) : s.found k line w := by
  unfold State.findWindow at h
  have hit := List.find?_some h
  exact (found_iff line w).mp hit

theorem findWindow_none (line : Nat) : s.findWindow k line = none ↔ ∀ w, ¬ s.found k line w := by
  rw [State.findWindow, List.find?_eq_none]
  exact ⟨fun h w found => h w (List.mem_finRange w) ((found_iff line w).mpr found), fun h w _ found => h w ((found_iff line w).mp found)⟩

/-- A window is unavailable when no leg is IN_SERVICE (R44). -/
theorem legCondition_unavailable (w : Window) : w.legCondition = .unavailable ↔ ∀ x, (w.leg x).state ≠ .inService := by
  rw [forall_side_iff .primary]
  show _ ↔ w.primary.state ≠ .inService ∧ w.mirror.state ≠ .inService
  unfold Window.legCondition
  cases w.primary.state <;> cases w.mirror.state <;> simp

variable {body : ReqBody} {line : LineAddr} {w : WindowIx}

theorem lookup_noroute (none : s.findWindow k line.toNat = none) : s.lookup k body line = .noroute := by rw [State.lookup, none]

theorem lookup_denied (found : s.findWindow k line.toNat = some w) (write : body ≠ .rd) (readOnly : (s.windows[w]).access = .readOnly) :
    s.lookup k body line = .denied := by
  rw [State.lookup, found]
  refine if_pos ?_
  rw [isRead_false.mpr write, readOnly]
  rfl

theorem lookup_lost (found : s.findWindow k line.toNat = some w) (allowed : ¬ (body ≠ .rd ∧ (s.windows[w]).access = .readOnly))
    (none : ∀ x, ((s.windows[w]).leg x).state ≠ .inService) : s.lookup k body line = .lost := by
  rw [State.lookup, found]
  refine (if_neg fun refused => ?_).trans (if_pos ((legCondition_unavailable _).mpr none))
  rw [Bool.and_eq_true, Bool.not_eq_true', beq_iff_eq, isRead_false] at refused
  exact allowed refused

theorem lookup_routed (found : s.findWindow k line.toNat = some w) (allowed : ¬ (body ≠ .rd ∧ (s.windows[w]).access = .readOnly))
    (some_ : ∃ x, ((s.windows[w]).leg x).state = .inService) : s.lookup k body line =
      .routed w (if isRead body then [s.readSide (s.windows[w])] else s.writeSides (s.windows[w]) line.toNat) := by
  rw [State.lookup, found]
  refine (if_neg fun refused => ?_).trans (if_neg fun unavailable => ?_)
  · rw [Bool.and_eq_true, Bool.not_eq_true', beq_iff_eq, isRead_false] at refused
    exact allowed refused
  · obtain ⟨x, serving⟩ := some_
    exact (legCondition_unavailable _).mp unavailable x serving

/-! ### Read steering and write sides (Table 3-5, R57) -/

theorem readSide_mirror (win : Window) (lost : win.primary.state ≠ .inService) : s.readSide win = .mirror := if_neg lost

theorem readSide_healthy {win : Window} (up : win.primary.state = .inService) : s.readSide win =
    if win.mirror.state = .inService ∧ s.links[win.primary.port].healthState = .weak ∧ s.links[win.mirror.port].healthState = .good
    then .mirror else .primary := if_pos up

/-- Read steering picks a leg IN_SERVICE when there is one. -/
theorem readSide_serves {win : Window} (some_ : ∃ x, (win.leg x).state = .inService) : (win.leg (s.readSide win)).state = .inService := by
  by_cases up : win.primary.state = .inService
  · rw [readSide_healthy up]
    split
    · rename_i weak
      exact weak.1
    · exact up
  · rw [readSide_mirror win up]
    obtain ⟨x, serving⟩ := some_
    cases x
    · exact absurd serving up
    · exact serving

theorem mem_writeSides (win : Window) (n : Nat) (x : Side) : x ∈ s.writeSides win n ↔
    (win.leg x).state = .inService ∨ ((win.leg x).state = .rebuilding ∧ n < s.copy.frontier) := by
  rw [State.writeSides, List.mem_filter, Bool.or_eq_true, beq_iff_eq, Bool.and_eq_true, beq_iff_eq, decide_eq_true_eq]
  exact ⟨fun h => h.2, fun h => ⟨mem_bothSides x, h⟩⟩

theorem nodup_writeSides (win : Window) (n : Nat) : (s.writeSides win n).Nodup := List.Nodup.filter _ (by decide)

end lookup

/-- Settles O26: the lookup's outcomes in their order, and read steering. -/
theorem readSteering : Obligations.ReadSteering := by
  refine ⟨fun s k body line => ?_, fun s win => ⟨fun up lost => ?_, fun up good => ?_, fun up serving weak good => ?_, fun up _ weak => ?_,
    readSide_mirror win⟩⟩
  · intro found
    refine ⟨findWindow_none line.toNat, lookup_noroute, fun w hw => ?_⟩
    intro win serving refused
    refine ⟨findWindow_some hw, fun ⟨write, readOnly⟩ => lookup_denied hw write readOnly, lookup_lost hw, fun allowed some_ =>
      ⟨_, lookup_routed hw allowed some_, fun read => ?_, fun write => ?_⟩⟩
    · rw [if_pos (isRead_iff.mpr read)]
      exact ⟨rfl, readSide_serves some_⟩
    · rw [if_neg (fun k => write (isRead_iff.mp k))]
      exact ⟨nodup_writeSides win _, mem_writeSides win _⟩
  · rw [readSide_healthy up, if_neg fun h => lost h.1]
  · rw [readSide_healthy up, if_neg fun h => by rw [good] at h; exact absurd h.2.1 (by decide)]
  · rw [readSide_healthy up, if_pos ⟨serving, weak, good⟩]
  · rw [readSide_healthy up, if_neg fun h => by rw [weak] at h; exact absurd h.2.2 (by decide)]

/-! ### The head that is taken (Table 2-3) -/

section heads
variable {s : State} {p : PortIx} {r : ReqId} {q : Request}

/-- The dispatcher takes the head of a sub-queue that no condition holds (R37). -/
theorem nextHead_head (h : s.nextHead p = some (r, q)) : s.headRequest p r = some q ∧ (s.headHolds p r q).held = false := by
  obtain ⟨k, -, hk⟩ := List.exists_of_findSome?_eq_some h
  split at hk
  · cases hk
  · rename_i m head
    split at hk
    · cases hk
    · rename_i free
      cases hk
      exact ⟨head, Bool.eq_false_iff.mpr free⟩

theorem held_false {c : Holds} (h : c.held = false) : c.pacer = false ∧ c.sameLine = false ∧ c.pinned = false ∧ c.room = false ∧ c.short = [] := by
  simp only [Holds.held, Bool.or_eq_false_iff, Bool.not_eq_false', List.isEmpty_iff] at h
  tauto

theorem headHolds_pacer : (s.headHolds p r q).pacer = s.pacerHolds (s.requesterTenant p r) := by
  unfold State.headHolds
  dsimp only
  split <;> rfl

theorem headHolds_sameLine : (s.headHolds p r q).sameLine = s.sameLine p r q.line := by
  unfold State.headHolds
  dsimp only
  split <;> rfl

theorem headHolds_routed {w : WindowIx} {sides : List Side} (route : s.lookup (s.requesterTenant p r) q.body q.line = .routed w sides) :
    (s.headHolds p r q).pinned = s.pinnedHold w q.body q.line ∧ (s.headHolds p r q).room = s.noRoom p
      ∧ (s.headHolds p r q).short = s.shortPorts (s.windows[w]) sides := by
  unfold State.headHolds
  dsimp only
  rw [route]
  exact ⟨rfl, rfl, rfl⟩

theorem sameLine_false {line : LineAddr} (h : s.sameLine p r line = false) {i : OttIx} (busy : (s.ott.entries[i]).state ≠ .free)
    (line_ : (s.ott.entries[i]).line = line) (tag : Tag) : (s.ott.entries[i]).origin ≠ .ingress p r tag := by
  intro origin
  rw [State.sameLine, List.any_eq_false] at h
  refine h (s.ott.entries[i]) (Vector.mem_toList_iff.mpr (Vector.getElem_mem _)) ?_
  rw [line_, origin]
  rw [bne_iff_ne.mpr busy]
  simp

theorem noRoom_false (h : s.noRoom p = false) : s.ott.serverCount < 992 ∧ (s.stages[p]).ottCount < (s.stages[p]).ottLimit
    ∧ s.ott.serverFree ≠ [] := by
  simp only [State.noRoom, Bool.or_eq_false_iff, decide_eq_false_iff_not, Nat.not_le, List.isEmpty_eq_false_iff] at h
  exact ⟨h.1.1, h.1.2, h.2⟩

theorem shortPorts_nil {win : Window} {sides : List Side} (h : s.shortPorts win sides = []) {x : Side} (mem : x ∈ sides) :
    (sides.filter fun y => (win.leg y).port == (win.leg x).port).length ≤ s.links[(win.leg x).port].sendCredit[s.carriedId (win.leg x)] := by
  by_contra short
  have listed : x ∈ sides.filter fun x => s.legShort win sides x := List.mem_filter.mpr ⟨mem, decide_eq_true (Nat.not_le.mp short)⟩
  rw [List.map_eq_nil_iff.mp h] at listed
  cases listed

theorem pinnedHold_false {w : WindowIx} {body : ReqBody} {line : LineAddr} (h : s.pinnedHold w body line = false) (write : body ≠ .rd)
    (copying : s.copy.state = .copying) (window : s.copy.window = some w) {k : SlotIx} (holds : s.copy.slotHolding line.toNat = some k)
    (pinned : (s.copy.slots[k]).pinned = true) : (s.copy.slots[k]).state = .writing ∧ (s.copy.slots[k]).sent = true := by
  rw [State.pinnedHold, State.underRebuild, isRead_false.mpr write, copying, window, holds] at h
  exact (by simpa using h : _ → _) pinned

end heads

/-- Settles O25: the head taken is one that no condition holds. -/
theorem dispatchTakesNoHeldHead : Obligations.DispatchTakesNoHeldHead := by
  intro s p r q taken
  obtain ⟨head, free⟩ := nextHead_head taken
  obtain ⟨pacer, sameLine, pinned, room, short⟩ := held_false free
  rw [headHolds_pacer] at pacer
  rw [headHolds_sameLine] at sameLine
  refine ⟨head, fun closed => ?_, fun i busy line tag => sameLine_false sameLine busy line tag, fun w sides route => ?_⟩
  · rw [State.pacerHolds, State.requesterTenant, closed] at pacer
    exact absurd pacer (by decide)
  · obtain ⟨pinnedEq, roomEq, shortEq⟩ := headHolds_routed route
    rw [pinnedEq] at pinned
    rw [roomEq] at room
    rw [shortEq] at short
    obtain ⟨pool, limit, list⟩ := noRoom_false room
    exact ⟨pool, limit, list, fun write copying window k holds => pinnedHold_false pinned write copying window holds,
      fun x mem => shortPorts_nil short mem⟩

end Sys2Proof.Machine

/-! PROOF. Dispatch (sections 2.3, 2.4 and 3.4): a head that is answered, and a route along which an entry is allocated and its legs are sent. -/

namespace Sys2Proof.Machine

/-! ### A head leaves its sub-queue (R31, R37) -/

section depart
variable (s : State) (p : PortIx) (r : ReqId)

/-- A freed credit is absorbed above the target, and owed otherwise (R31). -/
theorem freeCredit_eq (e : Requester) (m : PortMode) : e.freeCredit m = { e with
    inForce := if decide (e.target m < e.inForce) then e.inForce - 1 else e.inForce
    owed := if decide (e.target m < e.inForce) then e.owed else e.owed + 1 } := by
  unfold Requester.freeCredit
  by_cases above : e.target m < e.inForce
  · rw [if_pos above, decide_eq_true above]
    rfl
  · rw [if_neg above, decide_eq_false above]
    rfl

theorem departHead_stage : (s.departHead p r).stages[p] = { s.stages[p] with
    lastDispatched := r
    requesters := mapAt (s.stages[p]).requesters r fun _ =>
      { (s.stages[p]).requesters[r] with
        queue := ((s.stages[p]).requesters[r]).queue.tail
        inForce := if decide (((s.stages[p]).requesters[r]).target s.links[p].mode < ((s.stages[p]).requesters[r]).inForce)
          then ((s.stages[p]).requesters[r]).inForce - 1 else ((s.stages[p]).requesters[r]).inForce
        owed := if decide (((s.stages[p]).requesters[r]).target s.links[p].mode < ((s.stages[p]).requesters[r]).inForce)
          then ((s.stages[p]).requesters[r]).owed else ((s.stages[p]).requesters[r]).owed + 1 } } := by
  have left := modRequester_stage s p r fun e => ({ e with queue := e.queue.tail }).freeCredit s.links[p].mode
  have last : (s.departHead p r).stages[p] = { (s.modRequester p r fun e =>
      ({ e with queue := e.queue.tail }).freeCredit s.links[p].mode).stages[p] with lastDispatched := r } := mapAt_get_self _ p _
  have freed := mapAt_congr (v := (s.stages[p]).requesters) (i := r)
    (f := fun e => ({ e with queue := e.queue.tail }).freeCredit s.links[p].mode) (g := fun _ => _) (freeCredit_eq _ s.links[p].mode)
  rw [last, left, freed]
  rfl

theorem departHead_otherPort {j : PortIx} (h : j ≠ p) : (s.departHead p r).stages[j] = s.stages[j] :=
  (mapAt_get_ne _ p j _ (Ne.symm h)).trans (modRequester_otherPort s r _ h)

end depart

section answer
variable {s : State} {p : PortIx} {r : ReqId} {q : Request}

/-- A head answered at dispatch leaves its sub-queue, and its response joins the transmit queue (R35, R37). -/
theorem answerHead_link (k : takesOffers s.links[p].state = true) (status : Status) : (s.answerHead p r q status).links[p] =
    { s.links[p] with txQueue := s.links[p].txQueue ++ [.response ⟨respKind q.body, q.reqId, q.tag, status, none⟩] } := by
  have counted : (s.answerHead p r q status).links = ((s.departHead p r).respond p (isRead q.body) q.reqId q.tag status none).links :=
    countRefused_frame _ _ _ .links (by simp)
  rw [counted]
  exact offer_link (t := s.departHead p r) k _

theorem answerHead_stages (status : Status) : (s.answerHead p r q status).stages = (s.departHead p r).stages :=
  countRefused_frame _ _ _ .stages (by simp)

theorem answerHead_onlyLink (status : Status) : OnlyLinkOf p [.stages, .tenants, .causes] s (s.answerHead p r q status) :=
  (((departHead_frame s p r).onlyLink p (by simp)).mono (by simp)).trans
    ((offer_onlyLink _ p _).widen.trans (((countRefused_frame _ _ status).onlyLink p (by simp)).mono (by simp)))

/-- A refusal counted in the tenant's record alone raises no cause. -/
theorem answerHead_denied_onlyLink : OnlyLinkOf p [.stages, .tenants] s (s.answerHead p r q .denied) :=
  (((departHead_frame s p r).onlyLink p (by simp)).mono (by simp)).trans
    ((offer_onlyLink _ p _).widen.trans (((modTenant_frame _ _ _).onlyLink p (by simp)).mono (by simp)))

theorem answerHead_lost_onlyLink : OnlyLinkOf p [.stages] s (s.answerHead p r q .lost) :=
  ((departHead_frame s p r).onlyLink p (by simp)).trans
    (show OnlyLinkOf p [.stages] _ ((s.departHead p r).respond p _ _ _ _ _) from (offer_onlyLink _ p _).widen)

/-- The dispatcher takes the head that no condition holds. -/
theorem exec_dispatch (h : s.running) (takes : takesRequests s.links[p].mode = true) (next : s.nextHead p = some (r, q)) :
    exec (.dispatch p) s = .next (s.takeHead p r q) := by
  show execDispatch p s = _
  rw [execDispatch, event_running h, if_pos takes, next]

end answer

/-- Settles O23: each answer of the lookup, with the response, the credit and the counts it brings. -/
theorem dispatchAnswersNoroute : Obligations.DispatchAnswersNoroute := by
  intro s p r q h takes offers next k e absorbed answered
  have row := exec_dispatch h takes next
  have all (status : Status) : answered status (s.answerHead p r q status) := by
    refine ⟨answerHead_link offers status, ?_, fun j hj => ?_⟩ <;> rw [answerHead_stages]
    · exact departHead_stage s p r
    · exact departHead_otherPort s p r hj
  refine ⟨fun none => ⟨s.answerHead p r q .noroute, ?_, all _, rfl, raise_pending _ _ _, answerHead_onlyLink _⟩, fun w found => ?_⟩
  · rw [row, State.takeHead, none]
  intro win
  refine ⟨fun write readOnly => ⟨s.answerHead p r q .denied, ?_, all _, rfl, answerHead_denied_onlyLink⟩,
    fun allowed primary mirror => ⟨s.answerHead p r q .lost, ?_, all _, answerHead_lost_onlyLink⟩⟩
  · rw [row, State.takeHead, lookup_denied found write readOnly]
  · have unserved : ∀ x, (win.leg x).state ≠ .inService := (forall_side_iff .primary).mpr ⟨primary, mirror⟩
    have asked : ¬ (q.body ≠ .rd ∧ win.access = .readOnly) := fun ⟨write, readOnly⟩ =>
      allowed.elim write fun k => by rw [readOnly] at k; cases k
    rw [row, State.takeHead, lookup_lost found asked unserved]

/-! ### Legs sent (R58, R85, R86) -/

/-- The legs of `sides` that lie on port `q`. -/
def State.legsOn (s : State) (i : OttIx) (sides : List Side) (q : PortIx) : List Side :=
  sides.filter fun x => ((s.ott.entries[i]).leg x).port == q

/-- The legs `sides` of entry `i` are offered and counted between `s` and `t`, those on a port that `armed` names as its sample. -/
structure LegsOffered (s : State) (i : OttIx) (armed : PortIx → Bool) (sides : List Side) (t : State) : Prop where
  link : ∀ q : PortIx, takesOffers s.links[q].state = true →
    t.links[q] = { s.links[q] with
      txQueue := s.links[q].txQueue ++ (s.legsOn i sides q).map fun x => .request (s.legRequest i x)
      sendCredit := t.links[q].sendCredit }
  credit : ∀ q : PortIx, takesOffers s.links[q].state = true → ∀ r : ReqId, t.links[q].sendCredit[r] =
    s.links[q].sendCredit[r] - ((s.legsOn i sides q).filter fun x => ((s.ott.entries[i]).leg x).reqId == r).length
  deaf : ∀ q : PortIx, takesOffers s.links[q].state = false → t.links[q] = s.links[q]
  monitor : ∀ q : PortIx, t.monitors[q] = { s.monitors[q] with
    inFlight := (s.monitors[q]).inFlight + (s.legsOn i sides q).length
    sample := if armed q && !(s.legsOn i sides q).isEmpty then .outstanding else (s.monitors[q]).sample
    sampleStart := if armed q && !(s.legsOn i sides q).isEmpty then s.time else (s.monitors[q]).sampleStart }
  contrib : ∀ (j : TenantIx) (q : PortIx), (t.contrib[j])[q] = { (s.contrib[j])[q] with
    inFlight := ((s.contrib[j])[q]).inFlight + if j = (s.ott.entries[i]).tenant then (s.legsOn i sides q).length else 0 }
  frame : SameExcept [.links, .monitors, .contrib] s t

namespace LegsOffered
variable {s t u : State} {i : OttIx} {armed : PortIx → Bool} {l m : List Side}

theorem nil : LegsOffered s i armed [] s where
  link q _ := by simp [State.legsOn]
  credit q _ r := rfl
  deaf q _ := rfl
  monitor q := by simp [State.legsOn]
  contrib j q := by simp [State.legsOn]
  frame := .rfl_

theorem legsOn_append (q : PortIx) : s.legsOn i (l ++ m) q = s.legsOn i l q ++ s.legsOn i m q := List.filter_append _ _

/-- Legs sent one after the other are sent together. -/
theorem trans (h : LegsOffered s i armed l t) (k : LegsOffered t i armed m u) : LegsOffered s i armed (l ++ m) u := by
  have ott : t.ott = s.ott := h.frame .ott (by simp)
  have windows : t.windows = s.windows := h.frame .windows (by simp)
  have time : t.time = s.time := h.frame .time (by simp)
  have on (q : PortIx) : t.legsOn i m q = s.legsOn i m q := by rw [State.legsOn, State.legsOn, ott]
  have request (x : Side) : t.legRequest i x = s.legRequest i x := by simp only [State.legRequest, ott, windows]
  have takes (q : PortIx) (k : takesOffers s.links[q].state = true) : takesOffers t.links[q].state = true := by rw [h.link q k]; exact k
  refine ⟨fun q offers => ?_, fun q offers r => ?_, fun q deaf => ?_, fun q => ?_, fun j q => ?_, h.frame.trans k.frame⟩
  · rw [k.link q (takes q offers), h.link q offers, on, legsOn_append, List.map_append, ← List.append_assoc]
    simp only [request]
  · rw [k.credit q (takes q offers) r, h.credit q offers r, on, legsOn_append, List.filter_append, List.length_append, ott, Nat.sub_sub]
  · rw [k.deaf q (by rw [h.deaf q deaf]; exact deaf), h.deaf q deaf]
  · rw [k.monitor q, h.monitor q, on, time, legsOn_append, List.length_append, Nat.add_assoc]
    cases armed q <;> cases s.legsOn i l q <;> cases s.legsOn i m q <;> rfl
  · rw [k.contrib j q, h.contrib j q, on, ott, legsOn_append, List.length_append]
    split <;> simp [Nat.add_assoc]

end LegsOffered

section send
variable (s : State) (i : OttIx) (x : Side)

/-- A leg sent, its sample taken. -/
def State.sendSampled : State := (s.sendLeg i x).takeSample i x

theorem sendSampled_links : (s.sendSampled i x).links = (s.offer ((s.ott.entries[i]).leg x).port (.request (s.legRequest i x))).links :=
  takeSample_frame (s.sendLeg i x) i x .links (by simp)

theorem sendSampled_contrib : (s.sendSampled i x).contrib =
    mapAt s.contrib (s.ott.entries[i]).tenant fun row => mapAt row ((s.ott.entries[i]).leg x).port fun c =>
      { c with inFlight := c.inFlight + 1 } :=
  takeSample_frame (s.sendLeg i x) i x .contrib (by simp)

theorem sendSampled_monitors : (s.sendSampled i x).monitors = mapAt s.monitors ((s.ott.entries[i]).leg x).port fun m =>
    { m with
      inFlight := m.inFlight + 1
      sample := if ((s.ott.entries[i]).leg x).sample then .outstanding else m.sample
      sampleStart := if ((s.ott.entries[i]).leg x).sample then s.time else m.sampleStart } := by
  have sent : (s.sendLeg i x).monitors = mapAt s.monitors ((s.ott.entries[i]).leg x).port fun m => { m with inFlight := m.inFlight + 1 } := rfl
  have leg : ((s.sendLeg i x).ott.entries[i]).leg x = (s.ott.entries[i]).leg x := rfl
  rw [State.sendSampled, State.takeSample, leg]
  by_cases sample : ((s.ott.entries[i]).leg x).sample = true
  · rw [if_pos sample, State.modMonitor, sent, mapAt_mapAt, sample]
    rfl
  · rw [if_neg sample, sent, Bool.eq_false_iff.mpr sample]
    rfl

variable {s i x}

/-- The ports of one leg. -/
theorem legsOn_one (q : PortIx) : s.legsOn i [x] q = if ((s.ott.entries[i]).leg x).port = q then [x] else [] := by
  rw [State.legsOn, List.filter_singleton, beq_eq_decide, Bool.cond_decide]

/-- One leg is offered and counted. -/
theorem sendSampled_offered {armed : PortIx → Bool} (sample : ((s.ott.entries[i]).leg x).sample = armed ((s.ott.entries[i]).leg x).port) :
    LegsOffered s i armed [x] (s.sendSampled i x) := by
  obtain ⟨p, hp⟩ : ∃ p, p = ((s.ott.entries[i]).leg x).port := ⟨_, rfl⟩
  have links := sendSampled_links s i x
  have monitors := sendSampled_monitors s i x
  have contrib := sendSampled_contrib s i x
  rw [sample] at monitors
  rw [← hp] at links monitors contrib
  have frame := ((sendLeg_frame s i x).trans ((takeSample_frame _ i x).mono (by simp)))
  have elsewhere (q : PortIx) (there : p ≠ q) : (s.sendSampled i x).links[q] = s.links[q] := by
    rw [links]
    exact mapAt_get_ne _ p q _ there
  refine ⟨fun q offers => ?_, fun q offers r => ?_, fun q deaf => ?_, fun q => ?_, fun j q => ?_, frame⟩
  · rw [legsOn_one, ← hp]
    by_cases here : p = q
    · subst here
      rw [if_pos rfl, links, offer_link offers]
      rfl
    · rw [if_neg here, elsewhere q here]
      simp
  · rw [legsOn_one, ← hp]
    by_cases here : p = q
    · subst here
      rw [if_pos rfl, links, offer_link offers]
      show (mapAt s.links[p].sendCredit _ _)[r.1] = _
      rw [mapAt_get, show (s.legRequest i x).reqId = ((s.ott.entries[i]).leg x).reqId from rfl, List.filter_singleton, beq_eq_decide, Bool.cond_decide]
      split <;> rfl
    · rw [if_neg here, elsewhere q here]
      rfl
  · by_cases here : p = q
    · subst here
      rw [links]
      exact (modLink_get s p _).trans (if_neg (by rw [deaf]; decide))
    · exact elsewhere q here
  · rw [legsOn_one, ← hp, monitors]
    by_cases here : p = q
    · subst here
      rw [if_pos rfl, show (mapAt s.monitors p _)[p] = _ from mapAt_get_self _ p _]
      simp
    · rw [if_neg here, show (mapAt s.monitors p _)[q] = _ from mapAt_get_ne _ p q _ here]
      simp
  · rw [legsOn_one, ← hp, contrib]
    by_cases own : (s.ott.entries[i]).tenant = j
    · subst own
      rw [if_pos rfl, show (mapAt s.contrib _ _)[(s.ott.entries[i]).tenant] = _ from mapAt_get_self _ _ _]
      by_cases here : p = q
      · subst here
        rw [if_pos rfl]
        exact mapAt_get_self _ p _
      · rw [if_neg here]
        exact mapAt_get_ne _ p q _ here
    · rw [if_neg (Ne.symm own), show (mapAt s.contrib _ _)[j] = _ from mapAt_get_ne _ _ j _ own]
      rfl

end send

/-- The legs of a route are sent one after the other. -/
theorem sendAll_offered {i : OttIx} {armed : PortIx → Bool} (sides : List Side) (s : State)
    (sample : ∀ x ∈ sides, ((s.ott.entries[i]).leg x).sample = armed ((s.ott.entries[i]).leg x).port) :
    LegsOffered s i armed sides (sides.foldl (fun s x => s.sendSampled i x) s) := by
  induction sides generalizing s with
  | nil => exact .nil
  | cons x sides ih =>
    have one := sendSampled_offered (sample x List.mem_cons_self)
    have ott : (s.sendSampled i x).ott = s.ott := one.frame .ott (by simp)
    exact one.trans (ih _ fun y hy => by rw [ott]; exact sample y (List.mem_cons_of_mem _ hy))

end Sys2Proof.Machine

/-! PROOF. The dispatch of a route: the entry it allocates and the legs it sends (sections 2.3, 2.4 and 3.4). -/

namespace Sys2Proof.Machine

/-! ### The entry is allocated (R58, R64 to R66) -/

section allocate
variable (s : State) (i : OttIx) (rest : List OttIx) (o : Origin) (k : TenantIx) (w : WindowIx) (body : ReqBody) (line : LineAddr)
  (sides : List Side)

theorem newEntry_leg (x : Side) : (s.newEntry i o k w body line sides).leg x =
    if x ∈ sides then s.newLeg w k (isRead body) x else .none := by
  cases x <;> simp [State.newEntry, OttEntry.leg]

theorem allocate_entries : (s.allocate i rest o k w body line sides).ott.entries =
    mapAt s.ott.entries i fun _ => s.newEntry i o k w body line sides := by cases o <;> rfl

theorem allocate_entry : (s.allocate i rest o k w body line sides).ott.entries[i] = s.newEntry i o k w body line sides := by
  rw [allocate_entries]
  exact mapAt_get_self _ i _

theorem allocate_other {j : OttIx} (h : j ≠ i) : (s.allocate i rest o k w body line sides).ott.entries[j] = s.ott.entries[j] := by
  rw [allocate_entries]
  exact mapAt_get_ne _ i j _ (Ne.symm h)

theorem allocate_windows : (s.allocate i rest o k w body line sides).windows =
    mapAt s.windows w fun win => { win with outstanding := win.outstanding + 1 } := by cases o <;> rfl

theorem allocate_ring : (s.allocate i rest o k w body line sides).ring = { s.ring with
    watch := s.ring.watch ++ s.watchEntries i ((s.ott.entries[i]).gen + 1) w body line sides } := by cases o <;> rfl

/-- The route's legs carry the sample mark on an ARMED port. -/
theorem newLeg_sample (x : Side) : (s.newLeg w k (isRead body) x).sample =
    decide (body = .rd ∧ (s.monitors[((s.windows[w]).leg x).port]).sample = .armed) := by
  show (isRead body && _ == _) = _
  cases body <;> simp [isRead, beq_eq_decide]

/-- The state after the legs of a new entry are sent. -/
def State.routed : State := sides.foldl (fun s x => s.sendSampled i x) (s.allocate i rest o k w body line sides)

/-- The legs of a new entry are offered and counted. -/
theorem routed_offered : LegsOffered (s.allocate i rest o k w body line sides) i
    (fun q => decide (body = .rd ∧ (s.monitors[q]).sample = .armed)) sides (s.routed i rest o k w body line sides) := by
  refine sendAll_offered sides _ fun x hx => ?_
  rw [allocate_entry, newEntry_leg, if_pos hx]
  exact newLeg_sample s k w body x

variable {s i rest o k w body line sides}

/-- A leg's request carries what its dispatch routed. -/
theorem allocate_legRequest {x : Side} (hx : x ∈ sides) : (s.allocate i rest o k w body line sides).legRequest i x =
    ⟨s.carriedId ((s.windows[w]).leg x), forwardTag i ((s.ott.entries[i]).gen + 1) x, (s.windows[w]).targetLine x line.toNat, body⟩ := by
  have window : ((s.allocate i rest o k w body line sides).windows[w]).targetLine x line.toNat = (s.windows[w]).targetLine x line.toNat := by
    rw [allocate_windows, show (mapAt s.windows w _)[w] = _ from mapAt_get_self _ w _]
    cases x <;> rfl
  have leg := newEntry_leg s i o k w body line sides x
  rw [if_pos hx] at leg
  rw [State.legRequest]
  simp only [allocate_entry, leg]
  exact congrArg (fun l => (⟨_, _, l, _⟩ : Request)) window

theorem allocate_legsOn (q : PortIx) : (s.allocate i rest o k w body line sides).legsOn i sides q =
    sides.filter fun x => ((s.windows[w]).leg x).port == q := by
  refine List.filter_congr fun x hx => ?_
  rw [allocate_entry, newEntry_leg, if_pos hx]
  rfl

end allocate

/-! ### What the dispatch leaves -/

section routed
variable {s : State} {i : OttIx} {rest : List OttIx} {o : Origin} {k : TenantIx} {w : WindowIx} {body : ReqBody} {line : LineAddr}
  {sides : List Side}

theorem routed_part (f : Part) (h : f ∉ [Part.links, .monitors, .contrib]) :
    f.same (s.allocate i rest o k w body line sides) (s.routed i rest o k w body line sides) :=
  (routed_offered s i rest o k w body line sides).frame f h

/-- The legs of a route are sent as LegsSent says. -/
theorem routed_legsSent : s.LegsSent i k w sides body line (s.routed i rest o k w body line sides) := by
  have offered := routed_offered s i rest o k w body line sides
  have ott : (s.routed i rest o k w body line sides).ott = _ := routed_part .ott (by simp)
  have kept := allocate_frame s i rest o k w body line sides
  have links : (s.allocate i rest o k w body line sides).links = s.links := kept .links (by simp)
  have monitors : (s.allocate i rest o k w body line sides).monitors = s.monitors := kept .monitors (by simp)
  have contrib : (s.allocate i rest o k w body line sides).contrib = s.contrib := kept .contrib (by simp)
  have time : (s.allocate i rest o k w body line sides).time = s.time := kept .time (by simp)
  refine ⟨fun x hx => ?_, fun x hx => ?_, fun q takes => ⟨?_, fun r => ?_⟩, fun q deaf => ?_, fun q => ?_, fun j q => ?_⟩
  · rw [ott, allocate_entry, newEntry_leg, if_pos hx]
    exact congrArg (fun b => { s.newLeg w k (isRead body) x with sample := b }) (newLeg_sample s k w body x)
  · rw [ott, allocate_entry, newEntry_leg, if_neg hx]
    rfl
  · have link := offered.link q (by rw [links]; exact takes)
    rw [links, allocate_legsOn] at link
    rw [link]
    refine congrArg (fun m => { s.links[q] with
      txQueue := s.links[q].txQueue ++ m, sendCredit := (s.routed i rest o k w body line sides).links[q].sendCredit })
      (List.map_congr_left fun x hx => ?_)
    rw [allocate_legRequest (List.mem_filter.mp hx).1]
  · have credit := offered.credit q (by rw [links]; exact takes) r
    rw [links, allocate_legsOn] at credit
    rw [credit]
    refine congrArg (fun n => s.links[q].sendCredit[r] - List.length n) (List.filter_congr fun x hx => ?_)
    rw [allocate_entry, newEntry_leg, if_pos (List.mem_filter.mp hx).1]
    rfl
  · rw [offered.deaf q (by rw [links]; exact deaf), links]
  · have monitor := offered.monitor q
    rw [monitors, allocate_legsOn, time] at monitor
    exact monitor
  · have count := offered.contrib j q
    rw [contrib, allocate_legsOn, allocate_entry] at count
    exact count

/-- LegsSent speaks of four parts of the state it ends in. -/
theorem LegsSent.of_parts {t u : State} (h : s.LegsSent i k w sides body line t) (ott : u.ott = t.ott) (links : u.links = t.links)
    (monitors : u.monitors = t.monitors) (contrib : u.contrib = t.contrib) : s.LegsSent i k w sides body line u := by
  simpa only [State.LegsSent, ott, links, monitors, contrib] using h

/-- The write of a new entry is put to the copy engine, which changes its own parts alone (R154). -/
def State.routedSeen (s : State) (i : OttIx) (rest : List OttIx) (o : Origin) (k : TenantIx) (w : WindowIx) (body : ReqBody)
    (line : LineAddr) (sides : List Side) : State :=
  if isRead body then s.routed i rest o k w body line sides else (s.routed i rest o k w body line sides).engineSeesWrite w line.toNat

theorem dispatchRoute_ingress {p : PortIx} {r : ReqId} {tag : Tag} (free : s.ott.serverFree = i :: rest) :
    s.dispatchRoute (.ingress p r tag) k w body line sides = s.routedSeen i rest (.ingress p r tag) k w body line sides := by
  rw [State.dispatchRoute]
  simp only [free]
  rfl

theorem dispatchRoute_ring {job : FabricJob} (ring : ∀ n, job ≠ .copySlot n) (free : s.ott.fabricFree = i :: rest) :
    s.dispatchRoute (.fabric job) k w body line sides = s.routedSeen i rest (.fabric job) k w body line sides := by
  rw [State.dispatchRoute]
  simp only [free]
  cases job with
  | ringRecord => rfl
  | ringIndex => rfl
  | copySlot n => exact absurd rfl (ring n)

theorem dispatchRoute_copy {n : SlotIx} (free : s.ott.fabricFree = i :: rest) :
    s.dispatchRoute (.fabric (.copySlot n)) k w body line sides = s.routed i rest (.fabric (.copySlot n)) k w body line sides := by
  rw [State.dispatchRoute]
  simp only [free]
  rfl

theorem routedSeen_frame : SameExcept [.copy, .fabric] (s.routed i rest o k w body line sides) (s.routedSeen i rest o k w body line sides) :=
  .ite .rfl_ (engineSeesWrite_frame _ w line.toNat)

/-- A change of `t` that leaves the copy engine and the pending fabric requests alone does not change what the engine does of a write. -/
theorem engineSeesWrite_congr {s t : State} (copy : t.copy = s.copy) (fabric : t.fabric = s.fabric) (w : WindowIx) (line : Nat) :
    (t.engineSeesWrite w line).fabric = (s.engineSeesWrite w line).fabric
      ∧ (t.engineSeesWrite w line).copy = (s.engineSeesWrite w line).copy := by
  have redone (k : SlotIx) : ((t.withdraw k).redo k).fabric = ((s.withdraw k).redo k).fabric
      ∧ ((t.withdraw k).redo k).copy = ((s.withdraw k).redo k).copy := by
    simp only [State.redo, State.withdraw, State.issueCopyRead, State.issueFabric, State.modSlot, copy, fabric, and_self]
  unfold State.engineSeesWrite
  rw [copy]
  by_cases here : s.copy.state = .copying ∧ s.copy.window = some w
  · rw [if_pos here, if_pos here]
    split
    · exact ⟨fabric, copy⟩
    · dsimp only
      split
      · exact ⟨fabric, by rw [State.modSlot, copy]; rfl⟩
      · exact redone _
      · exact ⟨fabric, copy⟩
  · rw [if_neg here, if_neg here]
    exact ⟨fabric, copy⟩

section seen
variable {t : State} (seen : SameExcept [.copy, .fabric] (s.routed i rest o k w body line sides) t)
include seen

/-- What a dispatch leaves, whatever the copy engine does of it. -/
theorem seen_ott : t.ott = (s.allocate i rest o k w body line sides).ott := (seen .ott (by simp)).trans (routed_part .ott (by simp))

theorem seen_legsSent : s.LegsSent i k w sides body line t :=
  LegsSent.of_parts routed_legsSent (seen .ott (by simp)) (seen .links (by simp)) (seen .monitors (by simp)) (seen .contrib (by simp))

theorem seen_entry : t.ott.entries[i] = s.newEntry i o k w body line sides := by rw [seen_ott seen, allocate_entry]

theorem seen_other {j : OttIx} (h : j ≠ i) : t.ott.entries[j] = s.ott.entries[j] := by
  rw [seen_ott seen]
  exact allocate_other s i rest o k w body line sides h

theorem seen_windows : t.windows = mapAt s.windows w fun win => { win with outstanding := win.outstanding + 1 } :=
  ((seen .windows (by simp)).trans (routed_part .windows (by simp))).trans (allocate_windows s i rest o k w body line sides)

theorem seen_stages : t.stages = (s.allocate i rest o k w body line sides).stages :=
  (seen .stages (by simp)).trans (routed_part .stages (by simp))

theorem seen_parts : SameExcept routeParts s t :=
  (((allocate_frame s i rest o k w body line sides).mono (by decide)).trans
    ((routed_offered s i rest o k w body line sides).frame.mono (by decide))).trans (seen.mono (by decide))

end seen

/-- A read leaves the engine and the pending fabric requests alone. -/
theorem routed_engine : (s.routed i rest o k w body line sides).copy = s.copy ∧ (s.routed i rest o k w body line sides).fabric = s.fabric := by
  have kept := allocate_frame s i rest o k w body line sides
  exact ⟨(routed_part .copy (by simp)).trans (kept .copy (by simp)), (routed_part .fabric (by simp)).trans (kept .fabric (by simp))⟩

theorem routedSeen_read (read : body = .rd) : (s.routedSeen i rest o k w body line sides).fabric = s.fabric
    ∧ (s.routedSeen i rest o k w body line sides).copy = s.copy := by
  rw [State.routedSeen, if_pos (isRead_iff.mpr read)]
  exact routed_engine.symm

theorem routedSeen_write (write : body ≠ .rd) :
    (s.routedSeen i rest o k w body line sides).fabric = (s.engineSeesWrite w line.toNat).fabric
      ∧ (s.routedSeen i rest o k w body line sides).copy = (s.engineSeesWrite w line.toNat).copy := by
  rw [State.routedSeen, if_neg fun read => write (isRead_iff.mp read)]
  exact engineSeesWrite_congr routed_engine.1 routed_engine.2 w line.toNat

end routed

/-- Settles O24: a routed head leaves its sub-queue, and its dispatch is that of a route from there. -/
theorem dispatchAllocatesEntry : Obligations.DispatchAllocatesEntry := by
  intro s p r q w sides i rest h takes next route free k e absorbed
  obtain ⟨d, hd⟩ : ∃ d, d = s.departHead p r := ⟨_, rfl⟩
  have row : exec (.dispatch p) s = .next (d.routedSeen i rest (.ingress p r q.tag) k w q.body q.line sides) := by
    rw [exec_dispatch h takes next, State.takeHead, route, hd]
    exact congrArg Host.Outcome.next (dispatchRoute_ingress (s := s.departHead p r) free)
  have seen := routedSeen_frame (s := d) (i := i) (rest := rest) (o := .ingress p r q.tag) (k := k) (w := w) (body := q.body)
    (line := q.line) (sides := sides)
  have table : (d.allocate i rest (.ingress p r q.tag) k w q.body q.line sides).stages =
    mapAt d.stages p fun g => { g with ottCount := g.ottCount + 1 } := rfl
  subst hd
  have sent : s.LegsSent i k w sides q.body q.line _ := seen_legsSent (s := s.departHead p r) seen
  refine ⟨_, row, ?_, fun j hj => ?_, ?_, sent, fun j hj => (seen_other seen hj).trans ?_, ?_, (seen_windows seen).trans ?_, fun write => ?_,
    fun read => routedSeen_read read, ((departHead_frame s p r).mono (by simp)).trans (seen_parts seen)⟩
  · rw [seen_stages seen, table]
    exact (mapAt_get_self _ p _).trans (congrArg (fun g => { g with ottCount := g.ottCount + 1 }) (departHead_stage s p r))
  · rw [seen_stages seen, table]
    exact (mapAt_get_ne _ p j _ (Ne.symm hj)).trans (departHead_otherPort s p r hj)
  · rw [seen_entry seen]
    rfl
  · rfl
  · rw [seen_ott seen]
    rfl
  · rfl
  · have put := routedSeen_write (s := s.departHead p r) (i := i) (rest := rest) (o := .ingress p r q.tag) (k := k) (w := w)
      (line := q.line) (sides := sides) write
    have same := engineSeesWrite_congr (s := s) (t := s.departHead p r) rfl rfl w q.line.toNat
    exact ⟨put.1.trans same.1, put.2.trans same.2⟩

/-- A fabric request leaves the pending list, and a copy slot's is marked as sent. -/
theorem markSent_left (s : State) (q : FabricReq) : ∃ c : CopyEngine, ({ s with fabric := s.fabric.erase q } : State).markSent q.job =
    { s with fabric := s.fabric.erase q, copy := c } := by
  cases q.job with
  | copySlot n => exact ⟨_, rfl⟩
  | ringRecord => exact ⟨s.copy, rfl⟩
  | ringIndex => exact ⟨s.copy, rfl⟩

/-- What the dispatch of a routed fabric request leaves, whatever the copy engine does of it. -/
theorem fabricRouted {s t : State} {q : FabricReq} {w : WindowIx} {sides : List Side} {i : OttIx} {rest : List OttIx}
    {left : List FabricReq} {c : CopyEngine} (seen : SameExcept [.copy, .fabric]
      (({ s with fabric := left, copy := c } : State).routed i rest (.fabric q.job) 0 w q.body q.line sides) t) :
    t.ott.entries[i] = { t.ott.entries[i] with
        state := .live, gen := (s.ott.entries[i]).gen + 1, origin := .fabric q.job, tenant := 0, window := w, body := q.body
        line := q.line, reissued := false, readData := none }
      ∧ s.LegsSent i 0 w sides q.body q.line t
      ∧ (∀ j : OttIx, j ≠ i → t.ott.entries[j] = s.ott.entries[j])
      ∧ t.ott = { s.ott with entries := t.ott.entries, fabricFree := rest, fabricCount := s.ott.fabricCount + 1 }
      ∧ t.windows = mapAt s.windows w (fun win => { win with outstanding := win.outstanding + 1 })
      ∧ SameExcept [.links, .windows, .ott, .monitors, .contrib, .ring, .fabric, .copy] s t := by
  have sent : s.LegsSent i 0 w sides q.body q.line t := seen_legsSent (s := { s with fabric := left, copy := c }) seen
  have other (j : OttIx) (hj : j ≠ i) : t.ott.entries[j] = s.ott.entries[j] :=
    seen_other (s := { s with fabric := left, copy := c }) seen hj
  have windows : t.windows = mapAt s.windows w (fun win => { win with outstanding := win.outstanding + 1 }) :=
    seen_windows (s := { s with fabric := left, copy := c }) seen
  have stages : t.stages = s.stages := seen_stages seen
  have parts := seen_parts seen
  refine ⟨?_, sent, other, ?_, windows, fun f hf => ?_⟩
  · rw [seen_entry seen]
    rfl
  · rw [seen_ott seen]
    rfl
  · by_cases stage : f = .stages
    · rw [stage]
      exact stages
    · have kept := parts f (by simp_all [routeParts])
      cases f
      case fabric => exact absurd (by simp) hf
      case copy => exact absurd (by simp) hf
      all_goals exact kept

/-- Settles O27: a routed fabric request allocates its entry, and a record write without a window stalls the ring writer. -/
theorem fabricRequestDispatched : Obligations.FabricRequestDispatched := by
  intro s q h next left
  have row : exec .fabricDispatch s = .next (s.takeFabric q) := by
    show execFabricDispatch s = _
    rw [execFabricDispatch, event_running h, next]
  refine ⟨fun w sides i rest route free => ?_, fun job none => ?_⟩
  · obtain ⟨c, marked⟩ := markSent_left s q
    have taken : exec .fabricDispatch s = .next (({ s with fabric := s.fabric.erase q, copy := c } : State).dispatchRoute (.fabric q.job) 0 w
        q.body q.line sides) := by
      rw [row, State.takeFabric, route]
      dsimp only
      rw [marked]
    by_cases slot : ∃ n, q.job = .copySlot n
    · obtain ⟨n, job⟩ := slot
      have along := dispatchRoute_copy (s := { s with fabric := s.fabric.erase q, copy := c }) (k := 0) (w := w) (body := q.body)
        (line := q.line) (sides := sides) (n := n) free
      rw [← job] at along
      rw [along] at taken
      have engine : c = { s.copy with slots := mapAt s.copy.slots n fun slot => { slot with sent := true } } := by
        rw [job] at marked
        exact congrArg State.copy marked.symm
      have leaves := fabricRouted (s := s) (q := q) (left := s.fabric.erase q) (c := c) (w := w) (sides := sides) (i := i) (rest := rest) .rfl_
      obtain ⟨copy, fabric⟩ := routed_engine (s := { s with fabric := s.fabric.erase q, copy := c }) (i := i) (rest := rest)
        (o := .fabric q.job) (k := 0) (w := w) (body := q.body) (line := q.line) (sides := sides)
      generalize State.routed _ _ _ _ _ _ _ _ _ = t at taken leaves copy fabric
      obtain ⟨entry, sent, other, ott, windows, parts⟩ := leaves
      refine ⟨t, taken, entry, sent, other, ott, windows, fun m same => ⟨fabric, ?_⟩, fun none => absurd job (none n),
        fun none => absurd job (none n), parts⟩
      cases job.symm.trans same
      exact copy.trans engine
    · have ring (n : SlotIx) : q.job ≠ .copySlot n := fun job => slot ⟨n, job⟩
      have along := dispatchRoute_ring (s := { s with fabric := s.fabric.erase q, copy := c }) (k := 0) (w := w) (body := q.body)
        (line := q.line) (sides := sides) ring free
      rw [along] at taken
      have engine : c = s.copy := by
        cases job : q.job with
        | copySlot n => exact absurd job (ring n)
        | ringRecord => rw [job] at marked; exact congrArg State.copy marked.symm
        | ringIndex => rw [job] at marked; exact congrArg State.copy marked.symm
      have leaves := fabricRouted (s := s) (q := q) (left := s.fabric.erase q) (c := c) (w := w) (sides := sides) (i := i) (rest := rest)
        routedSeen_frame
      have write := routedSeen_write (s := { s with fabric := s.fabric.erase q, copy := c }) (i := i) (rest := rest) (o := .fabric q.job)
        (k := 0) (w := w) (body := q.body) (line := q.line) (sides := sides)
      have read := routedSeen_read (s := { s with fabric := s.fabric.erase q, copy := c }) (i := i) (rest := rest) (o := .fabric q.job)
        (k := 0) (w := w) (body := q.body) (line := q.line) (sides := sides)
      generalize State.routedSeen _ _ _ _ _ _ _ _ _ = t at taken leaves write read
      subst engine
      obtain ⟨entry, sent, other, ott, windows, parts⟩ := leaves
      exact ⟨t, taken, entry, sent, other, ott, windows, fun m same => absurd same (ring m), fun _ => write, fun _ => read, parts⟩
  · refine ⟨(left.countRefused 0 .noroute).stallRing .record, ?_, rfl, rfl, rfl, raise_pending _ _ _, rfl, rfl, rfl, rfl⟩
    rw [row, State.takeFabric, none, job]
    rfl

end Sys2Proof.Machine

/-! PROOF. What metering and a fabric request's report rest on: parts that a settlement leaves alone (sections 4.7, 5.5 and 6.5). -/

namespace Sys2Proof.Machine

/-! ### The parts that metering rests on -/

/-- Two states in which the meter block and the pacers do the same: tenants, pacers, cards, profiles, time and every congestion level agree. -/
structure SamePacing (s t : State) : Prop where
  tenants : t.tenants = s.tenants
  pacers : t.pacers = s.pacers
  cards : t.cards = s.cards
  profiles : t.profiles = s.profiles
  time : t.time = s.time
  congestion : ∀ k, t.congestionLevel k = s.congestionLevel k

namespace SamePacing
variable {s t u : State} (h : SamePacing s t) (k : TenantIx)

theorem rfl_ : SamePacing s s := ⟨rfl, rfl, rfl, rfl, rfl, fun _ => rfl⟩

theorem symm (h : SamePacing s t) : SamePacing t s :=
  ⟨h.tenants.symm, h.pacers.symm, h.cards.symm, h.profiles.symm, h.time.symm, fun k => (h.congestion k).symm⟩

theorem trans (h : SamePacing s t) (l : SamePacing t u) : SamePacing s u :=
  ⟨l.tenants.trans h.tenants, l.pacers.trans h.pacers, l.cards.trans h.cards, l.profiles.trans h.profiles, l.time.trans h.time,
    fun k => (l.congestion k).trans (h.congestion k)⟩

/-- Whatever leaves those parts and the contribution table alone paces alike. -/
theorem of_frame {parts : List Part} (frame : SameExcept parts s t) (none : ∀ f ∈ [Part.tenants, .pacers, .cards, .profiles, .time, .contrib],
    f ∉ parts) : SamePacing s t := by
  have contrib : t.contrib = s.contrib := frame .contrib (none _ (by decide))
  exact ⟨frame .tenants (none _ (by decide)), frame .pacers (none _ (by decide)), frame .cards (none _ (by decide)),
    frame .profiles (none _ (by decide)), frame .time (none _ (by decide)),
    fun k => by rw [State.congestionLevel, State.congestionLevel, contrib]⟩

include h

theorem modTenant (f : Tenant → Tenant) : SamePacing (s.modTenant k f) (t.modTenant k f) :=
  { h with tenants := by rw [State.modTenant_tenants, State.modTenant_tenants, h.tenants] }

theorem modPacer (f : Pacer → Pacer) : SamePacing (s.modPacer k f) (t.modPacer k f) :=
  { h with pacers := congrArg (fun v => mapAt v k f) h.pacers }

theorem raise (c : Cause) (d : BitVec 16) : SamePacing (s.raise c d) (t.raise c d) := { h with }

theorem widthsAt (n : Nat) : t.widthsAt k n = s.widthsAt k n := by
  simp only [State.widthsAt, h.profiles, h.tenants]

theorem timer (n : Nat) : t.timer n = s.timer n := by rw [State.timer, State.timer, h.time]

theorem raiseHighest : SamePacing (s.raiseHighest k) (t.raiseHighest k) := by
  rw [State.raiseHighest, State.raiseHighest, h.pacers]
  exact h.modTenant k _

theorem beginOpen : SamePacing (s.beginOpen k) (t.beginOpen k) := by
  rw [State.beginOpen, State.beginOpen]
  simp only [h.widthsAt, h.timer]
  exact (h.modPacer k _).raiseHighest k

theorem beginClosed : SamePacing (s.beginClosed k) (t.beginClosed k) := by
  unfold State.beginClosed
  dsimp only
  simp only [h.widthsAt, h.timer, h.pacers]
  split
  · exact (h.modPacer k _).raiseHighest k
  · exact h.modPacer k _

theorem resumePacing : SamePacing (s.resumePacing k) (t.resumePacing k) := by
  unfold State.resumePacing
  dsimp only
  simp only [h.widthsAt, h.pacers]
  split
  · exact h.beginOpen k
  · exact h

theorem changeLevel (n : Nat) : SamePacing (s.changeLevel k n) (t.changeLevel k n) := by
  have leveled := (h.modPacer k fun p => { p with level := n }).raiseHighest k
  unfold State.changeLevel
  dsimp only
  rw [h.pacers]
  split
  · exact leveled.beginClosed k
  · split
    · exact leveled.modPacer k _
    · exact leveled.resumePacing k

theorem repace : SamePacing (s.repace k) (t.repace k) := by
  have level : t.effectiveLevel k = s.effectiveLevel k := by
    rw [State.effectiveLevel, State.effectiveLevel, h.congestion, h.tenants]
  unfold State.repace
  dsimp only
  rw [level, h.pacers]
  split
  · exact h
  · exact h.changeLevel k _

theorem ceilingAfterMetering : SamePacing (s.ceilingAfterMetering k) (t.ceilingAfterMetering k) := by
  unfold State.ceilingAfterMetering
  rw [h.tenants]
  split
  · exact ((h.modTenant k _).raise _ _).repace k
  · exact h

/-- The meter block does the same in both (R108 to R111). -/
theorem meter (read congested : Bool) : SamePacing (s.meter k read congested) (t.meter k read congested) := by
  unfold State.meter
  dsimp only
  simp only [h.tenants, h.cards]
  refine ((?_ : SamePacing _ _).modTenant k _).ceilingAfterMetering k
  split
  · exact h.modTenant k _
  · exact ((h.modTenant k _).modTenant k _).raise _ _

end SamePacing

/-- The contribution table's levels are untouched by a change of one in-flight count. -/
theorem congestionLevel_mapAt {s t : State} {k : TenantIx} {p : PortIx} {f : Contribution → Contribution} (keeps : ∀ c, (f c).level = c.level)
    (contrib : t.contrib = mapAt s.contrib k fun row => mapAt row p f) (j : TenantIx) : t.congestionLevel j = s.congestionLevel j := by
  have levels (row : Vector Contribution 16) : (mapAt row p f).toList.map Contribution.level = row.toList.map Contribution.level := by
    refine List.ext_getElem (by simp) fun n h _ => ?_
    simp only [List.getElem_map, Vector.getElem_toList]
    have bound : n < 16 := by simpa using h
    have here := mapAt_get row p ⟨n, bound⟩ f
    simp only at here
    rw [here]
    split
    · exact keeps _
    · rfl
  have fold (row : Vector Contribution 16) : row.toList.foldl (fun m c => max m c.level) 0 =
      (row.toList.map Contribution.level).foldl max 0 := List.foldl_map.symm
  rw [State.congestionLevel, State.congestionLevel, fold, fold, contrib]
  by_cases here : k = j
  · subst here
    rw [show (mapAt s.contrib k _)[k] = _ from mapAt_get_self _ k _, levels]
    rfl
  · rw [show (mapAt s.contrib k _)[j] = _ from mapAt_get_ne _ k j _ here]
    rfl

end Sys2Proof.Machine

/-! PROOF. What the settling of a leg does to the blocks around the outstanding transaction table (R70, R85, R87, R133). -/

namespace Sys2Proof.Machine

/-! ### The settled leg -/

section settled
variable (s : State) (i : OttIx) (x : Side) (way : SettleWay)

/-- The part with the leg settled, before its transaction goes on. -/
def State.settled : State := (s.settleCounts i x way).modOttLeg i x fun l => { l with progress := way.progress, failStatus := way.failStatus }

/-- The counts of a settlement, before the consumer watch is served. -/
def State.legCounted : State :=
  let l := (s.ott.entries[i]).leg x
  let s1 := (s.modContrib (s.ott.entries[i]).tenant l.port fun c => { c with inFlight := c.inFlight - 1 }).modMonitor l.port fun m =>
    { m with inFlight := m.inFlight - 1 }
  if l.sample then (s1.sampleSettled l.port way).modOttLeg i x fun l => { l with sample := false } else s1

theorem settleCounts_eq : s.settleCounts i x way =
    if way = .timeout then ((s.legCounted i x way).settleWatch i x (way.progress == .doneGood)).addHealth ((s.ott.entries[i]).leg x).port 128
    else (s.legCounted i x way).settleWatch i x (way.progress == .doneGood) := rfl

theorem legCounted_frame : SameExcept [.ott, .monitors, .contrib] s (s.legCounted i x way) := by
  have counted : SameExcept [.ott, .monitors, .contrib] s ((s.modContrib (s.ott.entries[i]).tenant ((s.ott.entries[i]).leg x).port
      fun c => { c with inFlight := c.inFlight - 1 }).modMonitor ((s.ott.entries[i]).leg x).port fun m => { m with inFlight := m.inFlight - 1 }) :=
    ((modContrib_frame s _ _ _).mono (by simp)).trans ((modMonitor_frame _ _ _).mono (by simp))
  exact .ite ((counted.trans ((sampleSettled_frame _ _ _).mono (by simp))).trans ((modOttLeg_frame _ _ _ _).mono (by simp))) counted

theorem legCounted_contrib : (s.legCounted i x way).contrib = mapAt s.contrib (s.ott.entries[i]).tenant fun row =>
    mapAt row ((s.ott.entries[i]).leg x).port fun c => { c with inFlight := c.inFlight - 1 } := by
  unfold State.legCounted
  dsimp only
  split <;> rfl

/-- The settled leg loses its sample mark. -/
theorem legCounted_ott : (s.legCounted i x way).ott = { s.ott with
    entries := mapAt s.ott.entries i fun e => e.modLeg x fun l => { l with sample := false } } := by
  unfold State.legCounted
  dsimp only
  split
  · rfl
  · rename_i clear
    refine congrArg (fun t => { s.ott with entries := t }) (Eq.symm (mapAt_of_fixed ?_))
    have same : { (s.ott.entries[i]).leg x with sample := false } = (s.ott.entries[i]).leg x := by
      rw [← Bool.eq_false_iff.mpr clear]
    cases x
    · exact congrArg (fun l => { s.ott.entries[i] with primary := l }) same
    · exact congrArg (fun l => { s.ott.entries[i] with mirror := l }) same

/-- A response or a timeout of a sampled leg gives its latency, and a sweep none (R87). -/
theorem legCounted_monitors : (s.legCounted i x way).monitors = mapAt s.monitors ((s.ott.entries[i]).leg x).port fun m =>
    { m with
      inFlight := m.inFlight - 1
      sample := if ((s.ott.entries[i]).leg x).sample then .idle else m.sample
      lastSample := if ((s.ott.entries[i]).leg x).sample && !(way == .abandoned) then some (min 65535 (s.time - m.sampleStart).toNat)
        else m.lastSample
      fresh := m.fresh || (((s.ott.entries[i]).leg x).sample && !(way == .abandoned)) } := by
  obtain ⟨l, hl⟩ : ∃ l, l = (s.ott.entries[i]).leg x := ⟨_, rfl⟩
  have settled (t : State) (p : PortIx) : (t.sampleSettled p way).monitors = mapAt t.monitors p fun m => { m with
      sample := .idle
      lastSample := if way == .abandoned then m.lastSample else some (min 65535 (t.time - m.sampleStart).toNat)
      fresh := m.fresh || !(way == .abandoned) } := by
    unfold State.sampleSettled State.modMonitor
    dsimp only
    refine mapAt_congr ?_
    cases way with
    | abandoned => simp
    | response => simp [Config.count16Max]
    | timeout => simp [Config.count16Max]
  unfold State.legCounted
  dsimp only
  rw [← hl]
  cases sample : l.sample
  · rw [if_neg Bool.false_ne_true]
    show mapAt s.monitors l.port (fun m => { m with inFlight := m.inFlight - 1 }) = _
    refine mapAt_congr ?_
    simp
  · refine (settled _ l.port).trans ?_
    rw [State.modMonitor, mapAt_mapAt]
    refine mapAt_congr ?_
    cases way == .abandoned <;> rfl

/-- Everything a settlement does around the table, before its transaction goes on. -/
structure LegSettled (u : State) : Prop where
  frame : SameExcept [.links, .ott, .monitors, .contrib, .ring, .causes] s u
  counted : s.LegCounted i x (way == .abandoned) u
  ott : u.ott = { s.ott with entries := mapAt s.ott.entries i fun e => e.modLeg x fun l =>
    { l with progress := way.progress, failStatus := way.failStatus, sample := false } }
  link : ∀ q : PortIx, u.links[q] = { s.links[q] with health := u.links[q].health, healthState := u.links[q].healthState }
  health : u.links[((s.ott.entries[i]).leg x).port].health =
    if way = .timeout then min 1023 (s.links[((s.ott.entries[i]).leg x).port].health + 128) else s.links[((s.ott.entries[i]).leg x).port].health
  links : way ≠ .timeout → u.links = s.links
  ring : u.ring = { s.ring with watch := u.ring.watch, cons := u.ring.cons }
  cause : ∀ c : Cause, c ≠ .ringIndexBad → c ≠ .linkWeak → u.causes.entries[causeIx c] = s.causes.entries[causeIx c]

theorem takeConsumerValue_ring (v : RingIx) : (s.takeConsumerValue v).ring = { s.ring with cons := (s.takeConsumerValue v).ring.cons } := by
  unfold State.takeConsumerValue
  dsimp only
  split <;> rfl

theorem takeConsumerValue_cause (v : RingIx) {c : Cause} (other : c ≠ .ringIndexBad) :
    (s.takeConsumerValue v).causes.entries[causeIx c] = s.causes.entries[causeIx c] := by
  unfold State.takeConsumerValue
  dsimp only
  split
  · rfl
  · exact raise_other s _ _ fun same => other (causeIx_injective same)

/-- The watch changes its list, the consumer index and RING_INDEX_BAD alone. -/
theorem settleWatch_kept (good : Bool) : (s.settleWatch i x good).ring = { s.ring with
      watch := (s.settleWatch i x good).ring.watch, cons := (s.settleWatch i x good).ring.cons }
    ∧ ∀ c : Cause, c ≠ .ringIndexBad → (s.settleWatch i x good).causes.entries[causeIx c] = s.causes.entries[causeIx c] := by
  have values (l : List RingIx) (t : State) : (l.foldl (fun s v => s.takeConsumerValue v) t).ring = { t.ring with
        watch := (l.foldl (fun s v => s.takeConsumerValue v) t).ring.watch, cons := (l.foldl (fun s v => s.takeConsumerValue v) t).ring.cons }
      ∧ ∀ c : Cause, c ≠ .ringIndexBad →
        (l.foldl (fun s v => s.takeConsumerValue v) t).causes.entries[causeIx c] = t.causes.entries[causeIx c] := by
    induction l generalizing t with
    | nil => exact ⟨rfl, fun _ _ => rfl⟩
    | cons v l ih =>
      obtain ⟨ring, causes⟩ := ih (t.takeConsumerValue v)
      refine ⟨?_, fun c other => (causes c other).trans (takeConsumerValue_cause t v other)⟩
      rw [takeConsumerValue_ring t v] at ring
      exact ring
  unfold State.settleWatch
  dsimp only
  split
  · obtain ⟨ring, causes⟩ := values (List.map (·.value) (s.ring.watch.filter fun w => w.entry == i && w.gen == (s.ott.entries[i]).gen && w.side == x))
      { s with ring := { s.ring with
          watch := s.ring.watch.filter fun w => !(w.entry == i && w.gen == (s.ott.entries[i]).gen && w.side == x) } }
    exact ⟨ring, causes⟩
  · exact ⟨rfl, fun _ _ => rfl⟩

theorem addHealth_cause (p : PortIx) (n : Nat) {c : Cause} (other : c ≠ .linkWeak) :
    (s.addHealth p n).causes.entries[causeIx c] = s.causes.entries[causeIx c] := by
  rw [State.addHealth]
  exact testHealth_cause _ p fun same => other (causeIx_injective same)

/-- A leg settles as LegSettled says. -/
theorem settled_legSettled : LegSettled s i x way (s.settled i x way) := by
  obtain ⟨p, hp⟩ : ∃ p, p = ((s.ott.entries[i]).leg x).port := ⟨_, rfl⟩
  obtain ⟨c, hc⟩ : ∃ c, c = s.legCounted i x way := ⟨_, rfl⟩
  have counted := legCounted_frame s i x way
  have ott := legCounted_ott s i x way
  have monitors := legCounted_monitors s i x way
  have contrib := legCounted_contrib s i x way
  rw [← hc] at counted ott monitors contrib
  obtain ⟨w, hw⟩ : ∃ w, w = c.settleWatch i x (way.progress == .doneGood) := ⟨_, rfl⟩
  have watched := settleWatch_frame c i x (way.progress == .doneGood)
  obtain ⟨ring, causes⟩ := settleWatch_kept c i x (way.progress == .doneGood)
  rw [← hw] at watched ring causes
  obtain ⟨h, hh⟩ : ∃ h, h = if way = .timeout then w.addHealth p 128 else w := ⟨_, rfl⟩
  have scored : OnlyLinkOf p [.causes] w h := by
    rw [hh]
    exact .ite (addHealth_onlyLink w p 128) .rfl_
  have links : w.links = s.links := (watched .links (by simp)).trans (counted .links (by simp))
  have final : s.settled i x way = h.modOttLeg i x fun l => { l with progress := way.progress, failStatus := way.failStatus } := by
    rw [State.settled, settleCounts_eq, ← hc, ← hw, ← hp, ← hh]
  rw [final]
  have hott : h.ott = c.ott := (scored.1 .ott (by simp)).trans (watched .ott (by simp))
  have hring : h.ring = w.ring := scored.1 .ring (by simp)
  have cring : c.ring = s.ring := counted .ring (by simp)
  have ccauses : c.causes = s.causes := counted .causes (by simp)
  have frame : SameExcept [.links, .ott, .monitors, .contrib, .ring, .causes] s h :=
    ((counted.mono (by simp)).trans (watched.mono (by simp))).trans (scored.1.mono (by simp))
  refine ⟨frame.trans ((modOttLeg_frame _ _ _ _).mono (by simp)), ⟨?_, ?_⟩, ?_, fun q => ?_, ?_, fun other => ?_, ?_, fun cause bad weak => ?_⟩
  · exact ((scored.1 .monitors (by simp)).trans (watched .monitors (by simp))).trans monitors
  · exact ((scored.1 .contrib (by simp)).trans (watched .contrib (by simp))).trans contrib
  · show { h.ott with entries := mapAt h.ott.entries i fun e => e.modLeg x fun l =>
      { l with progress := way.progress, failStatus := way.failStatus } } = _
    rw [hott, ott]
    dsimp only
    rw [mapAt_mapAt]
    congr 1
    refine mapAt_congr ?_
    cases x <;> rfl
  · show h.links[q] = { s.links[q] with health := h.links[q].health, healthState := h.links[q].healthState }
    by_cases here : q = p
    · subst here
      by_cases late : way = .timeout
      · rw [if_pos late] at hh
        rw [hh, addHealth_link]
        simp only [links]
      · rw [if_neg late] at hh
        rw [hh]
        simp only [links]
    · rw [scored.2 q here]
      simp only [links]
  · show h.links[((s.ott.entries[i]).leg x).port].health = _
    subst hp
    by_cases late : way = .timeout
    · rw [if_pos late] at hh ⊢
      rw [hh, addHealth_link]
      simp only [links]
    · rw [if_neg late] at hh ⊢
      rw [hh]
      simp only [links]
  · show h.links = s.links
    rw [hh, if_neg other, links]
  · show h.ring = { s.ring with watch := h.ring.watch, cons := h.ring.cons }
    rw [hring, ring, cring]
  · show h.causes.entries[causeIx cause] = _
    have weakened : h.causes.entries[causeIx cause] = w.causes.entries[causeIx cause] := by
      rw [hh]
      split
      · exact addHealth_cause w p 128 weak
      · rfl
    rw [weakened, causes cause bad, ccauses]

end settled

end Sys2Proof.Machine

/-! PROOF. A settlement around its transaction, and the finish of the transaction from there (sections 4.2 to 4.7). -/

namespace Sys2Proof.Machine

/-! ### The surroundings of a settlement -/

/-- Between `s` and `u` only what a settlement of entry `i` does before its transaction goes on has changed. -/
structure Around (s : State) (i : OttIx) (u : State) : Prop where
  frame : SameExcept [.links, .ott, .monitors, .contrib, .ring, .causes] s u
  pacing : SamePacing s u
  ott : u.ott = { s.ott with entries := u.ott.entries }
  others : ∀ j : OttIx, j ≠ i → u.ott.entries[j] = s.ott.entries[j]
  entry : u.ott.entries[i] = { s.ott.entries[i] with
    primary := (u.ott.entries[i]).primary, mirror := (u.ott.entries[i]).mirror, readData := (u.ott.entries[i]).readData }
  link : ∀ q : PortIx, u.links[q] = { s.links[q] with
    health := u.links[q].health, healthState := u.links[q].healthState
    expSeq := u.links[q].expSeq, ackOwed := u.links[q].ackOwed, episode := u.links[q].episode }
  ring : u.ring = { s.ring with watch := u.ring.watch, cons := u.ring.cons }
  cause : ∀ c : Cause, c ≠ .ringIndexBad → c ≠ .linkWeak → u.causes.entries[causeIx c] = s.causes.entries[causeIx c]

namespace Around
variable {s u v : State} {i : OttIx}

theorem rfl_ : Around s i s := ⟨.rfl_, .rfl_, rfl, fun _ _ => rfl, rfl, fun _ => rfl, rfl, fun _ _ _ => rfl⟩

theorem trans (h : Around s i u) (k : Around u i v) : Around s i v := by
  refine ⟨h.frame.trans k.frame, h.pacing.trans k.pacing, ?_, fun j hj => (k.others j hj).trans (h.others j hj), ?_, fun q => ?_, ?_,
    fun c bad weak => (k.cause c bad weak).trans (h.cause c bad weak)⟩
  · rw [k.ott, h.ott]
  · rw [k.entry, h.entry]
  · rw [k.link q, h.link q]
  · rw [k.ring, h.ring]

/-- The link unit accepts a response first (R10). -/
theorem accepted (s : State) (i : OttIx) (p : PortIx) : Around s i (s.acceptPayload p) := by
  have kept := acceptPayload_frame s p
  refine ⟨kept.mono (by simp), .of_frame kept (by decide), rfl, fun _ _ => rfl, rfl, fun q => ?_, rfl, fun _ _ _ => rfl⟩
  by_cases here : q = p
  · subst here
    rw [State.acceptPayload, modLink_get]
  · rw [show (s.acceptPayload p).links[q] = s.links[q] from modLink_other s _ here]

/-- The read keeps the data of its answer. -/
theorem readData (s : State) (i : OttIx) (d : Option LineData) : Around s i (s.modEntry i fun e => { e with readData := d }) := by
  have kept := modEntry_frame s i fun e => { e with readData := d }
  refine ⟨kept.mono (by simp), .of_frame kept (by decide), rfl, fun j hj => modEntry_other s i _ hj, ?_, fun q => rfl, rfl, fun _ _ _ => rfl⟩
  rw [modEntry_get]

end Around

/-- The settlement of a leg changes nothing but its surroundings. -/
theorem LegSettled.around {s u : State} {i : OttIx} {x : Side} {way : SettleWay} (h : LegSettled s i x way u) : Around s i u := by
  have here : u.ott.entries[i] = (s.ott.entries[i]).modLeg x fun l =>
      { l with progress := way.progress, failStatus := way.failStatus, sample := false } := by
    rw [h.ott]
    exact mapAt_get_self _ i _
  refine ⟨h.frame, ?_, ?_, fun j hj => ?_, ?_, fun q => ?_, h.ring, h.cause⟩
  · exact ⟨h.frame .tenants (by simp), h.frame .pacers (by simp), h.frame .cards (by simp), h.frame .profiles (by simp),
      h.frame .time (by simp), congestionLevel_mapAt (f := fun c => { c with inFlight := c.inFlight - 1 }) (fun _ => rfl)
        h.counted.2⟩
  · rw [h.ott]
  · rw [h.ott]
    exact mapAt_get_ne _ i j _ (Ne.symm hj)
  · rw [here]
    cases x <;> rfl
  · rw [h.link q]

theorem settled_around (s : State) (i : OttIx) (x : Side) (way : SettleWay) : Around s i (s.settled i x way) :=
  (settled_legSettled s i x way).around

theorem settled_entry (s : State) (i : OttIx) (x : Side) (way : SettleWay) : (s.settled i x way).ott.entries[i] =
    (s.ott.entries[i]).modLeg x fun l => { l with progress := way.progress, failStatus := way.failStatus, sample := false } := by
  rw [(settled_legSettled s i x way).ott]
  exact mapAt_get_self _ i _

/-- The settled leg, and the other. -/
theorem settled_leg (s : State) (i : OttIx) (x : Side) (way : SettleWay) : ((s.settled i x way).ott.entries[i]).leg x =
    { (s.ott.entries[i]).leg x with progress := way.progress, failStatus := way.failStatus, sample := false } := by
  rw [settled_entry, OttEntry.modLeg_leg]

theorem settled_otherLeg (s : State) (i : OttIx) (x : Side) (way : SettleWay) :
    ((s.settled i x way).ott.entries[i]).leg (otherSide x) = (s.ott.entries[i]).leg (otherSide x) := by
  rw [settled_entry, OttEntry.modLeg_other]

/-! ### What a finish leaves -/

section finish
variable (v : State) (i : OttIx)

theorem finish_monitors (st : Status) : (v.finish i st).monitors = v.monitors := finish_frame v i st .monitors (by decide)

theorem finish_contrib (st : Status) : (v.finish i st).contrib = v.contrib := finish_frame v i st .contrib (by decide)

variable {v i} {q : PortIx} {r : ReqId} {tag : Tag}

/-- A finish with a response, up to the entry's release. -/
theorem finish_ingress_frame (live : (v.ott.entries[i]).state = .live) (origin : (v.ott.entries[i]).origin = .ingress q r tag) {st : Status}
    (unmetered : ¬ (st = .good ∧ v.links[q].mode = .server)) : SameExcept [.links, .stages, .windows, .ott] v (v.finish i st) := by
  rw [finish_ingress live origin, if_neg unmetered]
  exact ((respond_frame v _ _ _ _ _ _).mono (by simp)).trans ((freeEntry_frame _ i).mono (by simp))

/-- The links of a finish are those of its response. -/
theorem finish_ingress_links (live : (v.ott.entries[i]).state = .live) (origin : (v.ott.entries[i]).origin = .ingress q r tag) (st : Status) :
    (v.finish i st).links = (v.respond q (isRead (v.ott.entries[i]).body) r tag st
      (if isRead (v.ott.entries[i]).body && st == .good then (v.ott.entries[i]).readData else none)).links := by
  rw [finish_ingress live origin]
  refine (freeEntry_frame _ i .links (by simp)).trans ?_
  split
  · exact meter_frame _ _ _ _ .links (by simp)
  · rfl

/-- The response joins the transmit queue of the ingress link (R79). -/
theorem finish_ingress_queue (live : (v.ott.entries[i]).state = .live) (origin : (v.ott.entries[i]).origin = .ingress q r tag) (st : Status)
    (takes : takesOffers v.links[q].state = true) : (v.finish i st).links[q].txQueue = v.links[q].txQueue ++
      [.response ⟨respKind (v.ott.entries[i]).body, r, tag, st,
        if isRead (v.ott.entries[i]).body && st == .good then (v.ott.entries[i]).readData else none⟩] := by
  rw [finish_ingress_links live origin, State.respond, offer_link takes]
  rfl

theorem finish_ingress_windows (live : (v.ott.entries[i]).state = .live) (origin : (v.ott.entries[i]).origin = .ingress q r tag) (st : Status) :
    (v.finish i st).windows = mapAt v.windows (v.ott.entries[i]).window fun win => { win with outstanding := win.outstanding - 1 } := by
  have freed {parts : List Part} {u : State} (frame : SameExcept parts v u) (ott : Part.ott ∉ parts) (windows : Part.windows ∉ parts) :
      (u.freeEntry i).windows = mapAt v.windows (v.ott.entries[i]).window fun win => { win with outstanding := win.outstanding - 1 } := by
    rw [freeEntry_windows]
    simp only [show u.ott = v.ott from frame .ott ott, show u.windows = v.windows from frame .windows windows]
  rw [finish_ingress live origin]
  refine freed (parts := [.links, .pacers, .tenants, .causes]) (.ite ?_ ?_) (by decide) (by decide)
  · exact ((respond_frame v _ _ _ _ _ _).mono (by decide)).trans ((meter_frame _ _ _ _).mono (by decide))
  · exact (respond_frame v _ _ _ _ _ _).mono (by decide)

/-- The index of a freed entry joins the tail of its pool's free list. -/
theorem freeEntry_serverFree (v : State) {i : OttIx} (pool : i.1 < 992) : (v.freeEntry i).ott.serverFree = v.ott.serverFree ++ [i] := by
  unfold State.freeEntry
  dsimp only
  rw [if_pos (show i.1 < Config.serverPool from pool)]
  cases (v.ott.entries[i]).origin <;> rfl

theorem finish_ingress_serverFree (live : (v.ott.entries[i]).state = .live) (origin : (v.ott.entries[i]).origin = .ingress q r tag)
    (st : Status) (pool : i.1 < 992) : (v.finish i st).ott.serverFree = v.ott.serverFree ++ [i] := by
  rw [finish_ingress live origin, freeEntry_serverFree _ pool]
  split
  · rw [show (State.meter _ _ _ _).ott = _ from meter_frame _ _ _ _ .ott (by simp)]
    rfl
  · rfl

/-- A GOOD finish of a SERVER port's transaction is metered, and no other (R80). -/
theorem finish_ingress_pacing (live : (v.ott.entries[i]).state = .live) (origin : (v.ott.entries[i]).origin = .ingress q r tag) (st : Status) :
    (st = .good ∧ v.links[q].mode = .server →
        (v.finish i st).tenants = (v.meter (v.ott.entries[i]).tenant (isRead (v.ott.entries[i]).body) (v.ott.entries[i]).congestedGood).tenants
        ∧ (v.finish i st).pacers = (v.meter (v.ott.entries[i]).tenant (isRead (v.ott.entries[i]).body) (v.ott.entries[i]).congestedGood).pacers)
      ∧ (¬ (st = .good ∧ v.links[q].mode = .server) → (v.finish i st).tenants = v.tenants ∧ (v.finish i st).pacers = v.pacers) := by
  refine ⟨fun told => ?_, fun untold => ?_⟩
  · have answered : SamePacing v (v.respond q (isRead (v.ott.entries[i]).body) r tag st
        (if isRead (v.ott.entries[i]).body && st == .good then (v.ott.entries[i]).readData else none)) :=
      .of_frame (respond_frame v _ _ _ _ _ _) (by decide)
    have metered := answered.meter (v.ott.entries[i]).tenant (isRead (v.ott.entries[i]).body) (v.ott.entries[i]).congestedGood
    rw [finish_ingress live origin, if_pos told]
    exact ⟨(freeEntry_frame _ i .tenants (by simp)).trans metered.tenants, (freeEntry_frame _ i .pacers (by simp)).trans metered.pacers⟩
  · have kept := finish_ingress_frame live origin untold
    exact ⟨kept .tenants (by simp), kept .pacers (by simp)⟩

/-- The meter block is told of a GOOD finish on a SERVER port alone, and does what it would have done in `s` (R80). -/
theorem finish_metered_from {s : State} (pacing : SamePacing s v) (live : (v.ott.entries[i]).state = .live)
    (origin : (v.ott.entries[i]).origin = .ingress q r tag) (mode : v.links[q].mode = s.links[q].mode)
    (tenant : (v.ott.entries[i]).tenant = (s.ott.entries[i]).tenant) (body : (v.ott.entries[i]).body = (s.ott.entries[i]).body) (st : Status)
    {congested : Bool} (flag : st = .good → (v.ott.entries[i]).congestedGood = congested) :
    s.Metered i (st == .good && s.links[q].mode == .server) congested (v.finish i st) := by
  obtain ⟨told, untold⟩ := finish_ingress_pacing live origin st
  rw [mode] at told untold
  refine ⟨fun both => ?_, fun none => ?_⟩
  · rw [Bool.and_eq_true, beq_iff_eq, beq_iff_eq] at both
    obtain ⟨tenants, pacers⟩ := told both
    have metered := pacing.meter (s.ott.entries[i]).tenant (isRead (s.ott.entries[i]).body) congested
    rw [tenant, body, flag both.1] at tenants pacers
    exact ⟨tenants.trans metered.tenants, pacers.trans metered.pacers⟩
  · obtain ⟨tenants, pacers⟩ := untold fun both => by
      rw [both.1, both.2] at none
      cases none
    exact ⟨tenants.trans pacing.tenants, pacers.trans pacing.pacers⟩

end finish

/-! ### A finish seen from before the settlement -/

section around
variable {s u : State} {i : OttIx} (a : Around s i u)
include a

theorem Around.takes (q : PortIx) : takesOffers u.links[q].state = takesOffers s.links[q].state := by rw [a.link q]

theorem Around.queue (q : PortIx) : u.links[q].txQueue = s.links[q].txQueue := by rw [a.link q]

theorem Around.mode (q : PortIx) : u.links[q].mode = s.links[q].mode := by rw [a.link q]

theorem Around.state_ : (u.ott.entries[i]).state = (s.ott.entries[i]).state := by rw [a.entry]

theorem Around.origin : (u.ott.entries[i]).origin = (s.ott.entries[i]).origin := by rw [a.entry]

theorem Around.body : (u.ott.entries[i]).body = (s.ott.entries[i]).body := by rw [a.entry]

theorem Around.gen : (u.ott.entries[i]).gen = (s.ott.entries[i]).gen := by rw [a.entry]

theorem Around.tenant : (u.ott.entries[i]).tenant = (s.ott.entries[i]).tenant := by rw [a.entry]

theorem Around.window : (u.ott.entries[i]).window = (s.ott.entries[i]).window := by rw [a.entry]

theorem Around.reissued : (u.ott.entries[i]).reissued = (s.ott.entries[i]).reissued := by rw [a.entry]

theorem Around.windows : u.windows = s.windows := a.frame .windows (by simp)

/-- The entry is FREE after its finish, and the others are as they were. -/
theorem Around.finish_entries (busy : (s.ott.entries[i]).state ≠ .free) (st : Status) :
    (u.finish i st).ott.entries[i] = .freed (s.ott.entries[i]).gen
      ∧ ∀ j : OttIx, j ≠ i → (u.finish i st).ott.entries[j] = s.ott.entries[j] := by
  refine ⟨?_, fun j hj => (finish_other u i st hj).trans (a.others j hj)⟩
  rw [finish_get u i (by rw [a.state_]; exact busy), a.gen]

variable {q : PortIx} {r : ReqId} {tag : Tag} (live : (s.ott.entries[i]).state = .live)
  (origin : (s.ott.entries[i]).origin = .ingress q r tag)
include live origin

theorem Around.finish_queue (st : Status) (takes : takesOffers s.links[q].state = true) : (u.finish i st).links[q].txQueue =
    s.links[q].txQueue ++ [.response ⟨respKind (s.ott.entries[i]).body, r, tag, st,
      if isRead (s.ott.entries[i]).body && st == .good then (u.ott.entries[i]).readData else none⟩] := by
  rw [finish_ingress_queue (a.state_.trans live) (a.origin.trans origin) st (by rw [a.takes]; exact takes), a.queue, a.body]

theorem Around.finish_windows (st : Status) : (u.finish i st).windows =
    mapAt s.windows (s.ott.entries[i]).window fun win => { win with outstanding := win.outstanding - 1 } := by
  rw [finish_ingress_windows (a.state_.trans live) (a.origin.trans origin) st, a.windows, a.window]

theorem Around.finish_serverFree (st : Status) (pool : i.1 < 992) : (u.finish i st).ott.serverFree = s.ott.serverFree ++ [i] := by
  rw [finish_ingress_serverFree (a.state_.trans live) (a.origin.trans origin) st pool, a.ott]

/-- The meter block is told of a GOOD finish on a SERVER port (R80). -/
theorem Around.finish_metered (st : Status) {congested : Bool} (flag : st = .good → (u.ott.entries[i]).congestedGood = congested) :
    s.Metered i (st == .good && s.links[q].mode == .server) congested (u.finish i st) :=
  finish_metered_from a.pacing (a.state_.trans live) (a.origin.trans origin) (a.mode q) a.tenant a.body st flag

end around

/-- The congested flags of a finish whose last leg settled GOOD (R80). -/
theorem congestedGood_settled (s : State) (i : OttIx) (x : Side) (way : SettleWay) (good : way.progress = .doneGood) :
    ((s.settled i x way).ott.entries[i]).congestedGood = s.congestedWith i x := by
  have own := settled_leg s i x way
  have other := settled_otherLeg s i x way
  have sides : ((s.settled i x way).ott.entries[i]).congestedGood =
      ((((s.settled i x way).ott.entries[i]).leg x).progress == .doneGood && (((s.settled i x way).ott.entries[i]).leg x).congested
        || (((s.settled i x way).ott.entries[i]).leg (otherSide x)).progress == .doneGood
          && (((s.settled i x way).ott.entries[i]).leg (otherSide x)).congested) := by
    cases x
    · simp [OttEntry.congestedGood, bothSides, otherSide]
    · simp [OttEntry.congestedGood, bothSides, otherSide, Bool.or_comm]
  rw [sides, own, other, good, State.congestedWith]
  rfl

end Sys2Proof.Machine

/-! PROOF. The settlement of a leg: which way its transaction goes on, and the commands that settle it (sections 4.2 to 4.6 and 8.2). -/

namespace Sys2Proof.Machine

/-! ### Which way a settlement goes -/

section ways
variable (s : State) (i : OttIx) (x : Side) {way : SettleWay}

theorem response_bad {st : Status} (d : Option LineData) (h : st ≠ .good) :
    (SettleWay.response st d).progress = .doneFailed ∧ (SettleWay.response st d).failStatus = some st := by
  cases st
  · exact absurd rfl h
  all_goals exact ⟨rfl, rfl⟩

/-- A leg settles GOOD by a GOOD response alone. -/
theorem progress_good (h : way.progress = .doneGood) : ∃ d, way = .response .good d := by
  cases way with
  | timeout => cases h
  | abandoned => cases h
  | response st d =>
    by_cases good : st = .good
    · exact ⟨d, by rw [good]⟩
    · rw [(response_bad d good).1] at h
      cases h

variable {s i}

theorem settle_read_good (read : (s.ott.entries[i]).body = .rd) (d : Option LineData) : s.settle i x (.response .good d) =
    ((s.settled i x (.response .good d)).modEntry i fun e => { e with readData := d }).finish i .good :=
  if_pos (by rw [read]; rfl)

theorem settle_read_failed (read : (s.ott.entries[i]).body = .rd) (bad : way.progress ≠ .doneGood) :
    s.settle i x way = (s.settled i x way).readLegFailed i x := by
  refine (if_pos (by rw [read]; rfl)).trans ?_
  cases way with
  | timeout => rfl
  | abandoned => rfl
  | response st d =>
    cases st
    · exact absurd rfl bad
    all_goals rfl

theorem settle_write (write : (s.ott.entries[i]).body ≠ .rd) : s.settle i x way = (s.settled i x way).writeLegSettled i x way :=
  if_neg fun read => write (isRead_iff.mp read)

/-- A read is reissued while LIVE, once, with the other leg of its window IN_SERVICE (R72). -/
theorem mayReissue_iff : s.mayReissue i x = true ↔ (s.ott.entries[i]).state = .live ∧ (s.ott.entries[i]).reissued = false
    ∧ ((s.windows[(s.ott.entries[i]).window]).leg (otherSide x)).state = .inService := by
  simp only [State.mayReissue, Bool.and_eq_true, beq_iff_eq, Bool.not_eq_true', and_assoc]

theorem readLegFailed_again (again : s.mayReissue i x = true) : s.readLegFailed i x = s.decideReissue i x := if_pos again

theorem readLegFailed_ends (last : ¬ s.mayReissue i x = true) : s.readLegFailed i x = s.finish i ((s.ott.entries[i]).readFailure x) :=
  if_neg last

/-- The decision leaves the other leg WAITING, from now (R72, R73). -/
theorem decideReissue_get : (s.decideReissue i x).ott.entries[i] = ({ s.ott.entries[i] with reissued := true }).modLeg (otherSide x) fun _ =>
    { OttLeg.none with
      progress := .waiting
      port := ((s.windows[(s.ott.entries[i]).window]).leg (otherSide x)).port
      reqId := s.carriedId ((s.windows[(s.ott.entries[i]).window]).leg (otherSide x))
      sentTime := s.time
      timeout := s.settings.completionTimeout } := modEntry_get s i _

/-- A write without a DONE_FAILED leg goes on at once: it waits for a SENT leg, or finishes (R76). -/
theorem writeLegSettled_kept (kept : way.progress ≠ .doneFailed) : s.writeLegSettled i x way =
    if (s.ott.entries[i]).anySent then s else s.finishWrite i := by
  rw [State.writeLegSettled, if_neg kept]

theorem anySent_iff (e : OttEntry) : e.anySent = true ↔ (e.leg x).progress = .sent ∨ (e.leg (otherSide x)).progress = .sent := by
  have sides : e.anySent = true ↔ ∃ y, (e.leg y).progress = .sent := by
    rw [OttEntry.anySent, List.any_eq_true]
    exact ⟨fun ⟨y, _, h⟩ => ⟨y, beq_iff_eq.mp h⟩, fun ⟨y, h⟩ => ⟨y, mem_bothSides y, beq_iff_eq.mpr h⟩⟩
  rw [sides]
  refine ⟨fun ⟨y, h⟩ => ?_, fun h => h.elim (fun k => ⟨x, k⟩) fun k => ⟨_, k⟩⟩
  by_cases side : y = x
  · exact .inl (side ▸ h)
  · exact .inr (eq_otherSide side ▸ h)

end ways

/-! ### The links of a finish -/

/-- A finish adds to transmit queues alone. -/
theorem finish_links_kept (s : State) (i : OttIx) (st : Status) (q : PortIx) :
    (s.finish i st).links[q] = { s.links[q] with txQueue := (s.finish i st).links[q].txQueue } := by
  cases state : (s.ott.entries[i]).state with
  | free => rw [finish_free state]
  | orphan =>
    rw [finish_orphan state]
    simp only [show (s.freeEntry i).links = s.links from freeEntry_frame s i .links (by simp)]
  | live =>
    cases origin : (s.ott.entries[i]).origin with
    | ingress p r tag =>
      rw [finish_ingress_links state origin]
      by_cases here : q = p
      · subst here
        rw [State.respond, State.offer, modLink_get]
        split <;> rfl
      · rw [State.respond, show (s.offer p _).links[q] = _ from modLink_other s _ here]
    | fabric job =>
      have links : (s.finish i st).links = s.links := by
        rw [finish_fabric state origin]
        refine (freeEntry_frame _ i .links (by simp)).trans ?_
        split
        · exact (meter_frame _ _ _ _ .links (by simp)).trans (report_frame s _ _ _ .links (by simp))
        · exact report_frame s _ _ _ .links (by simp)
      simp only [links]

/-! ### A sweep's visit -/

section visit
variable {s : State} {i : OttIx} {p : PortIx} {x : Side}

/-- An abandoned leg is settled: its own leg is no longer SENT, the other is as it was unless it is not SENT, and the links keep all but
their transmit queues. -/
structure Abandoned (s : State) (i : OttIx) (x : Side) (t : State) : Prop where
  own : ((t.ott.entries[i]).leg x).progress ≠ .sent
  other : (t.ott.entries[i]).leg (otherSide x) = (s.ott.entries[i]).leg (otherSide x)
    ∨ ((t.ott.entries[i]).leg (otherSide x)).progress ≠ .sent
  link : ∀ q : PortIx, t.links[q] = { s.links[q] with txQueue := t.links[q].txQueue }

theorem finish_abandoned {t : State} (h : Abandoned s i x t) (st : Status) : Abandoned s i x (t.finish i st) := by
  refine ⟨?_, ?_, fun q => by rw [finish_links_kept, h.link q]⟩
  · by_cases free : (t.ott.entries[i]).state = .free
    · rw [finish_free free]
      exact h.own
    · rw [finish_get t i free, freed_leg]
      decide
  · by_cases free : (t.ott.entries[i]).state = .free
    · rw [finish_free free]
      exact h.other
    · refine .inr ?_
      rw [finish_get t i free, freed_leg]
      decide

theorem settled_abandoned : Abandoned s i x (s.settled i x .abandoned) := by
  refine ⟨?_, .inl (settled_otherLeg s i x _), fun q => ?_⟩
  · rw [settled_leg]
    exact show LegProgress.abandoned ≠ .sent by decide
  · simp only [(settled_legSettled s i x .abandoned).links (by decide)]

theorem settle_abandoned : Abandoned s i x (s.settle i x .abandoned) := by
  have base := settled_abandoned (s := s) (i := i) (x := x)
  by_cases read : (s.ott.entries[i]).body = .rd
  · rw [settle_read_failed x read (by decide)]
    by_cases again : (s.settled i x .abandoned).mayReissue i x = true
    · rw [readLegFailed_again x again]
      refine ⟨?_, .inr ?_, base.link⟩
      · have own := OttEntry.modLeg_other (otherSide x) { (s.settled i x .abandoned).ott.entries[i] with reissued := true } fun _ =>
          { OttLeg.none with
            progress := .waiting
            port := (((s.settled i x .abandoned).windows[((s.settled i x .abandoned).ott.entries[i]).window]).leg (otherSide x)).port
            reqId := (s.settled i x .abandoned).carriedId
              (((s.settled i x .abandoned).windows[((s.settled i x .abandoned).ott.entries[i]).window]).leg (otherSide x))
            sentTime := (s.settled i x .abandoned).time
            timeout := (s.settled i x .abandoned).settings.completionTimeout }
        rw [otherSide_otherSide] at own
        rw [decideReissue_get, own]
        have kept := base.own
        cases x <;> exact kept
      · rw [decideReissue_get, OttEntry.modLeg_leg]
        exact show LegProgress.waiting ≠ .sent by decide
    · rw [readLegFailed_ends x again]
      exact finish_abandoned base _
  · rw [settle_write x read, writeLegSettled_kept x (by decide)]
    split
    · exact base
    · exact finish_abandoned base _

/-- A leg that is not SENT is not swept. -/
theorem sweepable_sent {l : OttLeg} (h : s.sweepable p l = true) : l.progress = .sent := by
  rw [State.sweepable, Bool.and_eq_true, Bool.and_eq_true, beq_iff_eq] at h
  exact h.1.1

theorem sweepable_not {l : OttLeg} (h : l.progress ≠ .sent) : s.sweepable p l = false :=
  Bool.eq_false_iff.mpr fun k => h (sweepable_sent k)

/-- The link states decide what is swept, and a settlement by the sweep keeps them. -/
theorem Abandoned.sweepable {t : State} (h : Abandoned s i x t) (l : OttLeg) : t.sweepable p l = s.sweepable p l := by
  rw [State.sweepable, State.sweepable, h.link p]

/-- The sweep's step at one leg. -/
def State.sweepLeg (s : State) (p : PortIx) (i : OttIx) (x : Side) : State :=
  if s.sweepable p ((s.ott.entries[i]).leg x) then s.settle i x .abandoned else s

theorem visitEntry_eq : s.visitEntry p i = (s.sweepLeg p i .primary).sweepLeg p i .mirror := rfl

/-- A visit that settles one leg. -/
theorem visitEntry_one (hit : s.sweepable p ((s.ott.entries[i]).leg x) = true)
    (miss : s.sweepable p ((s.ott.entries[i]).leg (otherSide x)) = false) : s.visitEntry p i = s.settle i x .abandoned := by
  have settled := settle_abandoned (s := s) (i := i) (x := x)
  rw [visitEntry_eq]
  cases x with
  | primary =>
    have first : s.sweepLeg p i .primary = s.settle i .primary .abandoned := if_pos hit
    rw [first]
    refine if_neg ?_
    rw [settled.sweepable]
    rcases settled.other with same | gone
    · rw [show ((s.settle i .primary .abandoned).ott.entries[i]).leg .mirror = _ from same]
      exact Bool.eq_false_iff.mp miss
    · exact Bool.eq_false_iff.mp (sweepable_not gone)
  | mirror =>
    have first : s.sweepLeg p i .primary = s := if_neg (Bool.eq_false_iff.mp miss)
    rw [first]
    exact if_pos hit

/-- A visit that settles none. -/
theorem visitEntry_none (miss : ∀ x, ¬ s.sweepable p ((s.ott.entries[i]).leg x) = true) : s.visitEntry p i = s := by
  rw [visitEntry_eq, show s.sweepLeg p i .primary = s from if_neg (miss .primary)]
  exact if_neg (miss .mirror)

/-- A visit that settles both legs of a write: the first waits for the second. -/
theorem visitEntry_both (write : (s.ott.entries[i]).body ≠ .rd) (hit : ∀ x, s.sweepable p ((s.ott.entries[i]).leg x) = true) :
    s.visitEntry p i = (s.settled i .primary .abandoned).settle i .mirror .abandoned := by
  have base := settled_abandoned (s := s) (i := i) (x := .primary)
  have mirror : ((s.settled i .primary .abandoned).ott.entries[i]).leg .mirror = (s.ott.entries[i]).leg .mirror :=
    settled_otherLeg s i .primary .abandoned
  have first : s.sweepLeg p i .primary = s.settled i .primary .abandoned := by
    refine (if_pos (hit .primary)).trans ?_
    rw [settle_write .primary write, writeLegSettled_kept .primary (by decide)]
    refine if_pos ((anySent_iff .primary _).mpr (.inr ?_))
    rw [show otherSide .primary = .mirror from rfl, mirror]
    exact sweepable_sent (hit .mirror)
  rw [visitEntry_eq, first]
  refine if_pos ?_
  rw [base.sweepable, mirror]
  exact hit .mirror

end visit

/-! ### Commands that settle one leg -/

section commands
variable {s : State} {c : Instr} {i : OttIx} {x : Side} {way : SettleWay}

/-- A response accepted in sequence that matches a leg settles it with its taken status (R68, R69). -/
theorem exec_rdata {p : PortIx} {req : ReqId} {tag : Tag} {st : Status} {d : Option LineData} (h : s.running)
    (up : s.links[p].state = .active) (formed : d.isSome = (st == .good)) (hit : s.matches_ p ⟨.rdata, req, tag, st, d⟩ = true) :
    exec (.rdataReceived p s.links[p].expSeq req tag st d) s =
      .next ((s.acceptPayload p).settle (tagIndex tag) (tagSide tag) (.response (takenStatus s.links[p].mode st) d)) := by
  have mode : (s.acceptPayload p).links[p].mode = s.links[p].mode := by rw [(Around.accepted s (tagIndex tag) p).mode p]
  show execRdataReceived p _ req tag st d s = _
  rw [execRdataReceived, event_running h, if_pos formed, State.receiveResponse, if_pos up, if_pos rfl, State.takeResponse,
    if_pos (show (s.acceptPayload p).matches_ p ⟨.rdata, req, tag, st, d⟩ = true from hit), mode]

theorem exec_wack {p : PortIx} {req : ReqId} {tag : Tag} {st : Status} (h : s.running) (up : s.links[p].state = .active)
    (hit : s.matches_ p ⟨.wack, req, tag, st, none⟩ = true) : exec (.wackReceived p s.links[p].expSeq req tag st) s =
      .next ((s.acceptPayload p).settle (tagIndex tag) (tagSide tag) (.response (takenStatus s.links[p].mode st) none)) := by
  have mode : (s.acceptPayload p).links[p].mode = s.links[p].mode := by rw [(Around.accepted s (tagIndex tag) p).mode p]
  show execWackReceived p _ req tag st s = _
  rw [execWackReceived, event_running h, State.receiveResponse, if_pos up, if_pos rfl, State.takeResponse,
    if_pos (show (s.acceptPayload p).matches_ p ⟨.wack, req, tag, st, none⟩ = true from hit), mode]

theorem exec_timeout (h : s.running) (sent : ((s.ott.entries[i]).leg x).progress = .sent)
    (late : ((s.ott.entries[i]).leg x).timeout ≤ (s.time - ((s.ott.entries[i]).leg x).sentTime).toNat) :
    exec (.completionTimeout i x) s = .next (s.settle i x .timeout) := by
  show execCompletionTimeout i x s = _
  rw [execCompletionTimeout, event_running h]
  dsimp only
  rw [if_pos (show ((s.ott.entries[i]).leg x).timedOut s.time = true from decide_eq_true late), sent]

theorem exec_sweepVisit {p : PortIx} (h : s.running) (port : s.sweep.port = some p) :
    exec .sweepVisit s = .next ((s.visitEntry p s.sweep.position).advanceSweep s.sweep.position) := by
  show execSweepVisit s = _
  rw [execSweepVisit, event_running h, port]

/-- What a matched response says of its leg. -/
theorem matches_iff {p : PortIx} {r : Response} (hit : s.matches_ p r = true) :
    (s.ott.entries[tagIndex r.tag]).state ≠ .free ∧ ((s.ott.entries[tagIndex r.tag]).leg (tagSide r.tag)).progress = .sent
      ∧ ((s.ott.entries[tagIndex r.tag]).leg (tagSide r.tag)).port = p ∧ respKind (s.ott.entries[tagIndex r.tag]).body = r.kind := by
  simp only [State.matches_, Bool.and_eq_true, beq_iff_eq, bne_iff_ne] at hit
  obtain ⟨⟨⟨⟨⟨⟨⟨_, busy⟩, _⟩, sent⟩, _⟩, port⟩, _⟩, kind⟩ := hit
  exact ⟨busy, sent, port, kind⟩

theorem respKind_rdata {body : ReqBody} : respKind body = .rdata ↔ body = .rd := by cases body <;> simp [respKind, isRead]

theorem respKind_wack {body : ReqBody} : respKind body = .wack ↔ body ≠ .rd := by cases body <;> simp [respKind, isRead]

/-- The state from which a command settles leg `x` of entry `i`: as before, but that the link may have accepted a response first. -/
structure SettleFrom (s : State) (i : OttIx) (a : State) : Prop where
  around : Around s i a
  frame : SameExcept [.links] s a

/-- A command that settles leg `x` alone. -/
theorem settledBy_single (h : s.running) (hs : s.SettledBy c i x way)
    (alone : way = .abandoned → ∀ p, s.sweep.port = some p → s.sweepable p ((s.ott.entries[i]).leg (otherSide x)) = false) :
    ∃ a t, exec c s = .next t ∧ SettleFrom s i a ∧ SameExcept [.sweep] (a.settle i x way) t := by
  rcases hs with ⟨p, req, tag, st, d, rfl, formed, up, hit, rfl, rfl, rfl⟩ | ⟨p, req, tag, st, rfl, up, hit, rfl, rfl, rfl⟩
    | ⟨rfl, rfl, sent, late⟩ | ⟨rfl, rfl, rfl, p, port, swept, -⟩
  · exact ⟨_, _, exec_rdata h up formed hit, ⟨.accepted s _ p, acceptPayload_frame s p⟩, .rfl_⟩
  · exact ⟨_, _, exec_wack h up hit, ⟨.accepted s _ p, acceptPayload_frame s p⟩, .rfl_⟩
  · exact ⟨s, _, exec_timeout h sent late, ⟨.rfl_, .rfl_⟩, .rfl_⟩
  · refine ⟨s, _, exec_sweepVisit h port, ⟨.rfl_, .rfl_⟩, ?_⟩
    rw [visitEntry_one swept (alone rfl p port)]
    exact advanceSweep_frame _ _

end commands

end Sys2Proof.Machine

/-! PROOF. Responses and timeouts of reads, and reads sent again (sections 4.2 to 4.4). -/

namespace Sys2Proof.Machine

/-- Settles O30: the response is accepted, and matches no leg. -/
theorem lateResponseOnlyCounted : Obligations.LateResponseOnlyCounted := by
  intro s p r h up formed late
  have row : exec (messageCommand p (.payload s.links[p].expSeq (.response r))) s = .next ((s.acceptPayload p).lateResponse p) := by
    rw [exec_response h _ r formed, State.receiveResponse, if_pos up, if_pos rfl, State.takeResponse,
      if_neg (show ¬ (s.acceptPayload p).matches_ p r = true from Bool.eq_false_iff.mp late)]
  refine ⟨_, row, ?_, (onlyLink_modLink s p _).trans (modCounters_onlyLink _ p _)⟩
  rw [State.lateResponse, State.modCounters, modLink_get, State.acceptPayload, modLink_get]
  rfl

/-! ### A reissued read is sent (R73) -/

section reissue
variable {s : State} {i : OttIx} {side : Side}

/-- A reissued read's leg is SENT on its window leg's port. -/
def State.reissueLeg (s : State) (i : OttIx) (side : Side) : State :=
  s.modOttLeg i side fun o =>
    { o with
      progress := .sent
      port := ((s.windows[(s.ott.entries[i]).window]).leg side).port
      reqId := s.carriedId ((s.windows[(s.ott.entries[i]).window]).leg side)
      congested := s.flagCongested (s.ott.entries[i]).tenant ((s.windows[(s.ott.entries[i]).window]).leg side).port }

theorem exec_reissueSent (h : s.running) (waits : (s.ott.entries[i]).waitingSide = some side) : exec (.reissueSent i) s =
    .next (if 1 ≤ s.links[((s.windows[(s.ott.entries[i]).window]).leg side).port].sendCredit[
        s.carriedId ((s.windows[(s.ott.entries[i]).window]).leg side)]
      then (s.reissueLeg i side).sendLeg i side else s) := by
  show execReissueSent i s = _
  rw [execReissueSent, event_running h]
  dsimp only
  rw [waits]
  rfl

theorem reissueLeg_entry : (s.reissueLeg i side).ott.entries[i] = (s.ott.entries[i]).modLeg side fun o =>
    { o with
      progress := .sent
      port := ((s.windows[(s.ott.entries[i]).window]).leg side).port
      reqId := s.carriedId ((s.windows[(s.ott.entries[i]).window]).leg side)
      congested := s.flagCongested (s.ott.entries[i]).tenant ((s.windows[(s.ott.entries[i]).window]).leg side).port } := modEntry_get s i _

/-- The reissued leg's request: the entry's, to the other leg. -/
theorem reissueLeg_legRequest : (s.reissueLeg i side).legRequest i side =
    ⟨s.carriedId ((s.windows[(s.ott.entries[i]).window]).leg side), forwardTag i (s.ott.entries[i]).gen side,
      (s.windows[(s.ott.entries[i]).window]).targetLine side (s.ott.entries[i]).line.toNat, (s.ott.entries[i]).body⟩ := by
  rw [State.legRequest]
  simp only [reissueLeg_entry]
  cases side <;> rfl

/-- Settles O32: with a credit the leg is sent, and without one nothing changes. -/
theorem reissueTakesCredit : Obligations.ReissueTakesCredit := by
  intro s i side h e win l waits
  have row := exec_reissueSent h waits
  refine ⟨fun takes credit => ?_, fun none => ?_⟩
  · rw [if_pos credit] at row
    have entry := reissueLeg_entry (s := s) (i := i) (side := side)
    obtain ⟨u, hu⟩ : ∃ u, u = s.reissueLeg i side := ⟨_, rfl⟩
    have request : u.legRequest i side = ⟨s.carriedId l, forwardTag i e.gen side, win.targetLine side e.line.toNat, e.body⟩ := by
      rw [hu]
      exact reissueLeg_legRequest
    have frame : SameExcept [.ott] s u := by
      rw [hu]
      exact modOttLeg_frame s i side _
    rw [← hu] at row entry
    have links : u.links = s.links := frame .links (by simp)
    have leg : (u.ott.entries[i]).leg side = { e.leg side with
        progress := .sent, port := l.port, reqId := s.carriedId l, congested := s.flagCongested e.tenant l.port } := by
      rw [entry, OttEntry.modLeg_leg]
    have tenant : (u.ott.entries[i]).tenant = e.tenant := by
      rw [entry, OttEntry.modLeg_eq]
    have port : ((u.ott.entries[i]).leg side).port = l.port := by rw [leg]
    have sent := sendLeg_frame u i side
    have sentOtt : (u.sendLeg i side).ott = u.ott := sent .ott (by simp)
    have sentLinks : (u.sendLeg i side).links = (u.offer l.port (.request (u.legRequest i side))).links := by
      rw [← port]
      rfl
    have monitors : (u.sendLeg i side).monitors = mapAt u.monitors l.port fun m => { m with inFlight := m.inFlight + 1 } := by
      rw [← port]
      rfl
    have contrib : (u.sendLeg i side).contrib = mapAt u.contrib e.tenant fun row => mapAt row l.port fun c =>
        { c with inFlight := c.inFlight + 1 } := by
      rw [← port, ← tenant]
      rfl
    refine ⟨_, row, ?_, ?_, ?_, ?_, ?_, ?_, (frame.mono (by simp)).trans (sent.mono (by simp)), fun q hq => ?_⟩
    · rw [sentOtt, leg]
    · rw [sentOtt, leg]
    · rw [sentLinks, offer_link (by rw [links]; exact takes), request]
      simp only [links]
    · rw [sentOtt, leg]
    · rw [monitors, show u.monitors = s.monitors from frame .monitors (by simp)]
    · rw [contrib, show u.contrib = s.contrib from frame .contrib (by simp)]
      show ((mapAt s.contrib e.tenant _)[e.tenant.1])[l.port.1].inFlight = _
      rw [mapAt_get_self, mapAt_get_self]
      rfl
    · rw [sentLinks, show (u.offer l.port _).links[q] = _ from modLink_other u _ hq]
      simp only [links]
  · rw [if_neg (show ¬ _ from by rw [none]; decide)] at row
    exact row

end reissue

/-! ### Reads that settle -/

section reads
variable {s u : State} {i : OttIx} {x : Side}

/-- LegCounted speaks of the monitors and the contribution table alone. -/
theorem LegCounted.of_parts {t : State} {b : Bool} (h : s.LegCounted i x b u) (monitors : t.monitors = u.monitors)
    (contrib : t.contrib = u.contrib) : s.LegCounted i x b t := ⟨monitors.trans h.1, contrib.trans h.2⟩

/-- The in-flight count of a settled leg's tenant falls by 1 on its port. -/
theorem LegCounted.inFlight {b : Bool} (h : s.LegCounted i x b u) :
    ((u.contrib[(s.ott.entries[i]).tenant])[((s.ott.entries[i]).leg x).port]).inFlight =
      ((s.contrib[(s.ott.entries[i]).tenant])[((s.ott.entries[i]).leg x).port]).inFlight - 1 := by
  simp only [h.2]
  show ((mapAt s.contrib _ _)[(s.ott.entries[i]).tenant.1])[((s.ott.entries[i]).leg x).port.1].inFlight = _
  rw [mapAt_get_self, mapAt_get_self]
  rfl

/-- What settles from `a` is counted as from `s`. -/
theorem SettleFrom.counted {a : State} (h : SettleFrom s i a) (way : SettleWay) :
    s.LegCounted i x (way == .abandoned) (a.settled i x way) := by
  have counted := (settled_legSettled a i x way).counted
  have ott : a.ott = s.ott := h.frame .ott (by simp)
  have monitors : a.monitors = s.monitors := h.frame .monitors (by simp)
  have contrib : a.contrib = s.contrib := h.frame .contrib (by simp)
  have time : a.time = s.time := h.frame .time (by simp)
  simpa only [State.LegCounted, ott, monitors, contrib, time] using counted

theorem SettleFrom.settledAround {a : State} (h : SettleFrom s i a) (way : SettleWay) : Around s i (a.settled i x way) :=
  h.around.trans (settled_around a i x way)

theorem SettleFrom.leg {a : State} (h : SettleFrom s i a) (way : SettleWay) : ((a.settled i x way).ott.entries[i]).leg x =
    { (s.ott.entries[i]).leg x with progress := way.progress, failStatus := way.failStatus, sample := false } := by
  rw [settled_leg, show a.ott = s.ott from h.frame .ott (by simp)]

theorem SettleFrom.otherLeg {a : State} (h : SettleFrom s i a) (way : SettleWay) :
    ((a.settled i x way).ott.entries[i]).leg (otherSide x) = (s.ott.entries[i]).leg (otherSide x) := by
  rw [settled_otherLeg, show a.ott = s.ott from h.frame .ott (by simp)]

theorem SettleFrom.congested {a : State} (h : SettleFrom s i a) (x : Side) : a.congestedWith i x = s.congestedWith i x := by
  rw [State.congestedWith, State.congestedWith, show a.ott = s.ott from h.frame .ott (by simp)]

theorem acceptPayload_settleFrom (s : State) (i : OttIx) (p : PortIx) : SettleFrom s i (s.acceptPayload p) :=
  ⟨.accepted s i p, acceptPayload_frame s p⟩

theorem settleFrom_self (s : State) (i : OttIx) : SettleFrom s i s := ⟨.rfl_, .rfl_⟩

/-- Whether the read of entry `i` is sent again when its leg `x` settles (R72). -/
def State.reissues (s : State) (i : OttIx) (x : Side) : Prop := (s.ott.entries[i]).state = .live ∧ (s.ott.entries[i]).reissued = false
  ∧ ((s.windows[(s.ott.entries[i]).window]).leg (otherSide x)).state = .inService

theorem Around.mayReissue (a : Around s i u) (x : Side) : u.mayReissue i x = true ↔ s.reissues i x := by
  rw [mayReissue_iff, State.reissues, a.state_, a.reissued]
  simp only [a.window, a.windows]

/-- The WAITING leg that a reissue decides on (R72, R73). -/
def State.waitingLeg (s : State) (i : OttIx) (x : Side) : OttLeg :=
  { OttLeg.none with
    progress := .waiting
    port := ((s.windows[(s.ott.entries[i]).window]).leg (otherSide x)).port
    reqId := s.carriedId ((s.windows[(s.ott.entries[i]).window]).leg (otherSide x))
    sentTime := s.time
    timeout := s.settings.completionTimeout }

theorem Around.waitingLeg (a : Around s i u) (x : Side) : u.waitingLeg i x = s.waitingLeg i x := by
  have carried (l : WindowLeg) : u.carriedId l = s.carriedId l := by rw [State.carriedId, State.carriedId, a.mode]
  rw [State.waitingLeg, State.waitingLeg]
  simp only [a.window, a.windows, carried, show u.time = s.time from a.frame .time (by simp),
    show u.settings = s.settings from a.frame .settings (by simp)]

/-- The entry after the decision: reissued, its settled leg as it was, and the other WAITING. -/
theorem decideReissue_entry (a : Around s i u) (x : Side) : ((u.decideReissue i x).ott.entries[i]).state = (s.ott.entries[i]).state
    ∧ ((u.decideReissue i x).ott.entries[i]).reissued = true ∧ ((u.decideReissue i x).ott.entries[i]).leg x = (u.ott.entries[i]).leg x
    ∧ ((u.decideReissue i x).ott.entries[i]).leg (otherSide x) = s.waitingLeg i x := by
  have entry : (u.decideReissue i x).ott.entries[i] =
      ({ u.ott.entries[i] with reissued := true }).modLeg (otherSide x) fun _ => u.waitingLeg i x := decideReissue_get x
  have own := OttEntry.modLeg_other (otherSide x) { u.ott.entries[i] with reissued := true } fun _ => u.waitingLeg i x
  rw [otherSide_otherSide] at own
  refine ⟨?_, ?_, ?_, ?_⟩
  · rw [entry, OttEntry.modLeg_eq]
    exact a.state_
  · rw [entry, OttEntry.modLeg_eq]
  · rw [entry, own]
    cases x <;> rfl
  · rw [entry, OttEntry.modLeg_leg, a.waitingLeg]

end reads

end Sys2Proof.Machine

/-! PROOF. The finish of reads (sections 4.2 to 4.4, 4.7 and 4.8). -/

namespace Sys2Proof.Machine

/-! ### A read finishes -/

section reads
variable {s u a : State} {i : OttIx} {x : Side}

/-- The status of a read whose answered leg failed is the taken one where a TRUNK port passes it on (R74). -/
theorem readFailure_answered {e : OttEntry} {st : Status} (failed : (e.leg x).failStatus = some st) : e.readFailure x = readFailStatus (some st) := by
  rw [OttEntry.readFailure]
  rw [failed, if_neg (by simp)]

/-- A read that was not sent again finishes by its own leg (R74). -/
theorem readFailure_first {e : OttEntry} (once : e.reissued = false) : e.readFailure x = readFailStatus (e.leg x).failStatus := by
  rw [OttEntry.readFailure]
  rw [once, if_neg (by simp)]

/-- The status passed through a failed read. -/
theorem readFailStatus_some (st : Status) : readFailStatus (some st) = match st with
    | .noroute => .noroute
    | .denied => .denied
    | .lost => .lost
    | .good => .poison
    | .poison => .poison
    | .fault => .poison := by cases st <;> rfl

theorem takenStatus_bad {mode : PortMode} {st : Status} (bad : st ≠ .good) : takenStatus mode st ≠ .good := by
  revert bad
  cases mode <;> cases st <;> decide

theorem takenStatus_good (mode : PortMode) : takenStatus mode .good = .good := by cases mode <;> rfl

theorem response_read {body : ReqBody} (read : body = .rd) : isRead body = true := isRead_iff.mpr read

/-- What a read that finishes without data leaves. -/
theorem Around.finish_failed_read (b : Around s i u) {q : PortIx} {r : ReqId} {tag : Tag} (live : (s.ott.entries[i]).state = .live)
    (origin : (s.ott.entries[i]).origin = .ingress q r tag) (read : (s.ott.entries[i]).body = .rd) {st : Status} (bad : st ≠ .good)
    (takes : takesOffers s.links[q].state = true) :
    (u.finish i st).links[q].txQueue = s.links[q].txQueue ++ [.response ⟨.rdata, r, tag, st, none⟩] := by
  have unread : (isRead (s.ott.entries[i]).body && st == .good) = false := by
    rw [Bool.and_eq_false_iff]
    exact .inr (beq_eq_false_iff_ne.mpr bad)
  rw [b.finish_queue live origin st takes, unread, respKind_rdata.mpr read]
  rfl

end reads

/-- The parts that a read which settles without data may change. -/
def failedReadParts : List Part := [.links, .stages, .windows, .ott, .monitors, .contrib, .ring, .causes]

/-- What a read of server or trunk origin that settles without data leaves, seen from before the settlement. -/
structure ReadFailed (s : State) (i : OttIx) (x : Side) (way : SettleWay) (t : State) : Prop where
  counted : s.LegCounted i x (way == .abandoned) t
  others : ∀ j : OttIx, j ≠ i → t.ott.entries[j] = s.ott.entries[j]
  frame : SameExcept failedReadParts s t
  again : s.reissues i x → (t.ott.entries[i]).state = (s.ott.entries[i]).state ∧ (t.ott.entries[i]).reissued = true
    ∧ (t.ott.entries[i]).leg x = { (s.ott.entries[i]).leg x with progress := way.progress, failStatus := way.failStatus, sample := false }
    ∧ (t.ott.entries[i]).leg (otherSide x) = s.waitingLeg i x
    ∧ (∀ q : PortIx, t.links[q].txQueue = s.links[q].txQueue) ∧ t.windows = s.windows

section failed
variable {s a : State} {i : OttIx} {x : Side} {way : SettleWay}

/-- A LIVE read's leg settles without data. -/
theorem settle_readFailed (from_ : SettleFrom s i a) (read : (s.ott.entries[i]).body = .rd) (bad : way.progress ≠ .doneGood) {q : PortIx}
    {r : ReqId} {tag : Tag} (live : (s.ott.entries[i]).state = .live) (origin : (s.ott.entries[i]).origin = .ingress q r tag) :
    ReadFailed s i x way (a.settle i x way) := by
  have b := from_.settledAround (x := x) way
  have counted := from_.counted (x := x) way
  have settled : SameExcept failedReadParts s (a.settled i x way) := b.frame.mono (by decide)
  have row := settle_read_failed (s := a) (i := i) x (by rw [from_.around.body]; exact read) bad
  have leg := from_.leg (x := x) way
  generalize a.settled i x way = u at b counted settled row leg
  rw [row]
  by_cases again : u.mayReissue i x = true
  · rw [readLegFailed_again x again]
    have kept := decideReissue_frame u i x
    obtain ⟨state, reissued, own, other⟩ := decideReissue_entry b x
    refine ⟨LegCounted.of_parts counted (kept .monitors (by simp)) (kept .contrib (by simp)),
      fun j hj => (modEntry_other u i _ hj).trans (b.others j hj), settled.trans (kept.mono (by decide)),
      fun _ => ⟨state, reissued, own.trans leg, other, fun p => b.queue p, b.windows⟩⟩
  · rw [readLegFailed_ends x again]
    refine ⟨LegCounted.of_parts counted (finish_monitors u i _) (finish_contrib u i _), (b.finish_entries (by rw [live]; decide) _).2, ?_,
      fun k => absurd ((b.mayReissue x).mpr k) again⟩
    refine settled.trans ((finish_ingress_frame (b.state_.trans live) (b.origin.trans origin) ?_).mono (by decide))
    exact fun good => readFailure_ne _ _ good.1

/-- A LIVE read that is not sent again finishes with the status of its end. -/
theorem settle_readEnds (from_ : SettleFrom s i a) (read : (s.ott.entries[i]).body = .rd) (bad : way.progress ≠ .doneGood) {q : PortIx}
    {r : ReqId} {tag : Tag} (live : (s.ott.entries[i]).state = .live) (origin : (s.ott.entries[i]).origin = .ingress q r tag)
    (takes : takesOffers s.links[q].state = true) (last : ¬ s.reissues i x) {final : Status}
    (status : ((a.settled i x way).ott.entries[i]).readFailure x = final) :
    (a.settle i x way).ott.entries[i] = .freed (s.ott.entries[i]).gen
      ∧ (a.settle i x way).links[q].txQueue = s.links[q].txQueue ++ [.response ⟨.rdata, r, tag, final, none⟩]
      ∧ (a.settle i x way).windows = mapAt s.windows (s.ott.entries[i]).window fun win => { win with outstanding := win.outstanding - 1 } := by
  have b := from_.settledAround (x := x) way
  have row := settle_read_failed (s := a) (i := i) x (by rw [from_.around.body]; exact read) bad
  generalize a.settled i x way = u at b row status
  rw [row, readLegFailed_ends x fun k => last ((b.mayReissue x).mp k), status]
  exact ⟨(b.finish_entries (by rw [live]; decide) _).1,
    b.finish_failed_read live origin read (status ▸ readFailure_ne _ _) takes, b.finish_windows live origin _⟩

/-- The health of the links after a LIVE read settles without data is that of its settlement. -/
theorem settle_readHealth (from_ : SettleFrom s i a) (read : (s.ott.entries[i]).body = .rd) (bad : way.progress ≠ .doneGood) (p : PortIx) :
    (a.settle i x way).links[p].health = (a.settled i x way).links[p].health := by
  rw [settle_read_failed (s := a) (i := i) x (by rw [from_.around.body]; exact read) bad]
  by_cases again : (a.settled i x way).mayReissue i x = true
  · rw [readLegFailed_again x again]
    rfl
  · rw [readLegFailed_ends x again, finish_links_kept]

end failed

/-- Settles O31: a timeout is a failed read without an answer. -/
theorem readLegTimesOut : Obligations.ReadLegTimesOut := by
  intro s i side q r0 tag0 h e l live origin read once sent late
  have row := exec_timeout h sent late
  have from_ := settleFrom_self s i
  have left := settle_readFailed (x := side) (way := .timeout) from_ read (by decide) live origin
  have health : (s.settle i side .timeout).links[l.port].health = min 1023 (s.links[l.port].health + 128) := by
    rw [settle_readHealth from_ read (by decide), (settled_legSettled s i side .timeout).health, if_pos rfl]
  refine ⟨fun spare takes => ?_, fun spare => ?_⟩
  · have final : ((s.settled i side .timeout).ott.entries[i]).readFailure side = .poison := by
      rw [readFailure_first ((settled_around s i side .timeout).reissued.trans once), settled_leg]
      rfl
    obtain ⟨entry, queue, -⟩ := settle_readEnds (way := .timeout) from_ read (by decide) live origin takes (fun k => spare k.2.2) final
    exact ⟨_, row, entry, queue, left.counted, health⟩
  · obtain ⟨state, reissued, own, other, -, -⟩ := left.again ⟨live, once, spare⟩
    exact ⟨_, row, state.trans live, reissued, by rw [own]; rfl, by rw [other]; rfl, by rw [other]; rfl, by rw [other]; rfl, left.counted, health⟩

/-- An ORPHAN read frees its entry, however its leg settles (R83). -/
theorem settle_orphanRead {s a : State} {i : OttIx} {x : Side} (way : SettleWay) (from_ : SettleFrom s i a)
    (read : (s.ott.entries[i]).body = .rd) (orphan : (s.ott.entries[i]).state = .orphan) : ∃ u, Around s i u ∧ a.settle i x way = u.freeEntry i := by
  have b := from_.settledAround (x := x) way
  by_cases good : way.progress = .doneGood
  · obtain ⟨d, rfl⟩ := progress_good good
    refine ⟨_, b.trans (.readData _ i d), ?_⟩
    rw [settle_read_good x (by rw [from_.around.body]; exact read)]
    exact finish_orphan ((b.trans (.readData _ i d)).state_.trans orphan) .good
  · refine ⟨_, b, ?_⟩
    rw [settle_read_failed x (by rw [from_.around.body]; exact read) good, readLegFailed_ends x, finish_orphan (b.state_.trans orphan)]
    intro again
    obtain ⟨live, -⟩ := (b.mayReissue x).mp again
    rw [orphan] at live
    cases live

/-- What a freed ORPHAN entry leaves. -/
theorem Around.freed {s u : State} {i : OttIx} (b : Around s i u) :
    (u.freeEntry i).ott.entries[i] = .freed (s.ott.entries[i]).gen
      ∧ (u.freeEntry i).windows = mapAt s.windows (s.ott.entries[i]).window (fun win => { win with outstanding := win.outstanding - 1 })
      ∧ (∀ q : PortIx, (u.freeEntry i).links[q].txQueue = s.links[q].txQueue) ∧ s.Metered i false false (u.freeEntry i) := by
  have kept := freeEntry_frame u i
  refine ⟨?_, ?_, fun q => ?_, fun told => absurd told (by decide), fun _ => ⟨?_, ?_⟩⟩
  · rw [freeEntry_get, b.gen]
  · rw [freeEntry_windows, b.window, b.windows]
  · rw [show (u.freeEntry i).links = u.links from kept .links (by simp), b.queue]
  · exact (kept .tenants (by simp)).trans b.pacing.tenants
  · exact (kept .pacers (by simp)).trans b.pacing.pacers

/-- Settles O28: a GOOD read, a failed one, and one of an ORPHAN entry. -/
theorem goodReadFinishes : Obligations.GoodReadFinishes := by
  refine ⟨?good, ?failed, ?orphan⟩
  case good =>
    intro s p q req r0 tag tag0 d h up hit i e live origin takes
    have row := exec_rdata h up (st := .good) (d := some d) rfl hit
    rw [takenStatus_good] at row
    obtain ⟨busy, sent, port, kind⟩ := matches_iff hit
    have read : e.body = .rd := respKind_rdata.mp kind
    have from_ := acceptPayload_settleFrom s i p
    obtain ⟨a, ha⟩ : ∃ a, a = s.acceptPayload p := ⟨_, rfl⟩
    rw [← ha] at row from_
    have b := (from_.settledAround (x := tagSide tag) (.response .good (some d))).trans (.readData _ i (some d))
    have counted := from_.counted (x := tagSide tag) (.response .good (some d))
    have congested := (congestedGood_settled a i (tagSide tag) (.response .good (some d)) rfl).trans (from_.congested _)
    rw [settle_read_good (tagSide tag) (by rw [from_.around.body]; exact read)] at row
    obtain ⟨u, hu⟩ : ∃ u, u = a.settled i (tagSide tag) (.response .good (some d)) := ⟨_, rfl⟩
    rw [← hu] at row b counted congested
    obtain ⟨v, hv⟩ : ∃ v, v = u.modEntry i fun e => { e with readData := some d } := ⟨_, rfl⟩
    have entry : v.ott.entries[i] = { u.ott.entries[i] with readData := some d } := by
      rw [hv]
      exact modEntry_get u i _
    have monitors : v.monitors = u.monitors := by rw [hv]; rfl
    have contrib : v.contrib = u.contrib := by rw [hv]; rfl
    rw [← hv] at row b
    have counted' : s.LegCounted i (tagSide tag) false (v.finish i .good) := LegCounted.of_parts counted
      ((finish_monitors v i _).trans monitors) ((finish_contrib v i _).trans contrib)
    have metered := b.finish_metered live origin .good (congested := s.congestedWith i (tagSide tag)) fun _ => by rw [entry]; exact congested
    rw [show ((Status.good == Status.good) && s.links[q].mode == .server) = (s.links[q].mode == .server) from rfl] at metered
    have queue := b.finish_queue live origin .good takes
    have windows := b.finish_windows live origin .good
    rw [entry, show (s.ott.entries[i]).body = .rd from read] at queue
    refine ⟨_, row, (b.finish_entries busy .good).1, queue, b.finish_serverFree live origin .good, ?_, LegCounted.inFlight counted', fun server alone => ?_,
      metered, counted', (b.finish_entries busy .good).2⟩
    · rw [windows]
      exact congrArg Window.outstanding (mapAt_get_self s.windows e.window _)
    · obtain ⟨tenants, -⟩ := metered.1 (beq_iff_eq.mpr server)
      have flag : s.congestedWith i (tagSide tag) = (e.leg (tagSide tag)).congested := by
        rw [State.congestedWith]
        rw [beq_eq_false_iff_ne.mpr alone, Bool.false_and, Bool.or_false]
      rw [tenants, flag, meter_tenant, show isRead (s.ott.entries[i]).body = true from response_read read]
      rfl
  case failed =>
    intro s p q req r0 tag tag0 status h up bad hit i x e l spare taken again final live origin takes
    have row := exec_rdata h up (st := status) (d := none) (by rw [beq_eq_false_iff_ne.mpr bad]; rfl) hit
    obtain ⟨busy, sent, port, kind⟩ := matches_iff hit
    have read : e.body = .rd := respKind_rdata.mp kind
    have from_ := acceptPayload_settleFrom s i p
    obtain ⟨progress, failStatus⟩ := response_bad (st := taken) none (takenStatus_bad bad)
    have worse : (SettleWay.response taken none).progress ≠ .doneGood := by rw [progress]; decide
    have left := settle_readFailed (x := x) from_ read worse live origin
    have status_ : (((s.acceptPayload p).settled i x (.response taken none)).ott.entries[i]).readFailure x = final := by
      rw [readFailure_answered (st := taken) (by rw [from_.leg]; exact failStatus)]
      exact readFailStatus_some taken
    have ends := settle_readEnds (x := x) from_ read worse live origin takes
    have health := settle_readHealth (x := x) from_ read worse p
    have quiet : ((s.acceptPayload p).settled i x (.response taken none)).links = (s.acceptPayload p).links :=
      (settled_legSettled (s.acceptPayload p) i x (.response taken none)).links (by simp)
    refine ⟨_, row, fun k => ?_, fun k => ?_, left.counted, ?_, left.others, left.frame⟩
    · obtain ⟨state, reissued, own, other, queue, windows⟩ := left.again ⟨live, k⟩
      rw [progress, failStatus] at own
      exact ⟨state.trans live, reissued, own, other, queue q, windows⟩
    · exact ends (fun m => k m.2) status_
    · have accepted : (s.acceptPayload p).links[p].health = s.links[p].health := by rw [State.acceptPayload, modLink_get]
      rw [health]
      simp only [quiet]
      exact accepted
  case orphan =>
    intro s c i x way h hs e orphan read
    obtain ⟨a, t, row, from_, advanced⟩ := settledBy_single h hs fun gone p port => by
      rcases hs with ⟨_, _, _, _, _, _, _, _, _, _, _, way_⟩ | ⟨_, _, _, _, _, _, _, _, _, way_⟩ | ⟨_, way_, _⟩ | ⟨_, _, _, p', port', _, other⟩
      · rw [gone] at way_; cases way_
      · rw [gone] at way_; cases way_
      · rw [gone] at way_; cases way_
      · cases port.symm.trans port'
        exact other read
    obtain ⟨u, b, settled⟩ := settle_orphanRead (x := x) way from_ read orphan
    rw [settled] at advanced
    obtain ⟨entry, windows, queue, metered⟩ := b.freed
    have links : t.links = (u.freeEntry i).links := advanced .links (by simp)
    have ott : t.ott = (u.freeEntry i).ott := advanced .ott (by simp)
    have table : t.windows = (u.freeEntry i).windows := advanced .windows (by simp)
    refine ⟨t, row, by rw [ott]; exact entry, by rw [table]; exact windows, fun q => by simp only [links]; exact queue q,
      fun told => absurd told (by decide), fun none => ?_⟩
    obtain ⟨tenants, pacers⟩ := metered.2 none
    exact ⟨(advanced .tenants (by simp)).trans tenants, (advanced .pacers (by simp)).trans pacers⟩

end Sys2Proof.Machine

/-! PROOF. The failover sweep's visits (section 8.2). -/

namespace Sys2Proof.Machine

/-! ### The sweep moves on (R141, R142) -/

section advance
variable {s w : State} {p : PortIx} {i : OttIx}

theorem advanceSweep_next (sweep : w.sweep = s.sweep) (port : s.sweep.port = some p) (h : i.1 + 1 < 1024) :
    (w.advanceSweep i).sweep = ⟨some p, ⟨i.1 + 1, h⟩, s.sweep.queue⟩ := by
  rw [State.advanceSweep, dif_pos h, ← port, ← sweep]

theorem advanceSweep_end (sweep : w.sweep = s.sweep) (last : i.1 = 1023) (queue : s.sweep.queue = []) :
    (w.advanceSweep i).sweep = ⟨none, 0, []⟩ := by
  rw [State.advanceSweep, dif_neg (by rw [last]; decide), State.startSweep, sweep, queue]
  exact congrArg (fun l => (⟨none, 0, l⟩ : Sweep)) queue

theorem advanceSweep_queued {q : PortIx} {more : List PortIx} (sweep : w.sweep = s.sweep) (last : i.1 = 1023) (queue : s.sweep.queue = q :: more) :
    (w.advanceSweep i).sweep = ⟨some q, 0, more⟩ := by
  rw [State.advanceSweep, dif_neg (by rw [last]; decide), State.startSweep, sweep, queue]

end advance

/-! ### What a visit leaves of the legs -/

section sweepLeg
variable {s : State} {p : PortIx} {i : OttIx} {x : Side}

/-- The sweep's step at a leg, when the leg is settled and when it is not. -/
theorem sweepLeg_cases : (s.sweepable p ((s.ott.entries[i]).leg x) = true ∧ Abandoned s i x (s.sweepLeg p i x))
    ∨ (s.sweepable p ((s.ott.entries[i]).leg x) = false ∧ s.sweepLeg p i x = s) := by
  by_cases hit : s.sweepable p ((s.ott.entries[i]).leg x) = true
  · refine .inl ⟨hit, ?_⟩
    rw [show s.sweepLeg p i x = _ from if_pos hit]
    exact settle_abandoned
  · exact .inr ⟨Bool.eq_false_iff.mpr hit, if_neg hit⟩

theorem sweepLeg_links (q : PortIx) : (s.sweepLeg p i x).links[q] = { s.links[q] with txQueue := (s.sweepLeg p i x).links[q].txQueue } := by
  rcases sweepLeg_cases (s := s) (p := p) (i := i) (x := x) with ⟨-, settled⟩ | ⟨-, same⟩
  · exact settled.link q
  · rw [same]

theorem sweepLeg_own : (s.sweepLeg p i x).sweepable p (((s.sweepLeg p i x).ott.entries[i]).leg x) = false := by
  rcases sweepLeg_cases (s := s) (p := p) (i := i) (x := x) with ⟨-, settled⟩ | ⟨miss, same⟩
  · exact sweepable_not settled.own
  · rw [same]
    exact miss

/-- A leg that the sweep does not settle is not settled after its step at the other. -/
theorem sweepLeg_other (miss : s.sweepable p ((s.ott.entries[i]).leg (otherSide x)) = false) :
    (s.sweepLeg p i x).sweepable p (((s.sweepLeg p i x).ott.entries[i]).leg (otherSide x)) = false := by
  rcases sweepLeg_cases (s := s) (p := p) (i := i) (x := x) with ⟨-, settled⟩ | ⟨-, same⟩
  · rcases settled.other with kept | gone
    · rw [settled.sweepable, kept]
      exact miss
    · exact sweepable_not gone
  · rw [same]
    exact miss

/-- No leg that the sweep settles is left after its visit. -/
theorem visitEntry_swept (x : Side) : (s.visitEntry p i).sweepable p (((s.visitEntry p i).ott.entries[i]).leg x) = false := by
  rw [visitEntry_eq]
  cases x
  · exact sweepLeg_other (x := .mirror) sweepLeg_own
  · exact sweepLeg_own

theorem visitEntry_links (q : PortIx) : (s.visitEntry p i).links[q] = { s.links[q] with txQueue := (s.visitEntry p i).links[q].txQueue } := by
  rw [visitEntry_eq, sweepLeg_links, sweepLeg_links]

/-- A swept leg lies on the swept port. -/
theorem sweepable_port {l : OttLeg} (h : s.sweepable p l = true) : l.port = p := by
  rw [State.sweepable, Bool.and_eq_true, Bool.and_eq_true, beq_iff_eq, beq_iff_eq] at h
  exact h.1.2

end sweepLeg

/-! ### A settlement by the sweep -/

section abandon
variable {s : State} {i : OttIx} {x : Side}

/-- After its counts a settlement by the sweep touches neither monitors nor contributions. -/
theorem settle_abandoned_counts : (s.settle i x .abandoned).monitors = (s.settled i x .abandoned).monitors
    ∧ (s.settle i x .abandoned).contrib = (s.settled i x .abandoned).contrib := by
  by_cases read : (s.ott.entries[i]).body = .rd
  · rw [settle_read_failed x read (by decide)]
    have kept := readLegFailed_frame (s.settled i x .abandoned) i x
    exact ⟨kept .monitors (by decide), kept .contrib (by decide)⟩
  · rw [settle_write x read]
    have kept := writeLegSettled_frame (s.settled i x .abandoned) i x .abandoned
    exact ⟨kept .monitors (by decide), kept .contrib (by decide)⟩

theorem settle_abandoned_counted : s.LegCounted i x true (s.settle i x .abandoned) :=
  LegCounted.of_parts (settled_legSettled s i x .abandoned).counted settle_abandoned_counts.1 settle_abandoned_counts.2

/-- The in-flight count of a settled leg's port falls by 1. -/
theorem LegCounted.port {t : State} {b : Bool} (h : s.LegCounted i x b t) {p : PortIx} (port : ((s.ott.entries[i]).leg x).port = p) :
    (t.monitors[p]).inFlight = (s.monitors[p]).inFlight - 1
      ∧ ((t.contrib[(s.ott.entries[i]).tenant])[p]).inFlight = ((s.contrib[(s.ott.entries[i]).tenant])[p]).inFlight - 1 := by
  subst port
  refine ⟨?_, LegCounted.inFlight h⟩
  rw [h.1]
  exact congrArg Monitor.inFlight (mapAt_get_self s.monitors _ _)

/-- The read of an abandoned leg is sent again, or ends (R72). -/
theorem settle_abandoned_read (read : (s.ott.entries[i]).body = .rd) :
    (s.reissues i x → ((s.settle i x .abandoned).ott.entries[i]).state = .live ∧ ((s.settle i x .abandoned).ott.entries[i]).reissued = true
      ∧ (((s.settle i x .abandoned).ott.entries[i]).leg x).progress = .abandoned
      ∧ (((s.settle i x .abandoned).ott.entries[i]).leg (otherSide x)).progress = .waiting)
    ∧ (¬ s.reissues i x → (s.ott.entries[i]).state ≠ .free → (s.settle i x .abandoned).ott.entries[i] = .freed (s.ott.entries[i]).gen) := by
  have b := settled_around s i x .abandoned
  have leg := settled_leg s i x .abandoned
  rw [settle_read_failed x read (by decide)]
  generalize s.settled i x .abandoned = u at b leg
  refine ⟨fun again => ?_, fun last busy => ?_⟩
  · rw [readLegFailed_again x ((b.mayReissue x).mpr again)]
    obtain ⟨state, reissued, own, other⟩ := decideReissue_entry b x
    exact ⟨state.trans again.1, reissued, by rw [own, leg]; rfl, by rw [other]; rfl⟩
  · rw [readLegFailed_ends x fun k => last ((b.mayReissue x).mp k)]
    exact (b.finish_entries busy _).1

/-- The write of an abandoned leg waits for its other SENT leg, or finishes (R76). -/
theorem settle_abandoned_write (write : (s.ott.entries[i]).body ≠ .rd) :
    (((s.ott.entries[i]).leg (otherSide x)).progress = .sent → ((s.settle i x .abandoned).ott.entries[i]).state = (s.ott.entries[i]).state
      ∧ (((s.settle i x .abandoned).ott.entries[i]).leg x).progress = .abandoned
      ∧ ((s.settle i x .abandoned).ott.entries[i]).leg (otherSide x) = (s.ott.entries[i]).leg (otherSide x))
    ∧ (((s.ott.entries[i]).leg (otherSide x)).progress ≠ .sent → (s.ott.entries[i]).state ≠ .free →
      (s.settle i x .abandoned).ott.entries[i] = .freed (s.ott.entries[i]).gen) := by
  have b := settled_around s i x .abandoned
  have own := settled_leg s i x .abandoned
  have other := settled_otherLeg s i x .abandoned
  rw [settle_write x write, writeLegSettled_kept x (by decide)]
  generalize s.settled i x .abandoned = u at b own other
  refine ⟨fun sent => ?_, fun last busy => ?_⟩
  · rw [if_pos ((anySent_iff x _).mpr (.inr (by rw [other]; exact sent)))]
    exact ⟨b.state_, by rw [own]; rfl, other⟩
  · rw [if_neg fun sent => ((anySent_iff x _).mp sent).elim (by rw [own]; exact show LegProgress.abandoned ≠ .sent by decide)
      (by rw [other]; exact last)]
    exact (b.finish_entries busy _).1

end abandon

/-- A visit that settles both legs of a write counts each, and the write finishes. -/
theorem visitEntry_both_leaves {s : State} {p : PortIx} {i : OttIx} (write : (s.ott.entries[i]).body ≠ .rd)
    (hit : ∀ x, s.sweepable p ((s.ott.entries[i]).leg x) = true) :
    ((s.visitEntry p i).monitors[p]).inFlight = (s.monitors[p]).inFlight - 2
      ∧ (((s.visitEntry p i).contrib[(s.ott.entries[i]).tenant])[p]).inFlight = ((s.contrib[(s.ott.entries[i]).tenant])[p]).inFlight - 2
      ∧ ((s.ott.entries[i]).state ≠ .free → (s.visitEntry p i).ott.entries[i] = .freed (s.ott.entries[i]).gen) := by
  have b := settled_around s i .primary .abandoned
  have own := settled_leg s i .primary .abandoned
  have other := settled_otherLeg s i .primary .abandoned
  have first := LegCounted.port (settled_legSettled s i .primary .abandoned).counted (sweepable_port (hit .primary))
  rw [visitEntry_both write hit]
  generalize s.settled i .primary .abandoned = u at b own other first
  have second := LegCounted.port (settle_abandoned_counted (s := u) (i := i) (x := .mirror)) (p := p) (by
    rw [show (u.ott.entries[i]).leg .mirror = _ from other]
    exact sweepable_port (hit .mirror))
  simp only [b.tenant] at second
  obtain ⟨-, last⟩ := settle_abandoned_write (s := u) (i := i) (x := .mirror) (by rw [b.body]; exact write)
  refine ⟨by rw [second.1, first.1]; rfl, by rw [second.2, first.2]; rfl, fun busy => ?_⟩
  rw [last (by rw [show (u.ott.entries[i]).leg (otherSide .mirror) = _ from own]; exact show LegProgress.abandoned ≠ .sent by decide)
    (by rw [b.state_]; exact busy), b.gen]

/-- Settles O33: a visit settles no leg, one, or both of a write. -/
theorem sweepVisitSettlesEntry : Obligations.SweepVisitSettlesEntry := by
  intro s p h port i e hit
  have row := exec_sweepVisit h port
  have swept := visitEntry_swept (s := s) (p := p) (i := i)
  have links := visitEntry_links (s := s) (p := p) (i := i)
  have one {x : Side} (own : hit x) (other : ¬ hit (otherSide x)) : s.visitEntry p i = s.settle i x .abandoned :=
    visitEntry_one own (Bool.eq_false_iff.mpr other)
  have none_ (no : ∀ x, ¬ hit x) : s.visitEntry p i = s := visitEntry_none no
  have both {x : Side} (own : hit x) (other : hit (otherSide x)) (write : e.body ≠ .rd) :=
    visitEntry_both_leaves (p := p) write fun y => ((forall_side_iff (P := hit) x).mpr ⟨own, other⟩ y)
  have frame := visitEntry_frame s p i
  have sweep : (s.visitEntry p i).sweep = s.sweep := frame .sweep (by decide)
  have next := fun bound => advanceSweep_next (i := i) sweep port bound
  have last := advanceSweep_end (i := i) sweep
  have queued := fun q more => advanceSweep_queued (i := i) (q := q) (more := more) sweep
  have advanced := advanceSweep_frame (s.visitEntry p i) i
  generalize (s.visitEntry p i).advanceSweep i = t at row next last queued advanced
  have ott : t.ott = (s.visitEntry p i).ott := advanced .ott (by simp)
  have tlinks : t.links = (s.visitEntry p i).links := advanced .links (by simp)
  have monitors : t.monitors = (s.visitEntry p i).monitors := advanced .monitors (by simp)
  have contrib : t.contrib = (s.visitEntry p i).contrib := advanced .contrib (by simp)
  refine ⟨t, row, next, last, queued, fun x => ?swept, fun q => ?health, fun no => ?none, fun x own alone => ?counts, fun x own miss => ?counted,
    fun x own miss read => ?read, fun x own write => ?write⟩
  case swept => rw [← swept x, State.sweepable, State.sweepable, ott, tlinks]
  case health =>
    rw [tlinks, links q]
    exact ⟨rfl, rfl⟩
  case none =>
    rw [none_ no] at advanced
    exact advanced
  case counts =>
    intro n
    rw [monitors, contrib]
    by_cases other : hit (otherSide x)
    · rw [show n = 2 from if_pos other]
      obtain ⟨a, b, -⟩ := both own other fun read => alone read other
      exact ⟨a, b⟩
    · rw [show n = 1 from if_neg other, one own other]
      exact LegCounted.port settle_abandoned_counted (sweepable_port own)
  case counted => exact LegCounted.of_parts settle_abandoned_counted (by rw [monitors, one own miss]) (by rw [contrib, one own miss])
  case read =>
    obtain ⟨again, ends⟩ := settle_abandoned_read (s := s) (i := i) (x := x) read
    rw [ott, one own miss]
    exact ⟨again, ends⟩
  case write =>
    refine ⟨fun miss sent => ?_, fun settled busy => ?_⟩
    · rw [ott, one own miss]
      exact (settle_abandoned_write write).1 sent
    · rw [ott]
      by_cases other : hit (otherSide x)
      · exact (both own other write).2.2 busy
      · rw [one own other]
        exact (settle_abandoned_write write).2 (settled.resolve_left other) busy

end Sys2Proof.Machine

/-! PROOF. The copy engine while legs are lost and waiting reads end: a rebuild only fails and drains (sections 8.1 and 9.4). -/

namespace Sys2Proof.Machine

/-! ### The engine falls -/

/-- JOB_DONE is pending with the REBUILD slot's bit. -/
def State.rebuildTold (s : State) : Prop := (s.causes.entries[causeIx .jobDone]).pending = true
  ∧ (s.causes.entries[causeIx .jobDone]).detail &&& 4#16 = 4#16

/-- The drain of `s` has ended in `t` (R159). -/
structure DrainOver (s t : State) : Prop where
  idle : t.copy.state = .idle
  window : t.copy.window = none
  slots : ∀ k : SlotIx, (t.copy.slots[k]).state = .free
  job : t.jobs.rebuild = ⟨.failed, reasonCode s.copy.reason⟩
  told : t.rebuildTold

/-- The drain of `s` goes on in `t`, or has ended there; the reason stays. -/
structure Drains (s t : State) : Prop where
  reason : t.copy.reason = s.copy.reason
  state : (t.copy.state = .draining ∧ t.copy.window = s.copy.window ∧ t.jobs.rebuild = s.jobs.rebuild) ∨ DrainOver s t

/-- What reports other than GOOD do to the engine: an IDLE one stays, a DRAINING one drains on, and the legs of a window that is not
under rebuild stay, as that window does. -/
structure EngineFalls (s t : State) : Prop where
  told : s.rebuildTold → t.rebuildTold
  idle : s.copy.state = .idle → t.copy = s.copy ∧ t.jobs.rebuild = s.jobs.rebuild
  draining : s.copy.state = .draining → Drains s t
  off : ∀ w : WindowIx, s.underRebuild w = false → t.underRebuild w = false ∧ ∀ x, (t.windows[w]).leg x = (s.windows[w]).leg x

namespace EngineFalls
variable {s t u : State}

/-- Whatever leaves the engine, the REBUILD job, JOB_DONE and every leg alone. -/
theorem of_same (copy : t.copy = s.copy) (job : t.jobs.rebuild = s.jobs.rebuild)
    (cause : t.causes.entries[causeIx .jobDone] = s.causes.entries[causeIx .jobDone])
    (legs : ∀ (w : WindowIx) (x : Side), (t.windows[w]).leg x = (s.windows[w]).leg x) : EngineFalls s t where
  told h := by rw [State.rebuildTold, cause]; exact h
  idle _ := ⟨copy, job⟩
  draining h := ⟨by rw [copy], .inl ⟨by rw [copy]; exact h, by rw [copy], job⟩⟩
  off w h := ⟨by rw [State.underRebuild, copy]; exact h, legs w⟩

theorem of_frame {parts : List Part} (h : SameExcept parts s t) (none : ∀ f ∈ [Part.copy, .jobs, .causes, .windows], f ∉ parts) :
    EngineFalls s t := by
  have copy : t.copy = s.copy := h .copy (none _ (by simp))
  have jobs : t.jobs = s.jobs := h .jobs (none _ (by simp))
  have causes : t.causes = s.causes := h .causes (none _ (by simp))
  have windows : t.windows = s.windows := h .windows (none _ (by simp))
  exact of_same copy (by rw [jobs]) (by rw [causes]) fun w x => by rw [windows]

theorem rfl_ : EngineFalls s s := of_same rfl rfl rfl fun _ _ => rfl

theorem trans (h : EngineFalls s t) (k : EngineFalls t u) : EngineFalls s u := by
  refine ⟨fun told => k.told (h.told told), fun idle => ?_, fun draining => ?_, fun w off => ?_⟩
  · obtain ⟨copy, job⟩ := h.idle idle
    obtain ⟨copy', job'⟩ := k.idle (by rw [copy]; exact idle)
    exact ⟨copy'.trans copy, job'.trans job⟩
  · obtain ⟨reason, on | ended⟩ := h.draining draining
    · obtain ⟨state, window, job⟩ := on
      obtain ⟨reason', on' | ended'⟩ := k.draining state
      · obtain ⟨state', window', job'⟩ := on'
        exact ⟨reason'.trans reason, .inl ⟨state', window'.trans window, job'.trans job⟩⟩
      · exact ⟨reason'.trans reason, .inr { ended' with job := by rw [ended'.job, reason] }⟩
    · obtain ⟨copy, job⟩ := k.idle ended.idle
      exact ⟨by rw [copy, reason], .inr ⟨by rw [copy]; exact ended.idle, by rw [copy]; exact ended.window, by rw [copy]; exact ended.slots,
        job.trans ended.job, k.told ended.told⟩⟩
  · obtain ⟨off', legs⟩ := h.off w off
    obtain ⟨off'', legs'⟩ := k.off w off'
    exact ⟨off'', fun x => (legs' x).trans (legs x)⟩

theorem ite {c : Prop} [Decidable c] (h : EngineFalls s t) (k : EngineFalls s u) : EngineFalls s (if c then t else u) := by
  split
  · exact h
  · exact k

theorem foldl {α : Type} {f : State → α → State} (h : ∀ s a, EngineFalls s (f s a)) (l : List α) (s : State) :
    EngineFalls s (l.foldl f s) := by
  induction l generalizing s with
  | nil => exact .rfl_
  | cons a l ih => exact (h s a).trans (ih (f s a))

end EngineFalls

/-! ### Reports other than GOOD -/

section reports
variable (s : State)

theorem allFree_iff (c : CopyEngine) : c.allFree = true ↔ ∀ k : SlotIx, (c.slots[k]).state = .free := by
  rw [CopyEngine.allFree, List.all_eq_true]
  refine ⟨fun h k => beq_iff_eq.mp (h _ (Vector.mem_toList_iff.mpr (Vector.getElem_mem k.2))), fun h k mem => ?_⟩
  obtain ⟨n, bound, rfl⟩ := List.getElem_of_mem mem
  exact beq_iff_eq.mpr (h ⟨n, by simpa using bound⟩)

/-- A raised JOB_DONE with the REBUILD slot's bit. -/
theorem endJob_told (how : JobState) (n : Nat) : (s.endJob .rebuild how n).rebuildTold :=
  ⟨raise_pending (s.setJob .rebuild ⟨how, n⟩) _ _, raise_bits (s.setJob .rebuild ⟨how, n⟩) _ _ rfl⟩

theorem drainEnd_over (draining : s.copy.state = .draining) (free : ∀ k : SlotIx, (s.copy.slots[k]).state = .free) :
    DrainOver s s.drainEnd ∧ s.drainEnd.copy = { s.copy with state := .idle, window := none }
      ∧ s.drainEnd.jobs = { s.jobs with rebuild := ⟨.failed, reasonCode s.copy.reason⟩ } := by
  have ended : s.drainEnd = ({ s with copy := { s.copy with state := .idle, window := none } }).endJob .rebuild .failed (reasonCode s.copy.reason) :=
    if_pos ⟨draining, (allFree_iff _).mpr free⟩
  rw [ended]
  exact ⟨⟨rfl, rfl, free, rfl, endJob_told _ _ _⟩, rfl, rfl⟩

theorem drainEnd_waits (busy : ∃ k : SlotIx, (s.copy.slots[k]).state ≠ .free) : s.drainEnd = s := by
  refine if_neg fun h => ?_
  obtain ⟨k, busy⟩ := busy
  exact busy ((allFree_iff _).mp h.2 k)

/-- The drain's end leaves every window. -/
theorem drainEnd_windows : s.drainEnd.windows = s.windows := drainEnd_frame s .windows (by simp)

theorem drainEnd_drains (draining : s.copy.state = .draining) : Drains s s.drainEnd := by
  by_cases free : ∀ k : SlotIx, (s.copy.slots[k]).state = .free
  · obtain ⟨ended, copy, -⟩ := drainEnd_over s draining free
    exact ⟨by rw [copy], .inr ended⟩
  · rw [drainEnd_waits s (not_forall.mp free)]
    exact ⟨rfl, .inl ⟨draining, rfl, rfl⟩⟩

/-- While DRAINING a report frees its slot (R159). -/
theorem freeDrain_drains (k : SlotIx) (draining : s.copy.state = .draining) : Drains s (s.freeSlot k).drainEnd := by
  obtain ⟨reason, state⟩ := drainEnd_drains (s.freeSlot k) draining
  exact ⟨reason, state.imp id fun ended => ⟨ended.idle, ended.window, ended.slots, ended.job, ended.told⟩⟩

theorem drainEnd_told : s.rebuildTold → s.drainEnd.rebuildTold := fun h => by
  unfold State.drainEnd
  split
  · exact endJob_told _ _ _
  · exact h

/-- The part with the rebuild failed, before its drain may end at once. -/
def State.failing (s : State) (w : WindowIx) (reason : FailReason) : State :=
  (({ s with copy := { s.copy with state := .draining, reason := reason } }).setLeg w s.copy.rebuilding .lost).withdrawPending

theorem failRebuild_eq {w : WindowIx} (copying : s.copy.state = .copying) (window : s.copy.window = some w) (reason : FailReason) :
    s.failRebuild reason = (s.failing w reason).drainEnd := by
  rw [State.failRebuild, copying, window]
  rfl

theorem failRebuild_none (reason : FailReason) (off : ∀ w, s.underRebuild w = false) : s.failRebuild reason = s := by
  unfold State.failRebuild
  split
  · rename_i w copying window
    have under : s.underRebuild w = true := by
      rw [State.underRebuild, copying, window, beq_self_eq_true, beq_self_eq_true]
      rfl
    rw [off w] at under
    cases under
  · rfl

theorem underRebuild_iff (w : WindowIx) : s.underRebuild w = true ↔ s.copy.state = .copying ∧ s.copy.window = some w := by
  rw [State.underRebuild, Bool.and_eq_true, beq_iff_eq, beq_iff_eq]

/-- A window is not under rebuild while the engine is not COPYING. -/
theorem underRebuild_down (down : s.copy.state ≠ .copying) (w : WindowIx) : s.underRebuild w = false :=
  Bool.eq_false_iff.mpr fun h => down ((underRebuild_iff s w).mp h).1

/-- A failed rebuild is no longer COPYING. -/
theorem drainEnd_down (down : s.copy.state ≠ .copying) : s.drainEnd.copy.state ≠ .copying := by
  unfold State.drainEnd
  split
  · exact show EngineState.idle ≠ .copying by decide
  · exact down

theorem failing_leg_other {w v : WindowIx} (reason : FailReason) (h : v ≠ w) (x : Side) :
    (((s.failing w reason).windows[v]).leg x) = (s.windows[v]).leg x := by
  rw [show (s.failing w reason).windows[v] = s.windows[v] from modWindow_other s w _ h]

theorem failRebuild_falls (reason : FailReason) : s.copy.state = .copying → EngineFalls s (s.failRebuild reason) := by
  intro copying
  cases window : s.copy.window with
  | none =>
    rw [failRebuild_none s reason fun w => Bool.eq_false_iff.mpr fun under => by
      rw [((underRebuild_iff s w).mp under).2] at window
      cases window]
    exact .rfl_
  | some w =>
    rw [failRebuild_eq s copying window reason]
    refine ⟨fun told => drainEnd_told _ told, fun idle => ?_, fun draining => ?_, fun v off => ⟨?_, fun x => ?_⟩⟩
    · rw [copying] at idle
      cases idle
    · rw [copying] at draining
      cases draining
    · exact underRebuild_down _ (drainEnd_down _ (show EngineState.draining ≠ .copying by decide)) v
    · rw [drainEnd_windows]
      refine failing_leg_other s reason (fun same => ?_) x
      subst same
      rw [(underRebuild_iff s v).mpr ⟨copying, window⟩] at off
      cases off

theorem copyReport_falls (k : SlotIx) {st : Status} (bad : st ≠ .good) (d : Option LineData) : EngineFalls s (s.copyReport k st d) := by
  have freed : EngineFalls s (s.freeSlot k) ∨ s.copy.state ≠ .copying := by
    by_cases copying : s.copy.state = .copying
    · refine .inl ⟨id, fun idle => ?_, fun draining => ?_, fun w off => ⟨off, fun _ => rfl⟩⟩
      · rw [copying] at idle
        cases idle
      · rw [copying] at draining
        cases draining
    · exact .inr copying
  have fails (reason : FailReason) (copying : s.copy.state = .copying) : EngineFalls s ((s.freeSlot k).failRebuild reason) :=
    (freed.resolve_right fun down => down copying).trans (failRebuild_falls (s.freeSlot k) reason copying)
  unfold State.copyReport
  split
  · exact .rfl_
  · rename_i draining
    refine ⟨fun told => drainEnd_told _ told, fun idle => ?_, fun _ => freeDrain_drains s k draining, fun w off => ⟨?_, fun x => ?_⟩⟩
    · rw [draining] at idle
      cases idle
    · exact underRebuild_down _ (drainEnd_down _ (by rw [show (s.freeSlot k).copy.state = _ from draining]; decide)) w
    · rw [drainEnd_windows]
      rfl
  · rename_i copying
    split
    · exact .rfl_
    · split
      · exact absurd rfl bad
      · exact fails _ copying
    · rw [if_neg bad]
      exact fails _ copying

theorem stallRing_falls (which : RingWrite) : EngineFalls s (s.stallRing which) :=
  .of_same rfl rfl (raise_other { s with ring := _ } .ringStalled 0 (show causeIx .jobDone ≠ causeIx .ringStalled by decide)) fun _ _ => rfl

theorem report_falls (j : FabricJob) {st : Status} (bad : st ≠ .good) (d : Option LineData) : EngineFalls s (s.report j st d) := by
  cases j with
  | ringRecord =>
    rw [show s.report .ringRecord st d = s.stallRing .record from if_neg bad]
    exact stallRing_falls s .record
  | ringIndex =>
    rw [show s.report .ringIndex st d = s.stallRing .index from if_neg bad]
    exact stallRing_falls s .index
  | copySlot k => exact copyReport_falls s k bad d

theorem freeEntry_falls (i : OttIx) : EngineFalls s (s.freeEntry i) := by
  have kept := freeEntry_frame s i
  have copy : (s.freeEntry i).copy = s.copy := kept .copy (by simp)
  have jobs : (s.freeEntry i).jobs = s.jobs := kept .jobs (by simp)
  have causes : (s.freeEntry i).causes = s.causes := kept .causes (by simp)
  exact .of_same copy (by rw [jobs]) (by rw [causes]) (freeEntry_leg s i)

/-- A finish other than GOOD lets the engine fall. -/
theorem finish_falls (i : OttIx) {st : Status} (bad : st ≠ .good) : EngineFalls s (s.finish i st) := by
  cases state : (s.ott.entries[i]).state with
  | free => rw [finish_free state]; exact .rfl_
  | orphan => rw [finish_orphan state]; exact freeEntry_falls s i
  | live =>
    cases origin : (s.ott.entries[i]).origin with
    | ingress p r tag =>
      rw [finish_ingress state origin, if_neg (fun k => bad k.1)]
      exact (EngineFalls.of_frame (respond_frame s _ _ _ _ _ _) (by simp)).trans (freeEntry_falls _ i)
    | fabric job =>
      rw [finish_fabric state origin, if_neg bad]
      exact (report_falls s job bad _).trans (freeEntry_falls _ i)

theorem cancelLostWaiting_falls : EngineFalls s s.cancelLostWaiting := by
  have cancelled (s : State) (i : OttIx) (x : Side) : EngineFalls s (s.cancelWaiting i x) :=
    (EngineFalls.of_frame (modOttLeg_frame s i x _) (by simp)).trans (finish_falls _ i (readFailure_ne _ x))
  exact .foldl (fun s i => .foldl (fun s x => .ite (cancelled s i x) .rfl_) _ s) _ s

end reports

/-! ### The ring writer while waiting reads end -/

/-- The hold list and the ring stay but for the writer's stall. -/
def RingStays (s t : State) : Prop := t.holdList = s.holdList
  ∧ t.ring = { s.ring with writer := t.ring.writer, stalled := t.ring.stalled, retryTimer := t.ring.retryTimer }

namespace RingStays
variable {s t u : State}

theorem of_frame {parts : List Part} (h : SameExcept parts s t) (none : ∀ f ∈ [Part.ring, .holdList], f ∉ parts) : RingStays s t := by
  have ring : t.ring = s.ring := h .ring (none _ (by simp))
  exact ⟨h .holdList (none _ (by simp)), by rw [ring]⟩

theorem rfl_ : RingStays s s := ⟨rfl, rfl⟩

theorem trans (h : RingStays s t) (k : RingStays t u) : RingStays s u := ⟨k.1.trans h.1, by rw [k.2, h.2]⟩

theorem ite {c : Prop} [Decidable c] (h : RingStays s t) (k : RingStays s u) : RingStays s (if c then t else u) := by
  split
  · exact h
  · exact k

theorem foldl {α : Type} {f : State → α → State} (h : ∀ s a, RingStays s (f s a)) (l : List α) (s : State) : RingStays s (l.foldl f s) := by
  induction l generalizing s with
  | nil => exact .rfl_
  | cons a l ih => exact (h s a).trans (ih (f s a))

end RingStays

section ringStays
variable (s : State)

theorem report_ringStays (j : FabricJob) {st : Status} (bad : st ≠ .good) (d : Option LineData) : RingStays s (s.report j st d) := by
  cases j with
  | ringRecord =>
    rw [show s.report .ringRecord st d = s.stallRing .record from if_neg bad]
    exact ⟨rfl, rfl⟩
  | ringIndex =>
    rw [show s.report .ringIndex st d = s.stallRing .index from if_neg bad]
    exact ⟨rfl, rfl⟩
  | copySlot k => exact .of_frame (copyReport_frame s k st d) (by decide)

theorem finish_ringStays (i : OttIx) {st : Status} (bad : st ≠ .good) : RingStays s (s.finish i st) := by
  cases state : (s.ott.entries[i]).state with
  | free => rw [finish_free state]; exact .rfl_
  | orphan => rw [finish_orphan state]; exact .of_frame (freeEntry_frame s i) (by simp)
  | live =>
    cases origin : (s.ott.entries[i]).origin with
    | ingress p r tag => exact .of_frame (finish_ingress_frame state origin fun k => bad k.1) (by simp)
    | fabric job =>
      rw [finish_fabric state origin, if_neg bad]
      exact (report_ringStays s job bad _).trans (.of_frame (freeEntry_frame _ i) (by simp))

theorem singleLegLoss_ringStays (w : WindowIx) (x : Side) : RingStays s (s.singleLegLoss w x) := by
  have cancelled (s : State) (i : OttIx) (x : Side) : RingStays s (s.cancelWaiting i x) :=
    (RingStays.of_frame (modOttLeg_frame s i x _) (by simp)).trans (finish_ringStays _ i (readFailure_ne _ x))
  exact (RingStays.of_frame (loseLegs_frame s w _) (by simp)).trans
    (.foldl (fun s i => .foldl (fun s x => .ite (cancelled s i x) .rfl_) _ s) _ _)

end ringStays

end Sys2Proof.Machine

/-! PROOF. The loss of a single leg by a failed write (sections 4.5, 8.1 and 9.4). -/

namespace Sys2Proof.Machine

/-! ### The leg becomes LOST (R139) -/

/-- A cause whose details merge to the lowest holds at most the number raised (R170). -/
theorem raise_le (s : State) {c : Cause} (rule : mergeRule c = .lowest) {n : Nat} (bound : n < 65536) :
    ((s.raise c (numDetail n)).causes.entries[causeIx c]).detail.toNat ≤ n := by
  have number : (numDetail n).toNat = n := Nat.mod_eq_of_lt bound
  rw [raise_get, rule]
  split
  · dsimp only
    rw [mergeDetail]
    split
    · exact number.le
    · rename_i held
      exact (Nat.le_of_not_lt held).trans number.le
  · exact number.le

/-- The one leg that a failed write loses. -/
def onlySide (x : Side) : Side → Bool := fun y => y == x

section loss
variable (s : State) (w : WindowIx) (x : Side)

theorem singleLegLoss_eq : s.singleLegLoss w x = (s.loseLegs w (onlySide x)).cancelLostWaiting := rfl

/-- What is left of a window after the loss of one of its legs. -/
structure LegLost (t : State) : Prop where
  lost : ((t.windows[w]).leg x).state = .lost
  other : (t.windows[w]).leg (otherSide x) = ((s.marked w (onlySide x)).windows[w]).leg (otherSide x)
  cause : ∀ c : Cause, c ∉ reportCauses → t.causes.entries[causeIx c] = (s.lossTold w (onlySide x)).causes.entries[causeIx c]
  off : t.underRebuild w = false
  reason : s.underRebuild w = true → s.copy.rebuilding = x → t.copy.state ≠ .copying ∧ t.copy.reason = .rebuildLegLost

theorem lossTold_copy (hit : Side → Bool) : (s.lossTold w hit).copy = s.copy := by
  unfold State.lossTold
  split <;> rfl

theorem lossTold_windows (hit : Side → Bool) : (s.lossTold w hit).windows = (s.marked w hit).windows := by
  unfold State.lossTold
  split <;> rfl

/-- A failed rebuild: its reason, its engine and its leg. -/
theorem failRebuild_leaves (under : s.underRebuild w = true) (reason : FailReason) : (s.failRebuild reason).copy.state ≠ .copying
    ∧ (s.failRebuild reason).copy.reason = reason
    ∧ (∀ y : Side, ((s.failRebuild reason).windows[w]).leg y = if y = s.copy.rebuilding then { (s.windows[w]).leg y with state := .lost }
      else (s.windows[w]).leg y)
    ∧ ∀ c : Cause, c ≠ .jobDone → (s.failRebuild reason).causes.entries[causeIx c] = s.causes.entries[causeIx c] := by
  obtain ⟨copying, window⟩ := (underRebuild_iff s w).mp under
  have kept := failRebuild_lossKept (hit := fun _ _ => False) (raised := [.jobDone]) s reason (by simp)
  rw [failRebuild_eq s copying window reason] at kept ⊢
  refine ⟨drainEnd_down _ (show EngineState.draining ≠ .copying by decide), (drainEnd_drains (s.failing w reason) rfl).reason, fun y => ?_,
    fun c other => kept.cause c (by simpa using other)⟩
  rw [drainEnd_windows, show (s.failing w reason).windows[w] = _ from modWindow_get s w _]
  by_cases here : y = s.copy.rebuilding
  · subst here
    rw [if_pos rfl, Window.modLeg_leg]
  · rw [if_neg here, eq_otherSide here, Window.modLeg_other]

/-- The loss of one leg that was IN_SERVICE or REBUILDING. -/
theorem loseLegs_one (losable : ((s.windows[w]).leg x).state.losable = true) : LegLost s w x (s.loseLegs w (onlySide x)) := by
  have own : s.losing w (onlySide x) x = true := by rw [State.losing, onlySide, beq_self_eq_true, losable, Bool.and_true]
  have spared : s.losing w (onlySide x) (otherSide x) = false := by
    rw [State.losing, onlySide, beq_eq_false_iff_ne.mpr (otherSide_ne x), Bool.false_and]
  have lost := loseLegs_lost s w (onlySide x) own
  have copy := lossTold_copy s w (onlySide x)
  have windows := lossTold_windows s w (onlySide x)
  have leaves := fun under => failRebuild_leaves (s.lossTold w (onlySide x)) w (by rw [State.underRebuild, copy]; exact under)
  have form := loseLegs_some s w (onlySide x) (List.any_eq_true.mpr ⟨x, mem_bothSides x, own⟩)
  by_cases under : s.underRebuild w = true
  · obtain ⟨fails, reason_⟩ : ∃ r, s.loseLegs w (onlySide x) = (s.lossTold w (onlySide x)).failRebuild r
        ∧ (s.copy.rebuilding = x → r = .rebuildLegLost) := by
      by_cases survivor : s.survivorLost w (onlySide x) = true
      · refine ⟨_, form.trans (if_pos survivor), fun same => ?_⟩
        rw [State.survivorLost, same, spared, Bool.and_false] at survivor
        cases survivor
      · refine ⟨_, (form.trans (if_neg survivor)).trans (if_pos ?_), fun _ => rfl⟩
        by_cases same : s.copy.rebuilding = x
        · rw [under, same, own]
          rfl
        · rw [State.survivorLost, under, eq_otherSide same, otherSide_otherSide, own] at survivor
          exact absurd rfl survivor
    obtain ⟨same, named⟩ := reason_
    obtain ⟨down, reason, legs, causes⟩ := leaves under fails
    rw [same] at lost ⊢
    refine ⟨lost, ?_, fun c other => causes c fun k => other (by rw [k]; decide), underRebuild_down _ down w,
      fun _ rebuilding => ⟨down, reason.trans (named rebuilding)⟩⟩
    rw [legs, windows, copy]
    split
    · rename_i rebuilding
      have follows : s.losesLeg w (onlySide x) (otherSide x) = true := by
        rw [State.losesLeg, State.survivorLost, under, ← rebuilding, otherSide_otherSide, own, beq_self_eq_true]
        exact Bool.or_true _
      rw [marked_leg, follows]
      rfl
    · rfl
  · have same : s.loseLegs w (onlySide x) = s.lossTold w (onlySide x) := by
      rw [form, State.survivorLost, Bool.eq_false_iff.mpr under, Bool.false_and, Bool.false_and]
      rfl
    rw [same] at lost ⊢
    exact ⟨lost, by rw [windows], fun _ _ => rfl, by rw [State.underRebuild, copy]; exact Bool.eq_false_iff.mpr under, fun k => absurd k under⟩

/-- An engine that is not COPYING stays so, with its reason. -/
theorem EngineFalls.down {s t : State} (h : EngineFalls s t) (down : s.copy.state ≠ .copying) :
    t.copy.state ≠ .copying ∧ t.copy.reason = s.copy.reason := by
  cases state : s.copy.state with
  | copying => exact absurd state down
  | idle => rw [(h.idle state).1]; exact ⟨down, rfl⟩
  | draining =>
    obtain ⟨reason, on | ended⟩ := h.draining state
    · exact ⟨by rw [on.1]; decide, reason⟩
    · exact ⟨by rw [ended.idle]; decide, reason⟩

/-- A leg loss followed by the ends of waiting reads. -/
theorem LegLost.cancelled {u : State} (h : LegLost s w x u) : LegLost s w x u.cancelLostWaiting := by
  have falls := cancelLostWaiting_falls u
  have kept := cancelLostWaiting_lossKept (hit := fun _ _ => False) (raised := reportCauses) u (List.Subset.refl _)
  obtain ⟨off, legs⟩ := falls.off w h.off
  refine ⟨by rw [legs]; exact h.lost, by rw [legs]; exact h.other, fun c other => (kept.cause c other).trans (h.cause c other), off,
    fun under rebuilding => ?_⟩
  obtain ⟨down, reason⟩ := h.reason under rebuilding
  obtain ⟨down', reason'⟩ := falls.down down
  exact ⟨down', reason'.trans reason⟩

theorem singleLegLoss_one (losable : ((s.windows[w]).leg x).state.losable = true) : LegLost s w x (s.singleLegLoss w x) :=
  LegLost.cancelled s w x (loseLegs_one s w x losable)

/-- The cause that the loss raises: LEG_LOST while a leg is IN_SERVICE, and WINDOW_UNAVAILABLE when none is (R139). -/
theorem LegLost.told {t : State} (h : LegLost s w x t) {c : Cause}
    (named : c = if ((t.windows[w]).leg (otherSide x)).state = .inService then .legLost else .windowUnavailable)
    (own : s.losesLeg w (onlySide x) x = true) :
    (t.causes.entries[causeIx c]).pending = true ∧ (t.causes.entries[causeIx c]).detail.toNat ≤ w.1 := by
  have bound : w.1 < 65536 := w.2.trans (by decide)
  have down : (((s.marked w (onlySide x)).windows[w]).leg x).state ≠ .inService := by
    rw [marked_leg, own]
    exact show LegState.lost ≠ .inService by decide
  have serves : ((s.marked w (onlySide x)).windows[w]).legCondition = .unavailable ↔
      (((s.marked w (onlySide x)).windows[w]).leg (otherSide x)).state ≠ .inService := by
    rw [legCondition_unavailable, forall_side_iff x]
    exact and_iff_right down
  rw [h.other] at named
  by_cases up : (((s.marked w (onlySide x)).windows[w]).leg (otherSide x)).state = .inService
  · rw [if_pos up] at named
    subst named
    rw [h.cause _ (by decide), State.lossTold, if_neg fun k => serves.mp k up]
    exact ⟨raise_pending _ _ _, raise_le _ rfl bound⟩
  · rw [if_neg up] at named
    subst named
    rw [h.cause _ (by decide), State.lossTold, if_pos (serves.mpr up)]
    exact ⟨raise_pending _ _ _, raise_le _ rfl bound⟩

/-- A leg that is LOST or ABSENT is not lost again. -/
theorem loseLegs_gone (gone : ((s.windows[w]).leg x).state.losable = false) : s.loseLegs w (onlySide x) = s := by
  refine loseLegs_none s w _ (List.any_eq_false.mpr fun y _ => ?_)
  rw [State.losing, onlySide]
  by_cases same : y = x
  · subst same
    rw [gone, Bool.and_false]
    decide
  · rw [beq_eq_false_iff_ne.mpr same, Bool.false_and]
    decide

/-- What a single loss keeps. -/
theorem singleLegLoss_lossKept : LossKept (fun v y => v = w ∧ onlySide x y = true) lossCauses s (s.singleLegLoss w x) :=
  (loseLegs_lossKept s w (onlySide x)).trans ((cancelLostWaiting_lossKept _ (by decide)))

theorem singleLegLoss_cut : EntriesCut s (s.singleLegLoss w x) := by
  rw [singleLegLoss_eq]
  exact (EntriesCut.of_ott (loseLegs_ott s w _)).trans (cancelLostWaiting_cut _)

/-- A change of legs leaves every window's outstanding count. -/
theorem setLeg_outstanding (st : LegState) (v : WindowIx) : ((s.setLeg w x st).windows[v]).outstanding = (s.windows[v]).outstanding := by
  by_cases here : v = w
  · subst here
    rw [show (s.setLeg v x st).windows[v] = _ from modWindow_get s v _, Window.modLeg_eq]
  · rw [show (s.setLeg w x st).windows[v] = _ from modWindow_other s w _ here]

theorem failRebuild_outstanding (reason : FailReason) (v : WindowIx) :
    ((s.failRebuild reason).windows[v]).outstanding = (s.windows[v]).outstanding := by
  unfold State.failRebuild
  split
  · rw [drainEnd_windows]
    exact setLeg_outstanding _ _ _ _ v
  · rfl

theorem loseLegs_outstanding (hit : Side → Bool) (v : WindowIx) : ((s.loseLegs w hit).windows[v]).outstanding = (s.windows[v]).outstanding := by
  have told : ((s.lossTold w hit).windows[v]).outstanding = (s.windows[v]).outstanding := by
    rw [lossTold_windows]
    by_cases here : v = w
    · subst here
      rw [marked_get]
    · rw [show (s.marked w hit).windows[v] = _ from modWindow_other s w _ here]
  cases some_ : bothSides.any (s.losing w hit)
  · rw [loseLegs_none s w hit some_]
  · rw [loseLegs_some s w hit some_]
    split
    · rw [failRebuild_outstanding, told]
    · split
      · rw [failRebuild_outstanding, told]
      · exact told

/-- Where no read waits, a single loss leaves the link units. -/
theorem singleLegLoss_links (none : ∀ (i : OttIx) (y : Side), ((s.ott.entries[i]).leg y).progress ≠ .waiting) :
    (s.singleLegLoss w x).links = s.links ∧ (s.singleLegLoss w x).ott = s.ott ∧ ∀ v : WindowIx,
      ((s.singleLegLoss w x).windows[v]).outstanding = (s.windows[v]).outstanding := by
  have same : s.singleLegLoss w x = s.loseLegs w (onlySide x) := cancelLostWaiting_none _ (by rw [loseLegs_ott]; exact none)
  rw [same]
  have kept := loseLegs_frame s w (onlySide x)
  exact ⟨kept .links (by simp), kept .ott (by simp), loseLegs_outstanding s w _⟩

end loss

end Sys2Proof.Machine

/-! PROOF. The finish of writes of server and trunk origin (sections 4.5 and 4.7). -/

namespace Sys2Proof.Machine

/-! ### The final status of a write (Table 4-4) -/

section status
variable {e : OttEntry} (x : Side) (trunk : PortIx → Bool)

theorem anyGood_iff : (bothSides.any fun y => (e.leg y).progress == .doneGood) = true ↔
    (e.leg x).progress = .doneGood ∨ (e.leg (otherSide x)).progress = .doneGood := by
  rw [List.any_eq_true]
  refine ⟨fun ⟨y, _, h⟩ => ?_, fun h => h.elim (fun k => ⟨x, mem_bothSides x, beq_iff_eq.mpr k⟩) fun k => ⟨_, mem_bothSides _, beq_iff_eq.mpr k⟩⟩
  by_cases side : y = x
  · exact .inl (side ▸ beq_iff_eq.mp h)
  · exact .inr (eq_otherSide side ▸ beq_iff_eq.mp h)

theorem writeStatus_good (good : (e.leg x).progress = .doneGood ∨ (e.leg (otherSide x)).progress = .doneGood) : e.writeStatus trunk = .good :=
  if_pos ((anyGood_iff x).mpr good)

/-- A write none of whose legs is DONE_GOOD does not finish GOOD. -/
theorem writeStatus_bad (bad : ¬ ((e.leg x).progress = .doneGood ∨ (e.leg (otherSide x)).progress = .doneGood)) :
    e.writeStatus trunk ≠ .good := by
  rw [OttEntry.writeStatus, if_neg fun k => bad ((anyGood_iff x).mp k)]
  split
  · decide
  · dsimp only
    split
    · split <;> decide
    · decide

/-- The transaction has one leg when the other side has none. -/
theorem legCount_one (own : (e.leg x).progress ≠ .none) : e.legCount = 1 ↔ (e.leg (otherSide x)).progress = .none := by
  have count : e.legCount = (if (e.leg .primary).progress = .none then 0 else 1) + if (e.leg .mirror).progress = .none then 0 else 1 := by
    rw [OttEntry.legCount]
    by_cases primary : (e.leg .primary).progress = .none <;> by_cases mirror : (e.leg .mirror).progress = .none <;>
      simp [bothSides, primary, mirror]
  rw [count]
  cases x
  · rw [if_neg own]
    show 1 + (if (e.leg .mirror).progress = .none then 0 else 1) = 1 ↔ (e.leg .mirror).progress = .none
    split <;> simp_all
  · rw [if_neg own]
    show (if (e.leg .primary).progress = .none then 0 else 1) + 1 = 1 ↔ (e.leg .primary).progress = .none
    split <;> simp_all

/-- The status passed through a single failed leg on a TRUNK port, and LOST in every other case (R76). -/
theorem writeStatus_failed {fail : Option Status} (own : (e.leg x).progress = .doneFailed) (failed : (e.leg x).failStatus = fail)
    (bad : (e.leg (otherSide x)).progress ≠ .doneGood) (passed : trunk (e.leg x).port = true → fail ≠ some .good ∧ fail ≠ some .fault) :
    e.writeStatus trunk = if (e.leg (otherSide x)).progress = .none ∧ trunk (e.leg x).port = true then fail.getD .lost else .lost := by
  have none_ : ¬ (bothSides.any fun y => (e.leg y).progress == .doneGood) = true := fun k =>
    ((anyGood_iff x).mp k).elim (by rw [own]; decide) bad
  obtain ⟨y, found⟩ : ∃ y, (bothSides.find? fun y => (e.leg y).progress == .doneFailed) = some y :=
    Option.isSome_iff_exists.mp (List.find?_isSome.mpr ⟨x, mem_bothSides x, beq_iff_eq.mpr own⟩)
  have hit := List.find?_some found
  rw [OttEntry.writeStatus, if_neg none_, found]
  dsimp only
  have count := legCount_one (e := e) x (by rw [own]; decide)
  by_cases one : (e.leg (otherSide x)).progress = .none
  · have same : y = x := by
      by_contra differs
      rw [eq_otherSide differs, one] at hit
      cases hit
    subst same
    by_cases through : trunk (e.leg y).port = true
    · obtain ⟨good, fault⟩ := passed through
      rw [if_pos ⟨count.mpr one, through⟩, if_pos ⟨one, through⟩, failed]
      cases fail with
      | none => rfl
      | some st =>
        cases st
        case good => exact absurd rfl good
        case fault => exact absurd rfl fault
        all_goals rfl
    · rw [if_neg fun k => through k.2, if_neg fun k => through k.2]
  · rw [if_neg fun k => one (count.mp k.1), if_neg fun k => one k.1]

end status

/-! ### A write goes on after its leg settled -/

section goes
variable {s : State} {i : OttIx} {x : Side} {way : SettleWay}

/-- The write waits while a leg is SENT, and finishes otherwise (R76). -/
def State.writeEnds (s : State) (i : OttIx) : State := if (s.ott.entries[i]).anySent then s else s.finishWrite i

theorem writeLegSettled_failed (failed : way.progress = .doneFailed) :
    s.writeLegSettled i x way = (s.singleLegLoss (s.ott.entries[i]).window x).writeEnds i := by
  rw [State.writeLegSettled, if_pos failed, State.writeEnds]

theorem writeEnds_waits (sent : (s.ott.entries[i]).anySent = true) : s.writeEnds i = s := if_pos sent

theorem writeEnds_finishes (last : ¬ (s.ott.entries[i]).anySent = true) : s.writeEnds i =
    s.finish i ((s.ott.entries[i]).writeStatus fun p => s.links[p].mode == .trunk) := if_neg last

theorem writeEnds_frame : SameExcept finishParts s (s.writeEnds i) := .ite .rfl_ (finish_frame s i _)

theorem writeEnds_other {j : OttIx} (h : j ≠ i) : (s.writeEnds i).ott.entries[j] = s.ott.entries[j] := by
  unfold State.writeEnds
  split
  · rfl
  · exact finish_other s i _ h

theorem writeEnds_link (q : PortIx) : (s.writeEnds i).links[q] = { s.links[q] with txQueue := (s.writeEnds i).links[q].txQueue } := by
  unfold State.writeEnds
  split
  · rfl
  · exact finish_links_kept s i _ q

/-- Metering raises its own causes alone. -/
theorem meter_otherCause (k : TenantIx) (read congested : Bool) {c : Cause} (cap : c ≠ .tenantCapped) (cut : c ≠ .balanceSaturated) :
    (s.meter k read congested).causes.entries[causeIx c] = s.causes.entries[causeIx c] :=
  (meter_cause s k read congested fun h => cap (causeIx_injective h.1)).trans
    (accumulated_cause s k read congested fun h => cut (causeIx_injective h.1))

/-- A finish that reports to no fabric job leaves the engine, the legs, and every cause but those of the meter block. -/
theorem writeEnds_quiet (own : (s.ott.entries[i]).state = .free
      ∨ ∃ q r tag, (s.ott.entries[i]).state = .live ∧ (s.ott.entries[i]).origin = .ingress q r tag) :
    (s.writeEnds i).copy = s.copy ∧ (∀ (w : WindowIx) (y : Side), ((s.writeEnds i).windows[w]).leg y = (s.windows[w]).leg y)
      ∧ ∀ c : Cause, c ≠ .tenantCapped → c ≠ .balanceSaturated →
        (s.writeEnds i).causes.entries[causeIx c] = s.causes.entries[causeIx c] := by
  by_cases sent : (s.ott.entries[i]).anySent = true
  · rw [writeEnds_waits sent]
    exact ⟨rfl, fun _ _ => rfl, fun _ _ _ => rfl⟩
  · rw [writeEnds_finishes sent]
    rcases own with free | ⟨q, r, tag, live, origin⟩
    · rw [finish_free free]
      exact ⟨rfl, fun _ _ => rfl, fun _ _ _ => rfl⟩
    · rw [finish_ingress live origin]
      obtain ⟨st, hst⟩ : ∃ st, st = (s.ott.entries[i]).writeStatus fun p => s.links[p].mode == .trunk := ⟨_, rfl⟩
      rw [← hst]
      obtain ⟨a, ha⟩ : ∃ a, a = s.respond q (isRead (s.ott.entries[i]).body) r tag st
        (if isRead (s.ott.entries[i]).body && st == .good then (s.ott.entries[i]).readData else none) := ⟨_, rfl⟩
      rw [← ha]
      have answered : SameExcept [.links] s a := by
        rw [ha]
        exact respond_frame s _ _ _ _ _ _
      have causes : a.causes = s.causes := answered .causes (by simp)
      obtain ⟨m, hm⟩ : ∃ m, m = if st = .good ∧ s.links[q].mode = .server then
        a.meter (s.ott.entries[i]).tenant (isRead (s.ott.entries[i]).body) (s.ott.entries[i]).congestedGood else a := ⟨_, rfl⟩
      rw [← hm]
      have metered : SameExcept [.links, .pacers, .tenants, .causes] s m := by
        rw [hm]
        exact .ite ((answered.mono (by simp)).trans ((meter_frame _ _ _ _).mono (by simp))) (answered.mono (by simp))
      have freed := freeEntry_frame m i
      refine ⟨(freed .copy (by simp)).trans (metered .copy (by simp)), fun w y => ?_, fun c cap cut => ?_⟩
      · rw [freeEntry_leg, show m.windows = s.windows from metered .windows (by simp)]
      · rw [show (m.freeEntry i).causes = m.causes from freed .causes (by simp), ← causes, hm]
        split
        · exact meter_otherCause _ _ _ cap cut
        · rfl

end goes

end Sys2Proof.Machine

/-! PROOF. Writes of server and trunk origin whose leg fails, and the settlement of O29 (sections 4.3 to 4.7 and 8.1). -/

namespace Sys2Proof.Machine

/-- No leg of any entry awaits a send credit. -/
def State.noneWaits (s : State) : Prop := ∀ (j : OttIx) (y : Side), ((s.ott.entries[j]).leg y).progress ≠ .waiting

/-- What a failed leg of a LIVE write of server or trunk origin leaves (R75, R76, R139). -/
structure WriteFailed (s : State) (i : OttIx) (x : Side) (q : PortIx) (r0 : ReqId) (tag0 : Tag) (fail : Option Status) (t : State) : Prop where
  fresh : ((s.windows[(s.ott.entries[i]).window]).leg x).state.losable = true →
    ((t.windows[(s.ott.entries[i]).window]).leg x).state = .lost
      ∧ (∀ c : Cause, (c = if ((t.windows[(s.ott.entries[i]).window]).leg (otherSide x)).state = .inService then .legLost
          else .windowUnavailable) → (t.causes.entries[causeIx c]).pending = true
            ∧ (t.causes.entries[causeIx c]).detail.toNat ≤ (s.ott.entries[i]).window.1)
      ∧ (s.copy.state = .copying → s.copy.window = some (s.ott.entries[i]).window → s.copy.rebuilding = x →
          t.copy.state ≠ .copying ∧ t.copy.reason = .rebuildLegLost)
  again : ((s.windows[(s.ott.entries[i]).window]).leg x).state = .lost → ((t.windows[(s.ott.entries[i]).window]).leg x).state = .lost
    ∧ t.causes.entries[causeIx .legLost] = s.causes.entries[causeIx .legLost]
    ∧ t.causes.entries[causeIx .windowUnavailable] = s.causes.entries[causeIx .windowUnavailable]
  counted : s.LegCounted i x false t
  metered : ((s.ott.entries[i]).leg (otherSide x)).progress ≠ .waiting →
    s.Metered i (((s.ott.entries[i]).leg (otherSide x)).progress == .doneGood && s.links[q].mode == .server)
      ((s.ott.entries[i]).leg (otherSide x)).congested t
  linkFailed : t.causes.entries[causeIx .linkFailed] = s.causes.entries[causeIx .linkFailed]
  waits : ((s.ott.entries[i]).leg (otherSide x)).progress = .sent → (t.ott.entries[i]).state = .live
    ∧ ((t.ott.entries[i]).leg x).progress = .doneFailed ∧ ((t.ott.entries[i]).leg x).failStatus = fail
    ∧ (t.ott.entries[i]).leg (otherSide x) = (s.ott.entries[i]).leg (otherSide x)
    ∧ (s.noneWaits → t.links[q].txQueue = s.links[q].txQueue)
  ends : ((s.ott.entries[i]).leg (otherSide x)).progress ≠ .sent → ((s.ott.entries[i]).leg (otherSide x)).progress ≠ .waiting →
    t.ott.entries[i] = .freed (s.ott.entries[i]).gen
      ∧ ∃ before, t.links[q].txQueue = s.links[q].txQueue ++ before ++ [.response ⟨.wack, r0, tag0,
          if ((s.ott.entries[i]).leg (otherSide x)).progress = .doneGood then .good
          else if ((s.ott.entries[i]).leg (otherSide x)).progress = .none ∧ s.links[((s.ott.entries[i]).leg x).port].mode = .trunk
            then fail.getD .lost else .lost, none⟩]
        ∧ (s.noneWaits → before = [])
  others : ∀ j : OttIx, j ≠ i → (∀ y, ((s.ott.entries[j]).leg y).progress ≠ .waiting) → t.ott.entries[j] = s.ott.entries[j]

section failed
variable {s a : State} {i : OttIx} {x : Side} {way : SettleWay} (from_ : SettleFrom s i a) (write : (s.ott.entries[i]).body ≠ .rd)
  (failed : way.progress = .doneFailed)
include from_ write failed

/-- The settlement of a failed leg: its loss, and the write's end or wait. -/
theorem settle_writeFailed_eq : a.settle i x way =
    ((a.settled i x way).singleLegLoss (s.ott.entries[i]).window x).writeEnds i := by
  rw [settle_write x (by rw [from_.around.body]; exact write), writeLegSettled_failed failed, (from_.settledAround way).window]

omit write failed in
/-- No leg awaits a credit after the settlement where none did before. -/
theorem settled_noneWaits (settles : way.progress ≠ .waiting) (none : s.noneWaits) :
    (a.settled i x way).noneWaits := by
  intro j y
  by_cases here : j = i
  · subst here
    by_cases own : y = x
    · subst own
      rw [from_.leg]
      exact settles
    · rw [eq_otherSide own, from_.otherLeg]
      exact none j _
  · rw [(from_.settledAround (x := x) way).others j here]
    exact none j y

/-- A failed write changes no link's health beyond its settlement. -/
theorem settle_writeFailed_health (p : PortIx) : (a.settle i x way).links[p].health = (a.settled i x way).links[p].health := by
  obtain ⟨more, link, -⟩ := (singleLegLoss_lossKept (a.settled i x way) (s.ott.entries[i]).window x).link p
  rw [settle_writeFailed_eq (x := x) from_ write failed, writeEnds_link, link]

end failed

/-! ### The loss and the end of a failed write -/

section loss
variable {s u : State} {i : OttIx} {x : Side} {w : WindowIx} (b : Around s i u)
  (own : ((u.ott.entries[i]).leg x).progress = .doneFailed)
  (other : (u.ott.entries[i]).leg (otherSide x) = (s.ott.entries[i]).leg (otherSide x))

section entry
include own other

/-- Without a waiting leg the entry of the write survives the loss. -/
theorem loss_entry (calm : ((s.ott.entries[i]).leg (otherSide x)).progress ≠ .waiting) :
    (u.singleLegLoss w x).ott.entries[i] = u.ott.entries[i] :=
  (singleLegLoss_cut u w x).same ((forall_side_iff x).mpr ⟨by rw [own]; decide, by rw [other]; exact calm⟩)

theorem loss_sent (calm : ((s.ott.entries[i]).leg (otherSide x)).progress ≠ .waiting) :
    ((u.singleLegLoss w x).ott.entries[i]).anySent = true ↔ ((s.ott.entries[i]).leg (otherSide x)).progress = .sent := by
  rw [loss_entry own other calm, anySent_iff x, own, other]
  exact or_iff_right (by decide)

end entry

section causes
variable {q : PortIx} {r0 : ReqId} {tag0 : Tag} (live : (s.ott.entries[i]).state = .live)
  (origin : (s.ott.entries[i]).origin = .ingress q r0 tag0)
include b live origin

theorem loss_quiet : ((u.singleLegLoss w x).writeEnds i).copy = (u.singleLegLoss w x).copy
    ∧ (∀ (v : WindowIx) (y : Side), (((u.singleLegLoss w x).writeEnds i).windows[v]).leg y = ((u.singleLegLoss w x).windows[v]).leg y)
    ∧ ∀ c : Cause, c ≠ .tenantCapped → c ≠ .balanceSaturated →
      ((u.singleLegLoss w x).writeEnds i).causes.entries[causeIx c] = (u.singleLegLoss w x).causes.entries[causeIx c] := by
  refine writeEnds_quiet ?_
  rcases singleLegLoss_cut u w x i with same | ⟨-, free⟩
  · rw [same]
    exact .inr ⟨q, r0, tag0, b.state_.trans live, b.origin.trans origin⟩
  · exact .inl free

/-- The leg that was IN_SERVICE or REBUILDING is LOST, its loss told, and its rebuild failed (R139, R157). -/
theorem loss_fresh (losable : ((s.windows[w]).leg x).state.losable = true) :
    ((((u.singleLegLoss w x).writeEnds i).windows[w]).leg x).state = .lost
      ∧ (∀ c : Cause, (c = if ((((u.singleLegLoss w x).writeEnds i).windows[w]).leg (otherSide x)).state = .inService then .legLost
          else .windowUnavailable) → (((u.singleLegLoss w x).writeEnds i).causes.entries[causeIx c]).pending = true
            ∧ (((u.singleLegLoss w x).writeEnds i).causes.entries[causeIx c]).detail.toNat ≤ w.1)
      ∧ (s.copy.state = .copying → s.copy.window = some w → s.copy.rebuilding = x →
          ((u.singleLegLoss w x).writeEnds i).copy.state ≠ .copying ∧ ((u.singleLegLoss w x).writeEnds i).copy.reason = .rebuildLegLost) := by
  obtain ⟨engine, legs, causes⟩ := loss_quiet (w := w) (x := x) b live origin
  have copy : u.copy = s.copy := b.frame .copy (by simp)
  rw [← b.windows] at losable
  have left := singleLegLoss_one u w x losable
  refine ⟨by rw [legs]; exact left.lost, fun c named => ?_, fun copying window rebuilding => ?_⟩
  · rw [legs] at named
    have taken : u.losesLeg w (onlySide x) x = true := by
      rw [State.losesLeg, State.losing, onlySide, beq_self_eq_true, losable]
      rfl
    have calm : c ≠ .tenantCapped ∧ c ≠ .balanceSaturated := by
      rw [named]
      split <;> decide
    rw [causes c calm.1 calm.2]
    exact LegLost.told u w x left named taken
  · rw [engine]
    exact left.reason ((underRebuild_iff u w).mpr ⟨by rw [copy]; exact copying, by rw [copy]; exact window⟩) (by rw [copy]; exact rebuilding)

/-- A leg that was LOST already raises nothing (R139). -/
theorem loss_again (lost : ((s.windows[w]).leg x).state = .lost) :
    ((((u.singleLegLoss w x).writeEnds i).windows[w]).leg x).state = .lost
      ∧ ((u.singleLegLoss w x).writeEnds i).causes.entries[causeIx .legLost] = s.causes.entries[causeIx .legLost]
      ∧ ((u.singleLegLoss w x).writeEnds i).causes.entries[causeIx .windowUnavailable] = s.causes.entries[causeIx .windowUnavailable] := by
  obtain ⟨-, legs, causes⟩ := loss_quiet (w := w) (x := x) b live origin
  rw [← b.windows] at lost
  have ended := cancelLostWaiting_lossKept (hit := fun _ _ => False) (raised := reportCauses) u (List.Subset.refl _)
  rw [← show u.singleLegLoss w x = u.cancelLostWaiting by rw [singleLegLoss_eq, loseLegs_gone u w x (by rw [lost]; rfl)]] at ended
  refine ⟨by rw [legs]; exact ended.lost lost, ?_, ?_⟩
  · exact ((causes _ (by decide) (by decide)).trans (ended.cause _ (by decide))).trans (b.cause _ (by decide) (by decide))
  · exact ((causes _ (by decide) (by decide)).trans (ended.cause _ (by decide))).trans (b.cause _ (by decide) (by decide))

theorem loss_linkFailed : ((u.singleLegLoss w x).writeEnds i).causes.entries[causeIx .linkFailed] = s.causes.entries[causeIx .linkFailed] := by
  obtain ⟨-, -, causes⟩ := loss_quiet (w := w) (x := x) b live origin
  exact ((causes _ (by decide) (by decide)).trans ((singleLegLoss_lossKept u w x).cause _ (by decide))).trans (b.cause _ (by decide) (by decide))

end causes

include b in
/-- An entry that no leg of awaits a credit is the same after a write of another entry failed. -/
theorem loss_others {j : OttIx} (hj : j ≠ i) (calm : ∀ y, ((s.ott.entries[j]).leg y).progress ≠ .waiting) :
    ((u.singleLegLoss w x).writeEnds i).ott.entries[j] = s.ott.entries[j] := by
  have same := b.others j hj
  rw [writeEnds_other hj, (singleLegLoss_cut u w x).same (by rw [same]; exact calm), same]

include b in
/-- Every link keeps its mode. -/
theorem loss_mode (p : PortIx) : (u.singleLegLoss w x).links[p].mode = s.links[p].mode := by
  obtain ⟨more, link, -⟩ := (singleLegLoss_lossKept u w x).link p
  rw [link]
  exact b.mode p

/-- The congested flags of an entry, one by one. -/
theorem congestedGood_sides (e : OttEntry) (x : Side) : e.congestedGood =
    (((e.leg x).progress == .doneGood && (e.leg x).congested)
      || ((e.leg (otherSide x)).progress == .doneGood && (e.leg (otherSide x)).congested)) := by
  cases x
  · simp [OttEntry.congestedGood, bothSides, otherSide]
  · simp [OttEntry.congestedGood, bothSides, otherSide, Bool.or_comm]

section ends
variable {q : PortIx} {r0 : ReqId} {tag0 : Tag} (live : (s.ott.entries[i]).state = .live)
  (origin : (s.ott.entries[i]).origin = .ingress q r0 tag0) (calm : ((s.ott.entries[i]).leg (otherSide x)).progress ≠ .waiting)

include own other in
theorem failed_good (trunk : PortIx → Bool) : (u.ott.entries[i]).writeStatus trunk = .good ↔
    ((s.ott.entries[i]).leg (otherSide x)).progress = .doneGood := by
  constructor
  · intro status
    by_contra bad
    refine writeStatus_bad x trunk ?_ status
    rw [own, other]
    exact fun k => k.elim (by decide) bad
  · intro good
    exact writeStatus_good x trunk (.inr (by rw [other]; exact good))

include b own other live origin calm in
/-- The failed write is metered when its other leg is DONE_GOOD, with that leg's flag (R80). -/
theorem loss_metered : s.Metered i (((s.ott.entries[i]).leg (otherSide x)).progress == .doneGood && s.links[q].mode == .server)
    ((s.ott.entries[i]).leg (otherSide x)).congested ((u.singleLegLoss w x).writeEnds i) := by
  have pacing : SamePacing s (u.singleLegLoss w x) := b.pacing.trans (.of_frame (singleLegLoss_lossKept u w x).frame (by decide))
  have entry := loss_entry (w := w) own other calm
  have sent := loss_sent (w := w) own other calm
  have mode := loss_mode (w := w) (x := x) b q
  generalize u.singleLegLoss w x = v at pacing entry sent mode
  by_cases there : (v.ott.entries[i]).anySent = true
  · rw [writeEnds_waits there, sent.mp there]
    exact ⟨fun told => (nomatch told), fun _ => ⟨pacing.tenants, pacing.pacers⟩⟩
  · rw [writeEnds_finishes there, entry]
    have good := failed_good own other fun p => v.links[p].mode == .trunk
    have told : ((u.ott.entries[i]).writeStatus (fun p => v.links[p].mode == .trunk) == .good) =
        (((s.ott.entries[i]).leg (otherSide x)).progress == .doneGood) := by
      rw [Bool.eq_iff_iff, beq_iff_eq, beq_iff_eq]
      exact good
    rw [← told]
    refine finish_metered_from pacing (by rw [entry]; exact b.state_.trans live) (by rw [entry]; exact b.origin.trans origin) mode
      (by rw [entry]; exact b.tenant) (by rw [entry]; exact b.body) _ fun status => ?_
    rw [entry, congestedGood_sides _ x, own, other, good.mp status]
    rfl

include b own other live in
/-- The failed write waits for its other SENT leg (R76). -/
theorem loss_waits (there : ((s.ott.entries[i]).leg (otherSide x)).progress = .sent) :
    (((u.singleLegLoss w x).writeEnds i).ott.entries[i]).state = .live
      ∧ (((u.singleLegLoss w x).writeEnds i).ott.entries[i]).leg x = (u.ott.entries[i]).leg x
      ∧ (((u.singleLegLoss w x).writeEnds i).ott.entries[i]).leg (otherSide x) = (s.ott.entries[i]).leg (otherSide x)
      ∧ (u.noneWaits → ∀ q : PortIx, ((u.singleLegLoss w x).writeEnds i).links[q].txQueue = s.links[q].txQueue) := by
  have calm : ((s.ott.entries[i]).leg (otherSide x)).progress ≠ .waiting := by rw [there]; decide
  rw [writeEnds_waits ((loss_sent own other calm).mpr there), loss_entry own other calm]
  refine ⟨b.state_.trans live, rfl, other, fun none q => ?_⟩
  rw [(singleLegLoss_links u w x none).1]
  exact b.queue q

include b own other live origin calm in
/-- The failed write ends, behind the answers of reads that waited (R79). -/
theorem loss_ends (write : (s.ott.entries[i]).body ≠ .rd) (last : ((s.ott.entries[i]).leg (otherSide x)).progress ≠ .sent)
    (takes : takesOffers s.links[q].state = true) : ((u.singleLegLoss w x).writeEnds i).ott.entries[i] = .freed (s.ott.entries[i]).gen
      ∧ ∃ before, ((u.singleLegLoss w x).writeEnds i).links[q].txQueue = s.links[q].txQueue ++ before ++ [.response ⟨.wack, r0, tag0,
          (u.ott.entries[i]).writeStatus fun p => s.links[p].mode == .trunk, none⟩] ∧ (u.noneWaits → before = []) := by
  obtain ⟨more, link, -⟩ := (singleLegLoss_lossKept u w x).link q
  have still := singleLegLoss_links u w x
  have entry := loss_entry (w := w) own other calm
  have sent := loss_sent (w := w) own other calm
  have modes : (fun p : PortIx => (u.singleLegLoss w x).links[p].mode == .trunk) = fun p : PortIx => s.links[p].mode == .trunk :=
    funext fun p : PortIx => by rw [loss_mode (w := w) (x := x) b p]
  generalize u.singleLegLoss w x = v at link still entry sent modes
  have liveV : (v.ott.entries[i]).state = .live := by rw [entry]; exact b.state_.trans live
  have originV : (v.ott.entries[i]).origin = .ingress q r0 tag0 := by rw [entry]; exact b.origin.trans origin
  rw [writeEnds_finishes fun k => last (sent.mp k), modes]
  refine ⟨?_, more, ?_, fun none => ?_⟩
  · rw [finish_get v i (by rw [liveV]; decide), entry, b.gen]
  · rw [finish_ingress_queue liveV originV _ (by rw [link, b.takes]; exact takes), link, b.queue, entry, b.body, respKind_wack.mpr write,
      isRead_false.mpr write]
    rfl
  · have queue := congrArg LinkUnit.txQueue link
    rw [(still none).1] at queue
    exact List.self_eq_append_right.mp queue

end ends

end loss

/-- The failed leg of a LIVE write of server or trunk origin. -/
theorem settle_writeFailed {s a : State} {i : OttIx} {x : Side} {way : SettleWay} (from_ : SettleFrom s i a)
    (write : (s.ott.entries[i]).body ≠ .rd) (failed : way.progress = .doneFailed) {q : PortIx} {r0 : ReqId} {tag0 : Tag} {fail : Option Status}
    (status : way.failStatus = fail) (live : (s.ott.entries[i]).state = .live) (origin : (s.ott.entries[i]).origin = .ingress q r0 tag0)
    (takes : takesOffers s.links[q].state = true)
    (passed : s.links[((s.ott.entries[i]).leg x).port].mode = .trunk → fail ≠ some .good ∧ fail ≠ some .fault) :
    WriteFailed s i x q r0 tag0 fail (a.settle i x way) := by
  have b := from_.settledAround (x := x) way
  have counted := from_.counted (x := x) way
  have swept : (way == .abandoned) = false := by
    cases way with
    | abandoned => cases failed
    | response => rfl
    | timeout => rfl
  have leg := from_.leg (x := x) way
  have other := from_.otherLeg (x := x) way
  have quietly := settled_noneWaits (x := x) (way := way) from_ (by rw [failed]; decide)
  have row := settle_writeFailed_eq (x := x) from_ write failed
  rw [swept] at counted
  generalize a.settled i x way = u at b counted leg other quietly row
  have own : ((u.ott.entries[i]).leg x).progress = .doneFailed := by rw [leg]; exact failed
  have frame := (singleLegLoss_frame u (s.ott.entries[i]).window x).trans (writeEnds_frame (i := i))
  rw [row]
  refine { fresh := loss_fresh b live origin, again := loss_again b live origin
           counted := LegCounted.of_parts counted (frame .monitors (by decide)) (frame .contrib (by decide))
           metered := loss_metered b own other live origin, linkFailed := loss_linkFailed b live origin, waits := fun there => ?waits
           ends := fun last calm => ?ends, others := fun j hj => loss_others b hj }
  case waits =>
    obtain ⟨state, legX, legY, queue⟩ := loss_waits (w := (s.ott.entries[i]).window) b own other live there
    exact ⟨state, by rw [legX, own], by rw [legX, leg]; exact status, legY, fun none => queue (quietly none) q⟩
  case ends =>
    obtain ⟨entry, before, queue, none⟩ := loss_ends (w := (s.ott.entries[i]).window) b own other live origin calm write last takes
    refine ⟨entry, before, queue.trans ?_, fun k => none (quietly k)⟩
    have port : ((u.ott.entries[i]).leg x).port = ((s.ott.entries[i]).leg x).port := by rw [leg]
    have final : ((u.ott.entries[i]).writeStatus fun p => s.links[p].mode == .trunk) =
        if ((s.ott.entries[i]).leg (otherSide x)).progress = .doneGood then .good
        else if ((s.ott.entries[i]).leg (otherSide x)).progress = .none ∧ s.links[((s.ott.entries[i]).leg x).port].mode = .trunk
          then fail.getD .lost else .lost := by
      by_cases good : ((s.ott.entries[i]).leg (otherSide x)).progress = .doneGood
      · rw [if_pos good]
        exact (failed_good own other _).mpr good
      · rw [if_neg good, writeStatus_failed x (fail := fail) _ own (by rw [leg]; exact status) (by rw [other]; exact good)
          fun through => passed ?_]
        · simp only [port, other, beq_iff_eq]
        · simp only [port, beq_iff_eq] at through
          exact through
    rw [final]

end Sys2Proof.Machine

/-! PROOF. Writes of ORPHAN entries, and the settlement of O29 (sections 4.3 to 4.8). -/

namespace Sys2Proof.Machine

/-! ### Entries that a loss ends -/

/-- Each entry is cut as `EntriesCut` says, and one in use that changes is FREE with its generation. -/
structure EntriesFreed (s t : State) : Prop where
  cut : EntriesCut s t
  freed : ∀ i : OttIx, (s.ott.entries[i]).state ≠ .free → t.ott.entries[i] = s.ott.entries[i] ∨ t.ott.entries[i] = .freed (s.ott.entries[i]).gen

namespace EntriesFreed
variable {s t u : State}

theorem rfl_ : EntriesFreed s s := ⟨.rfl_, fun _ _ => .inl rfl⟩

theorem freed_calm (g : BitVec 4) (x : Side) : ((OttEntry.freed g).leg x).progress ≠ .waiting := by
  cases x <;> exact show LegProgress.none ≠ .waiting by decide

theorem trans (h : EntriesFreed s t) (k : EntriesFreed t u) : EntriesFreed s u := by
  refine ⟨h.cut.trans k.cut, fun i busy => ?_⟩
  rcases h.freed i busy with same | freed
  · rw [← same] at busy ⊢
    exact k.freed i busy
  · refine .inr ((k.cut.same fun x => ?_).trans freed)
    rw [freed]
    exact freed_calm _ x

theorem foldl {α : Type} {f : State → α → State} (h : ∀ s a, EntriesFreed s (f s a)) (l : List α) (s : State) :
    EntriesFreed s (l.foldl f s) := by
  induction l generalizing s with
  | nil => exact .rfl_
  | cons a l ih => exact (h s a).trans (ih (f s a))

end EntriesFreed

section freed
variable (s : State) (i : OttIx)

theorem cancelWaiting_freed {x : Side} (waits : ((s.ott.entries[i]).leg x).progress = .waiting) : EntriesFreed s (s.cancelWaiting i x) := by
  refine ⟨cancelWaiting_cut s i waits, fun j busy => ?_⟩
  by_cases same : j = i
  · subst same
    have here : ((s.modOttLeg j x fun _ => .none).ott.entries[j]) = (s.ott.entries[j]).modLeg x fun _ => .none := modEntry_get s j _
    refine .inr ((finish_get _ j ?_ _).trans ?_)
    · rw [here]
      cases x <;> exact busy
    · rw [here]
      cases x <;> rfl
  · exact .inl ((finish_other _ i _ same).trans (modEntry_other s i _ same))

theorem cancelLostWaiting_freed : EntriesFreed s s.cancelLostWaiting := by
  refine .foldl (fun s i => .foldl (fun s x => ?_) _ s) _ s
  split
  · rename_i h
    exact cancelWaiting_freed s i h.1
  · exact .rfl_

theorem singleLegLoss_freed (w : WindowIx) (x : Side) : EntriesFreed s (s.singleLegLoss w x) := by
  rw [singleLegLoss_eq]
  have same := loseLegs_ott s w (onlySide x)
  exact EntriesFreed.trans ⟨.of_ott same, fun i _ => .inl (by rw [same])⟩ (cancelLostWaiting_freed _)

end freed

/-! ### Writes of ORPHAN entries -/

/-- What the last settlement of an ORPHAN write leaves (R83). -/
structure OrphanEnded (s : State) (i : OttIx) (t : State) : Prop where
  entry : t.ott.entries[i] = .freed (s.ott.entries[i]).gen
  metered : s.Metered i false false t
  quiet : s.noneWaits → (t.windows[(s.ott.entries[i]).window]).outstanding = (s.windows[(s.ott.entries[i]).window]).outstanding - 1
    ∧ ∀ q : PortIx, t.links[q].txQueue = s.links[q].txQueue

section orphan
variable {s u : State} {i : OttIx} {x : Side}

/-- Nothing of it depends on what a settlement does before the transaction goes on. -/
theorem OrphanEnded.of_around {t : State} (b : Around s i u) (still : s.noneWaits → u.noneWaits) (h : OrphanEnded u i t) : OrphanEnded s i t := by
  obtain ⟨tenants, pacers⟩ := h.metered.2 rfl
  refine ⟨by rw [h.entry, b.gen], ⟨fun told => (nomatch told), fun _ => ⟨tenants.trans b.pacing.tenants, pacers.trans b.pacing.pacers⟩⟩,
    fun none => ?_⟩
  obtain ⟨windows, queue⟩ := h.quiet (still none)
  simp only [b.window, b.windows] at windows
  exact ⟨windows, fun q => (queue q).trans (b.queue q)⟩

theorem OrphanEnded.freeEntry (b : Around s i u) : OrphanEnded s i (u.freeEntry i) := by
  obtain ⟨entry, windows, queue, metered⟩ := b.freed
  refine ⟨entry, metered, fun _ => ⟨?_, queue⟩⟩
  rw [windows]
  exact congrArg Window.outstanding (mapAt_get_self _ _ _)

/-- The same after a change of other parts. -/
theorem OrphanEnded.of_frame {t v : State} {parts : List Part} (h : OrphanEnded s i t) (frame : SameExcept parts t v)
    (kept : ∀ f ∈ [Part.ott, .links, .windows, .tenants, .pacers], f ∉ parts) : OrphanEnded s i v := by
  have ott : v.ott = t.ott := frame .ott (kept _ (by simp))
  have links : v.links = t.links := frame .links (kept _ (by simp))
  have windows : v.windows = t.windows := frame .windows (kept _ (by simp))
  obtain ⟨tenants, pacers⟩ := h.metered.2 rfl
  refine ⟨by rw [ott]; exact h.entry, ⟨fun told => (nomatch told),
    fun _ => ⟨(frame .tenants (kept _ (by simp))).trans tenants, (frame .pacers (kept _ (by simp))).trans pacers⟩⟩, fun none => ?_⟩
  rw [windows, links]
  exact h.quiet none

/-- A failed leg's loss ends an ORPHAN write, whether the loss or the settlement frees it. -/
theorem loss_orphan (w : WindowIx) (orphan : (u.ott.entries[i]).state = .orphan) (last : ¬ (u.ott.entries[i]).anySent = true) :
    OrphanEnded u i ((u.singleLegLoss w x).writeEnds i) := by
  have freed := (singleLegLoss_freed u w x).freed i (by rw [orphan]; decide)
  have pacing : SamePacing u (u.singleLegLoss w x) := .of_frame (singleLegLoss_lossKept u w x).frame (by decide)
  have links := singleLegLoss_links u w x
  generalize u.singleLegLoss w x = v at freed pacing links
  rcases freed with same | freed
  · have ends : v.writeEnds i = v.freeEntry i := by
      rw [writeEnds_finishes (by rw [same]; exact last), finish_orphan (by rw [same]; exact orphan)]
    rw [ends]
    have kept := freeEntry_frame v i
    refine ⟨by rw [freeEntry_get, same], ⟨fun told => (nomatch told),
      fun _ => ⟨(kept .tenants (by simp)).trans pacing.tenants, (kept .pacers (by simp)).trans pacing.pacers⟩⟩, fun none => ?_⟩
    obtain ⟨queues, -, windows⟩ := links none
    refine ⟨?_, fun q => by rw [show (v.freeEntry i).links = v.links from kept .links (by simp), queues]⟩
    rw [freeEntry_windows, same]
    refine (congrArg Window.outstanding (mapAt_get_self _ _ _)).trans ?_
    exact congrArg (· - 1) (windows _)
  · have ends : v.writeEnds i = v := by
      rw [State.writeEnds, State.finishWrite, finish_free (by rw [freed]; rfl), ite_self]
    rw [ends]
    refine ⟨freed, ⟨fun told => (nomatch told), fun _ => ⟨pacing.tenants, pacing.pacers⟩⟩, fun none => ?_⟩
    obtain ⟨-, ott, -⟩ := links none
    rw [ott] at freed
    rw [freed] at orphan
    cases orphan

/-- A settled leg is neither SENT nor WAITING. -/
theorem settled_progress (way : SettleWay) : way.progress ≠ .sent ∧ way.progress ≠ .waiting := by
  cases way with
  | response st d => cases st <;> exact ⟨LegProgress.noConfusion, LegProgress.noConfusion⟩
  | timeout => exact ⟨LegProgress.noConfusion, LegProgress.noConfusion⟩
  | abandoned => exact ⟨LegProgress.noConfusion, LegProgress.noConfusion⟩

/-- An ORPHAN write ends when its last SENT leg settles, in any way. -/
theorem settle_orphanWrite {a : State} {way : SettleWay} (from_ : SettleFrom s i a) (write : (s.ott.entries[i]).body ≠ .rd)
    (orphan : (s.ott.entries[i]).state = .orphan) (last : ((s.ott.entries[i]).leg (otherSide x)).progress ≠ .sent) :
    OrphanEnded s i (a.settle i x way) := by
  have b := from_.settledAround (x := x) way
  have own := from_.leg (x := x) way
  have other := from_.otherLeg (x := x) way
  have settles := settled_progress way
  have still := settled_noneWaits (x := x) from_ settles.2
  have row := settle_write (s := a) (i := i) (way := way) x (by rw [from_.around.body]; exact write)
  rw [row]
  generalize a.settled i x way = u at b own other still
  have none_ : ¬ (u.ott.entries[i]).anySent = true := by
    rw [anySent_iff x, own, other]
    exact fun k => k.elim settles.1 last
  by_cases failed : way.progress = .doneFailed
  · rw [writeLegSettled_failed failed]
    exact .of_around b still (loss_orphan _ (b.state_.trans orphan) none_)
  · rw [writeLegSettled_kept x failed, if_neg none_, State.finishWrite, finish_orphan (b.state_.trans orphan)]
    exact .freeEntry b

/-- So it does when a visit of the sweep settles both its legs. -/
theorem visitEntry_orphanBoth {p : PortIx} (write : (s.ott.entries[i]).body ≠ .rd) (orphan : (s.ott.entries[i]).state = .orphan)
    (hit : ∀ y, s.sweepable p ((s.ott.entries[i]).leg y) = true) : OrphanEnded s i (s.visitEntry p i) := by
  have b := settled_around s i .primary .abandoned
  have own := settled_leg s i .primary .abandoned
  have still := settled_noneWaits (x := .primary) (way := .abandoned) (settleFrom_self s i) (by decide)
  rw [visitEntry_both write hit]
  generalize s.settled i .primary .abandoned = u at b own still
  refine .of_around b still (settle_orphanWrite (settleFrom_self u i) (by rw [b.body]; exact write) (b.state_.trans orphan) ?_)
  rw [show (u.ott.entries[i]).leg (otherSide .mirror) = _ from own]
  exact show LegProgress.abandoned ≠ .sent by decide

/-- The settlement of an ORPHAN write's last SENT leg by a command. -/
theorem settledBy_orphanWrite {c : Instr} {way : SettleWay} (h : s.running) (hs : s.SettledBy c i x way) (last : s.LastSent i x way)
    (orphan : (s.ott.entries[i]).state = .orphan) (write : (s.ott.entries[i]).body ≠ .rd) :
    ∃ t, exec c s = .next t ∧ OrphanEnded s i t := by
  by_cases double : way = .abandoned ∧ ∃ p : PortIx, s.sweep.port = some p ∧ s.sweepable p ((s.ott.entries[i]).leg (otherSide x)) = true
  · obtain ⟨rfl, p, port, other⟩ := double
    rcases hs with ⟨_, _, _, _, _, _, _, _, _, _, _, way⟩ | ⟨_, _, _, _, _, _, _, _, _, way⟩ | ⟨_, way, _⟩ | ⟨rfl, _, here, p', port', swept, _⟩
    · cases way
    · cases way
    · cases way
    · cases port.symm.trans port'
      have ended := visitEntry_orphanBoth write orphan ((forall_side_iff (P := fun y => s.sweepable p ((s.ott.entries[i]).leg y) = true) x).mpr
        ⟨swept, other⟩)
      refine ⟨_, exec_sweepVisit h port, ?_⟩
      rw [here]
      exact ended.of_frame (advanceSweep_frame _ i) (by decide)
  · obtain ⟨a, t, row, from_, advanced⟩ := settledBy_single h hs fun gone p port =>
      Bool.eq_false_iff.mpr fun other => double ⟨gone, p, port, other⟩
    exact ⟨t, row, (settle_orphanWrite from_ write orphan (last.resolve_right double)).of_frame advanced (by decide)⟩

end orphan

/-! ### O29 -/

section good
variable {s a : State} {i : OttIx} {x : Side} {way : SettleWay} {q : PortIx} {r0 : ReqId} {tag0 : Tag} (from_ : SettleFrom s i a)
  (write : (s.ott.entries[i]).body ≠ .rd) (good : way.progress = .doneGood)
include from_ write good

/-- A GOOD leg of a write: the write ends GOOD unless its other leg is SENT (R76). -/
theorem settle_writeGood_eq : a.settle i x way = (a.settled i x way).writeEnds i := by
  rw [settle_write x (by rw [from_.around.body]; exact write), writeLegSettled_kept x (by rw [good]; decide), State.writeEnds]

theorem settle_writeGood_waits (live : (s.ott.entries[i]).state = .live) (sent : ((s.ott.entries[i]).leg (otherSide x)).progress = .sent) :
    ((a.settle i x way).ott.entries[i]).state = .live ∧ (((a.settle i x way).ott.entries[i]).leg x).progress = .doneGood
      ∧ ((a.settle i x way).ott.entries[i]).leg (otherSide x) = (s.ott.entries[i]).leg (otherSide x)
      ∧ (∀ q : PortIx, (a.settle i x way).links[q].txQueue = s.links[q].txQueue) ∧ s.Metered i false false (a.settle i x way)
      ∧ s.LegCounted i x (way == .abandoned) (a.settle i x way) := by
  have b := from_.settledAround (x := x) way
  have own := from_.leg (x := x) way
  have other := from_.otherLeg (x := x) way
  have counted := from_.counted (x := x) way
  rw [settle_writeGood_eq (x := x) from_ write good]
  generalize a.settled i x way = u at b own other counted
  rw [writeEnds_waits ((anySent_iff x _).mpr (.inr (by rw [other]; exact sent)))]
  exact ⟨b.state_.trans live, by rw [own]; exact good, other, b.queue,
    ⟨fun told => (nomatch told), fun _ => ⟨b.pacing.tenants, b.pacing.pacers⟩⟩, counted⟩

theorem settle_writeGood_ends (live : (s.ott.entries[i]).state = .live) (origin : (s.ott.entries[i]).origin = .ingress q r0 tag0)
    (takes : takesOffers s.links[q].state = true) (last : ((s.ott.entries[i]).leg (otherSide x)).progress ≠ .sent) :
    (a.settle i x way).ott.entries[i] = .freed (s.ott.entries[i]).gen
      ∧ (a.settle i x way).links[q].txQueue = s.links[q].txQueue ++ [.response ⟨.wack, r0, tag0, .good, none⟩]
      ∧ ((a.settle i x way).windows[(s.ott.entries[i]).window]).outstanding = (s.windows[(s.ott.entries[i]).window]).outstanding - 1
      ∧ s.Metered i (s.links[q].mode == .server) (s.congestedWith i x) (a.settle i x way)
      ∧ s.LegCounted i x (way == .abandoned) (a.settle i x way) := by
  have b := from_.settledAround (x := x) way
  have own := from_.leg (x := x) way
  have other := from_.otherLeg (x := x) way
  have counted := from_.counted (x := x) way
  have congested := (congestedGood_settled a i x way good).trans (from_.congested x)
  rw [settle_writeGood_eq (x := x) from_ write good]
  generalize a.settled i x way = u at b own other counted congested
  have none_ : ¬ (u.ott.entries[i]).anySent = true := by
    rw [anySent_iff x, own, other]
    dsimp only
    rw [good]
    exact fun k => k.elim LegProgress.noConfusion last
  rw [writeEnds_finishes none_, writeStatus_good x _ (.inl (by rw [own]; exact good))]
  refine ⟨(b.finish_entries (by rw [live]; decide) _).1, ?_, ?_, ?_, ?_⟩
  · rw [b.finish_queue live origin _ takes, respKind_wack.mpr write, isRead_false.mpr write]
    rfl
  · rw [b.finish_windows live origin]
    exact congrArg Window.outstanding (mapAt_get_self _ _ _)
  · exact b.finish_metered live origin .good fun _ => congested
  · exact LegCounted.of_parts counted (finish_monitors u i _) (finish_contrib u i _)

end good

/-- A status taken on a TRUNK port is neither a memory fault nor, when it fails the leg, GOOD (Table 4-3). -/
theorem takenStatus_trunk {m : PortMode} {st : Status} (bad : takenStatus m st ≠ .good) (trunk : m = .trunk) :
    some (takenStatus m st) ≠ some .good ∧ some (takenStatus m st) ≠ some .fault := by
  subst trunk
  refine ⟨fun k => bad (Option.some.inj k), ?_⟩
  cases st <;> decide

/-- Settles O29: a WACK or a timeout settles a write leg, and the write waits, finishes, or ends with its ORPHAN entry. -/
theorem goodWriteFinishes : Obligations.GoodWriteFinishes := by
  intro s h live awaits fails
  have told {i : OttIx} {x : Side} {q : PortIx} {r0 : ReqId} {tag0 : Tag} {fail : Option Status} {t : State}
      (w : WriteFailed s i x q r0 tag0 fail t) (frame : SameExcept [.links, .stages, .windows, .ott, .monitors, .contrib, .pacers, .tenants,
        .holdList, .ring, .fabric, .copy, .jobs, .causes] s t) : fails i x q r0 tag0 fail t := by
    have none_ (k : ∀ j, ¬ awaits j) : s.noneWaits := fun j y waits => k j ⟨y, waits⟩
    refine ⟨fun was => ?_, w.again, w.counted, w.metered, w.linkFailed, fun sent => ?_, fun last calm => ?_,
      fun j hj calm => w.others j hj fun y waits => calm ⟨y, waits⟩, frame⟩
    · obtain ⟨lost, cause, rebuild⟩ := w.fresh (losable_of was)
      obtain ⟨pending, detail⟩ := cause _ rfl
      exact ⟨lost, pending, detail, rebuild⟩
    · obtain ⟨state, own, failed, other, queue⟩ := w.waits sent
      exact ⟨state, own, failed, other, fun k => queue (none_ k)⟩
    · obtain ⟨entry, before, queue, quiet⟩ := w.ends last calm
      exact ⟨entry, before, queue, fun k => quiet (none_ k)⟩
  refine ⟨?wack, ?timeout, ?orphan⟩
  case wack =>
    intro p q req r0 tag tag0 status up hit alive i x e taken
    obtain ⟨live, origin, takes⟩ := alive
    obtain ⟨-, -, port, kind⟩ := matches_iff hit
    have write : e.body ≠ .rd := respKind_wack.mp kind
    have from_ := acceptPayload_settleFrom s i p
    have row := exec_wack h up hit
    refine ⟨fun good last => ⟨_, row, ?_⟩, fun good sent => ⟨_, row, ?_⟩, fun bad => ⟨_, row, ?_⟩⟩
    · obtain ⟨entry, queue, windows, metered, counted⟩ := settle_writeGood_ends (x := x) (way := .response taken none) from_ write
        (by rw [good]; rfl) live origin takes last
      exact ⟨entry, queue, windows, metered, counted⟩
    · obtain ⟨state, own, other, queue, metered, counted⟩ := settle_writeGood_waits (x := x) (way := .response taken none) from_ write
        (by rw [good]; rfl) live sent
      exact ⟨state, own, other, queue q, metered, counted⟩
    · obtain ⟨failed, kept⟩ := response_bad none bad
      refine told (settle_writeFailed from_ write failed kept live origin takes fun trunk => ?_) ?_
      · exact takenStatus_trunk bad (by rw [← port]; exact trunk)
      · exact ((acceptPayload_frame s p).mono (by decide)).trans ((settle_frame _ i x _).mono (by decide))
  case timeout =>
    intro i x q r0 tag0 l alive write sent late
    obtain ⟨live, origin, takes⟩ := alive
    have from_ := settleFrom_self s i
    refine ⟨_, exec_timeout h sent late, told (settle_writeFailed from_ write rfl rfl live origin takes fun _ => ⟨nofun, nofun⟩)
      ((settle_frame _ i x _).mono (by decide)), ?_⟩
    rw [settle_writeFailed_health (way := .timeout) from_ write rfl]
    exact (settled_legSettled s i x .timeout).health
  case orphan =>
    intro c i x way hs last e orphan write
    obtain ⟨t, row, ended⟩ := settledBy_orphanWrite h hs last orphan write
    exact ⟨t, row, ended.entry, ended.metered, fun none => ended.quiet fun j y waits => none j ⟨y, waits⟩⟩

end Sys2Proof.Machine

/-! PROOF. What a fabric request's report leaves does not depend on what a settlement did before it (R81). -/

namespace Sys2Proof.Machine

/-! ### The copy engine's reports (R151, R152, R157, R159) -/

section copyReports
variable {s : State} {k : SlotIx}

theorem copyReport_idle (state : s.copy.state = .idle) (st : Status) (d : Option LineData) : s.copyReport k st d = s := by
  unfold State.copyReport
  rw [state]

theorem copyReport_draining (state : s.copy.state = .draining) (st : Status) (d : Option LineData) :
    s.copyReport k st d = (s.freeSlot k).drainEnd := by
  unfold State.copyReport
  rw [state]

section copying
variable (state : s.copy.state = .copying)
include state

theorem copyReport_free (slot : (s.copy.slots[k]).state = .free) (st : Status) (d : Option LineData) : s.copyReport k st d = s := by
  unfold State.copyReport
  rw [state]
  dsimp only
  rw [slot]

theorem copyReport_readGood (slot : (s.copy.slots[k]).state = .reading) (d : LineData) :
    s.copyReport k .good (some d) = if (s.copy.slots[k]).redo then s.redo k else s.copyReadDone k d := by
  unfold State.copyReport
  rw [state]
  dsimp only
  rw [slot]

theorem copyReport_readBad (slot : (s.copy.slots[k]).state = .reading) {st : Status} {d : Option LineData} (bad : st ≠ .good ∨ d = none) :
    s.copyReport k st d = (s.freeSlot k).failRebuild .copyReadFailed := by
  unfold State.copyReport
  rw [state]
  dsimp only
  rw [slot]
  dsimp only
  split
  · exact absurd bad (by simp)
  · rfl

theorem copyReport_writeGood (slot : (s.copy.slots[k]).state = .writing) (d : Option LineData) :
    s.copyReport k .good d = s.copyWriteDone k := by
  unfold State.copyReport
  rw [state]
  dsimp only
  rw [slot]
  exact if_pos rfl

theorem copyReport_writeBad (slot : (s.copy.slots[k]).state = .writing) {st : Status} (bad : st ≠ .good) (d : Option LineData) :
    s.copyReport k st d = (s.freeSlot k).failRebuild .rebuildLegLost := by
  unfold State.copyReport
  rw [state]
  dsimp only
  rw [slot]
  exact if_neg bad

end copying

end copyReports

/-! ### Reports from states that differ elsewhere -/

/-- Between `s` and `u` nothing has changed that a report to a fabric job reads or writes, but the watch, C, and the causes of the
consumer watch and of link health. -/
structure SameJobs (s u : State) : Prop where
  fabric : u.fabric = s.fabric
  copy : u.copy = s.copy
  jobs : u.jobs = s.jobs
  holdList : u.holdList = s.holdList
  windows : u.windows = s.windows
  time : u.time = s.time
  ring : u.ring = { s.ring with watch := u.ring.watch, cons := u.ring.cons }
  cause : ∀ c : Cause, c ≠ .ringIndexBad → c ≠ .linkWeak → u.causes.entries[causeIx c] = s.causes.entries[causeIx c]

namespace SameJobs
variable {s u : State}

theorem of_around {i : OttIx} (b : Around s i u) : SameJobs s u :=
  ⟨b.frame .fabric (by simp), b.frame .copy (by simp), b.frame .jobs (by simp), b.frame .holdList (by simp), b.windows, b.frame .time (by simp),
    b.ring, b.cause⟩

theorem raise (h : SameJobs s u) (c : Cause) (d : BitVec 16) (mine : c ≠ .ringIndexBad ∧ c ≠ .linkWeak) :
    SameJobs (s.raise c d) (u.raise c d) := by
  refine { h with cause := fun k bad weak => ?_ }
  by_cases here : k = c
  · subst here
    rw [raise_get, raise_get, h.cause k bad weak]
  · have other := fun k' => here (causeIx_injective k')
    rw [raise_other _ _ _ other, raise_other _ _ _ other]
    exact h.cause k bad weak

theorem issueFabric (h : SameJobs s u) (q : FabricReq) : SameJobs (s.issueFabric q) (u.issueFabric q) :=
  { h with fabric := congrArg (· ++ [q]) h.fabric }

theorem modSlot (h : SameJobs s u) (k : SlotIx) (f : CopySlot → CopySlot) : SameJobs (s.modSlot k f) (u.modSlot k f) :=
  { h with copy := by rw [State.modSlot, State.modSlot, h.copy] }

theorem engine (h : SameJobs s u) (c : CopyEngine) : SameJobs { s with copy := c } { u with copy := c } := { h with copy := rfl }

theorem ringTo (h : SameJobs s u) {r r' : Ring} (same : r' = { r with watch := r'.watch, cons := r'.cons }) :
    SameJobs { s with ring := r } { u with ring := r' } := { h with ring := same }

theorem setLeg (h : SameJobs s u) (w : WindowIx) (x : Side) (st : LegState) : SameJobs (s.setLeg w x st) (u.setLeg w x st) :=
  { h with windows := by rw [State.setLeg, State.setLeg, State.modWindow, State.modWindow, h.windows] }

theorem endRebuild (h : SameJobs s u) (st : JobState) (n : Nat) : SameJobs (s.endJob .rebuild st n) (u.endJob .rebuild st n) := by
  refine SameJobs.raise ?_ .jobDone _ (by decide)
  exact { h with jobs := by rw [State.setJob, State.setJob, h.jobs] }

theorem ite {c : Prop} [Decidable c] {s' u' : State} (h : SameJobs s u) (k : SameJobs s' u') :
    SameJobs (if c then s else s') (if c then u else u') := by
  split
  · exact h
  · exact k

theorem drainEnd (h : SameJobs s u) : SameJobs s.drainEnd u.drainEnd := by
  rw [State.drainEnd, State.drainEnd, h.copy]
  exact .ite ((h.engine _).endRebuild _ _) h

theorem withdrawPending (h : SameJobs s u) : SameJobs s.withdrawPending u.withdrawPending :=
  { h with fabric := by rw [State.withdrawPending, State.withdrawPending, h.fabric], copy := by rw [State.withdrawPending, State.withdrawPending, h.copy] }

theorem failRebuild (h : SameJobs s u) (r : FailReason) : SameJobs (s.failRebuild r) (u.failRebuild r) := by
  rw [State.failRebuild, State.failRebuild, h.copy]
  split
  · exact ((h.engine _).setLeg _ _ _).withdrawPending.drainEnd
  · exact h

theorem completeRebuild (h : SameJobs s u) : SameJobs s.completeRebuild u.completeRebuild := by
  rw [State.completeRebuild, State.completeRebuild, h.copy]
  split
  · exact .ite ((((h.engine _).setLeg _ _ _).raise _ _ (by decide)).endRebuild _ _) h
  · exact h

theorem fillOne (h : SameJobs s u) : SameJobs s.fillOne u.fillOne := by
  rw [State.fillOne, State.fillOne, h.copy]
  refine .ite ?_ h
  split
  · exact ((h.engine _).modSlot _ _).issueFabric _
  · exact h

theorem redo (h : SameJobs s u) (k : SlotIx) : SameJobs (s.redo k) (u.redo k) := by
  rw [State.redo, State.redo, h.copy]
  refine SameJobs.issueFabric ?_ _
  rw [State.modSlot, State.modSlot, h.copy]
  exact h.engine _

theorem freeSlot (h : SameJobs s u) (k : SlotIx) : SameJobs (s.freeSlot k) (u.freeSlot k) := h.modSlot k _

theorem copyWriteDone (h : SameJobs s u) (k : SlotIx) : SameJobs (s.copyWriteDone k) (u.copyWriteDone k) := by
  have freed := h.freeSlot k
  rw [State.copyWriteDone, State.copyWriteDone, freed.copy]
  exact (freed.engine _).fillOne.fillOne.fillOne.fillOne.completeRebuild

theorem copyReadDone (h : SameJobs s u) (k : SlotIx) (d : LineData) : SameJobs (s.copyReadDone k d) (u.copyReadDone k d) := by
  rw [State.copyReadDone, State.copyReadDone, h.copy]
  exact (h.modSlot k _).issueFabric _

theorem copyReport (h : SameJobs s u) (k : SlotIx) (st : Status) (d : Option LineData) : SameJobs (s.copyReport k st d) (u.copyReport k st d) := by
  have same : u.copy.state = s.copy.state ∧ u.copy.slots = s.copy.slots := by rw [h.copy]; exact ⟨rfl, rfl⟩
  obtain ⟨engine, slots⟩ := same
  cases state : s.copy.state with
  | idle => rw [copyReport_idle state, copyReport_idle (engine.trans state)]; exact h
  | draining =>
    rw [copyReport_draining state, copyReport_draining (engine.trans state)]
    exact (h.freeSlot k).drainEnd
  | copying =>
    have state' := engine.trans state
    have here : (u.copy.slots[k]).state = (s.copy.slots[k]).state := by rw [slots]
    cases slot : (s.copy.slots[k]).state with
    | free => rw [copyReport_free state slot, copyReport_free state' (here.trans slot)]; exact h
    | reading =>
      by_cases bad : st ≠ .good ∨ d = none
      · rw [copyReport_readBad state slot bad, copyReport_readBad state' (here.trans slot) bad]
        exact (h.freeSlot k).failRebuild _
      · obtain ⟨good, some_⟩ := not_or.mp bad
        obtain ⟨d', rfl⟩ := Option.ne_none_iff_exists'.mp some_
        rw [not_not.mp good, copyReport_readGood state slot, copyReport_readGood state' (here.trans slot), slots]
        exact .ite (h.redo k) (h.copyReadDone k _)
    | writing =>
      by_cases good : st = .good
      · rw [good, copyReport_writeGood state slot, copyReport_writeGood state' (here.trans slot)]
        exact h.copyWriteDone k
      · rw [copyReport_writeBad state slot good, copyReport_writeBad state' (here.trans slot) good]
        exact (h.freeSlot k).failRebuild _

theorem issueIndex (h : SameJobs s u) : SameJobs s.issueIndex u.issueIndex := by
  have prod : u.ring.prod = s.ring.prod := by rw [h.ring]
  have loc : u.ring.producerLoc = s.ring.producerLoc := by rw [h.ring]
  rw [State.issueIndex, State.issueIndex, prod, loc]
  refine SameJobs.issueFabric (h.ringTo ?_) _
  rw [h.ring]

theorem stallRing (h : SameJobs s u) (which : RingWrite) : SameJobs (s.stallRing which) (u.stallRing which) := by
  refine SameJobs.raise ?_ .ringStalled _ (by decide)
  refine h.ringTo ?_
  rw [h.ring, State.timer, State.timer, h.time]

theorem recordReport (h : SameJobs s u) (st : Status) : SameJobs (s.recordReport st) (u.recordReport st) := by
  rw [State.recordReport, State.recordReport]
  refine .ite (SameJobs.issueIndex ?_) (h.stallRing _)
  refine { h with holdList := congrArg List.tail h.holdList, ring := ?_ }
  show { u.ring with prod := u.ring.prod + 1 } = _
  rw [h.ring]
  rfl

theorem indexReport (h : SameJobs s u) (st : Status) : SameJobs (s.indexReport st) (u.indexReport st) := by
  rw [State.indexReport, State.indexReport]
  refine .ite (h.ringTo ?_) (h.stallRing _)
  rw [h.ring]

/-- A report leaves the same. -/
theorem report (h : SameJobs s u) (job : FabricJob) (st : Status) (d : Option LineData) : SameJobs (s.report job st d) (u.report job st d) := by
  cases job with
  | ringRecord => exact h.recordReport st
  | ringIndex => exact h.indexReport st
  | copySlot k => exact h.copyReport k st d

end SameJobs

end Sys2Proof.Machine

/-! PROOF. What the finish of a fabric request leaves (R80, R81). -/

namespace Sys2Proof.Machine

section free
variable (v : State) {i : OttIx} {job : FabricJob}

theorem freeEntry_fabricCount (origin : (v.ott.entries[i]).origin = .fabric job) : (v.freeEntry i).ott.fabricCount = v.ott.fabricCount - 1 := by
  unfold State.freeEntry
  dsimp only
  rw [origin]
  split <;> rfl

theorem freeEntry_fabricFree (pool : Config.serverPool ≤ i.1) : (v.freeEntry i).ott.fabricFree = v.ott.fabricFree ++ [i] := by
  unfold State.freeEntry
  dsimp only
  rw [if_neg (Nat.not_lt.mpr pool)]
  cases (v.ott.entries[i]).origin <;> rfl

end free

/-- A fabric request's finish up to its entry's release: its report, and its metering when GOOD (R80, R81). -/
def State.told (s : State) (i : OttIx) (job : FabricJob) (st : Status) (d : Option LineData) : State :=
  if st = .good then (s.report job st d).meter (s.ott.entries[i]).tenant (isRead (s.ott.entries[i]).body) (s.ott.entries[i]).congestedGood
  else s.report job st d

section told
variable {s u : State} {i : OttIx} {job : FabricJob} {st : Status} {d : Option LineData}

/-- The metering changes nothing of the report but the causes of the meter block. -/
theorem told_frame : SameExcept [.pacers, .tenants, .causes] (s.report job st d) (s.told i job st d) := .ite (meter_frame _ _ _ _) .rfl_

theorem told_cause {c : Cause} (cut : c ≠ .balanceSaturated) (cap : c ≠ .tenantCapped) :
    (s.told i job st d).causes.entries[causeIx c] = (s.report job st d).causes.entries[causeIx c] := by
  unfold State.told
  split
  · exact meter_otherCause _ _ _ cap cut
  · rfl

theorem told_ott : (s.told i job st d).ott = s.ott := (told_frame .ott (by simp)).trans (report_frame s job st d .ott (by simp))

/-- The tenant's accumulator and pacer are those of the meter block's addition, or untouched. -/
theorem told_metered (pacing : SamePacing s u) (tenant : (u.ott.entries[i]).tenant = (s.ott.entries[i]).tenant)
    (body : (u.ott.entries[i]).body = (s.ott.entries[i]).body) {congested : Bool} (flag : st = .good → (u.ott.entries[i]).congestedGood = congested) :
    s.Metered i (st == .good) congested (u.told i job st d) := by
  have reported : SamePacing s (u.report job st d) := pacing.trans (.of_frame (report_frame u job st d) (by decide))
  refine ⟨fun good => ?_, fun bad => ?_⟩
  · have metered := reported.meter (s.ott.entries[i]).tenant (isRead (s.ott.entries[i]).body) congested
    rw [State.told, if_pos (beq_iff_eq.mp good), tenant, body, flag (beq_iff_eq.mp good)]
    exact ⟨metered.tenants, metered.pacers⟩
  · rw [State.told, if_neg (fun good => by rw [good] at bad; cases bad)]
    exact ⟨reported.tenants, reported.pacers⟩

/-- A fabric request's finish. -/
theorem finish_told (live : (s.ott.entries[i]).state = .live) (origin : (s.ott.entries[i]).origin = .fabric job) (st : Status) :
    s.finish i st = (s.told i job st (if isRead (s.ott.entries[i]).body && st == .good then (s.ott.entries[i]).readData else none)).freeEntry i :=
  finish_fabric live origin st

theorem Metered.of_frame {t v : State} {told congested : Bool} {parts : List Part} (h : s.Metered i told congested t) (frame : SameExcept parts t v)
    (kept : Part.tenants ∉ parts ∧ Part.pacers ∉ parts) : s.Metered i told congested v := by
  have tenants : v.tenants = t.tenants := frame .tenants kept.1
  have pacers : v.pacers = t.pacers := frame .pacers kept.2
  exact ⟨fun k => ⟨tenants.trans (h.1 k).1, pacers.trans (h.1 k).2⟩, fun k => ⟨tenants.trans (h.2 k).1, pacers.trans (h.2 k).2⟩⟩

/-- The finish of a LIVE fabric entry after the settlement of its leg `x`. -/
theorem Around.fabricReported (b : Around s i u) (x : Side) (live : (s.ott.entries[i]).state = .live) {st : Status} {d : Option LineData}
    (data : (if isRead (s.ott.entries[i]).body && st == .good then (u.ott.entries[i]).readData else none) = d)
    (flag : st = .good → (u.ott.entries[i]).congestedGood = s.congestedWith i x) : s.FabricReported i x st d (u.finish i st) := by
  intro job origin
  have originU := b.origin.trans origin
  rw [finish_told (b.state_.trans live) originU, b.body, data]
  have same := (SameJobs.of_around b).report job st d
  have told := told_frame (s := u) (i := i) (job := job) (st := st) (d := d)
  have cause := fun c => told_cause (s := u) (i := i) (job := job) (st := st) (d := d) (c := c)
  have ott := told_ott (s := u) (i := i) (job := job) (st := st) (d := d)
  have metered := told_metered (job := job) (st := st) (d := d) b.pacing b.tenant b.body flag
  generalize u.told i job st d = v at told cause ott metered
  have kept := freeEntry_frame v i
  refine ⟨?_, ?_, ?_, ?_, ?_, ?_, fun c bad weak cut cap => ?_, Metered.of_frame metered kept (by simp), ?_, ?_, fun pool => ?_⟩
  · exact ((kept .fabric (by simp)).trans (told .fabric (by simp))).trans same.fabric
  · exact ((kept .copy (by simp)).trans (told .copy (by simp))).trans same.copy
  · exact ((kept .jobs (by simp)).trans (told .jobs (by simp))).trans same.jobs
  · exact ((kept .holdList (by simp)).trans (told .holdList (by simp))).trans same.holdList
  · have ring : (v.freeEntry i).ring = (u.report job st d).ring := (kept .ring (by simp)).trans (told .ring (by simp))
    rw [ring]
    exact same.ring
  · have windows : v.windows = (s.report job st d).windows := (told .windows (by simp)).trans same.windows
    rw [freeEntry_windows, ott, b.window, windows]
  · have causes : (v.freeEntry i).causes = v.causes := kept .causes (by simp)
    rw [causes, cause c cut cap]
    exact same.cause c bad weak
  · rw [freeEntry_get, ott, b.gen]
  · rw [freeEntry_fabricCount v (by rw [ott]; exact originU), ott, b.ott]
  · rw [freeEntry_fabricFree v pool, ott, b.ott]

/-- What a fabric report leaves is the same after a change of other parts. -/
theorem FabricReported.of_frame {x : Side} {t v : State} {parts : List Part} (h : s.FabricReported i x st d t) (frame : SameExcept parts t v)
    (kept : ∀ f ∈ [Part.fabric, .copy, .jobs, .holdList, .ring, .windows, .causes, .tenants, .pacers, .ott], f ∉ parts) :
    s.FabricReported i x st d v := by
  intro job origin
  obtain ⟨fabric, copy, jobs, hold, ring, windows, causes, metered, entry, count, free⟩ := h job origin
  have ring_ : v.ring = t.ring := frame .ring (kept _ (by simp))
  have causes_ : v.causes = t.causes := frame .causes (kept _ (by simp))
  have ott : v.ott = t.ott := frame .ott (kept _ (by simp))
  refine ⟨(frame .fabric (kept _ (by simp))).trans fabric, (frame .copy (kept _ (by simp))).trans copy, (frame .jobs (kept _ (by simp))).trans jobs,
    (frame .holdList (kept _ (by simp))).trans hold, ?_, (frame .windows (kept _ (by simp))).trans windows, ?_,
    Metered.of_frame metered frame ⟨kept _ (by simp), kept _ (by simp)⟩, ?_, ?_, ?_⟩
  · rw [ring_]
    exact ring
  · rw [causes_]
    exact causes
  · rw [ott]
    exact entry
  · rw [ott]
    exact count
  · rw [ott]
    exact free

end told

end Sys2Proof.Machine

/-! PROOF. The ring writer (section 7.4): its issues, its reports, and the settlement of O42. -/

namespace Sys2Proof.Machine

/-! ### Issues and reports -/

/-- The index write of P in state `s` (R131). -/
def State.indexWrite (s : State) (p : RingIx) : FabricReq :=
  ⟨.ringIndex, BitVec.ofNat 46 (s.ring.producerLoc.toNat / 64),
    .wrm (indexLine (s.ring.producerLoc.toNat % 64) p) (BitVec.ofNat 64 (15 * 2 ^ (s.ring.producerLoc.toNat % 64)))⟩

/-- The ring writer's write stalls between `s` and `t` (R132). -/
def State.RingStalls (s : State) (which : RingWrite) (t : State) : Prop := t.ring.writer = .stalled ∧ t.ring.stalled = some which
  ∧ t.ring.retryTimer = some ⟨s.time, 1000⟩ ∧ (t.causes.entries[causeIx .ringStalled]).pending = true
  ∧ t.ring.prod = s.ring.prod ∧ t.holdList = s.holdList

/-- Between `s` and `v` the hold list, P and the ring's settings stay. -/
structure RingKept (s v : State) : Prop where
  holdList : v.holdList = s.holdList
  prod : v.ring.prod = s.ring.prod
  producerLoc : v.ring.producerLoc = s.ring.producerLoc
  time : v.time = s.time

section reports
variable {s v : State}

theorem RingKept.of_around {i : OttIx} (b : Around s i v) : RingKept s v := by
  refine ⟨b.frame .holdList (by simp), ?_, ?_, b.frame .time (by simp)⟩ <;> rw [b.ring]

theorem RingKept.trans {u : State} (h : RingKept s u) (k : RingKept u v) : RingKept s v :=
  ⟨k.holdList.trans h.holdList, k.prod.trans h.prod, k.producerLoc.trans h.producerLoc, k.time.trans h.time⟩

theorem RingKept.stays {w : State} (k : RingKept s v) (h : RingStays v w) (time : w.time = v.time) : RingKept s w :=
  ⟨h.1.trans k.holdList, by rw [h.2]; exact k.prod, by rw [h.2]; exact k.producerLoc, time.trans k.time⟩

/-- The record write is issued. -/
theorem issueRecord_issues {b : BillingRecord} {more : List BillingRecord} (held : s.holdList = b :: more) :
    s.issueRecord.ring.writer = .writingRecord
      ∧ s.issueRecord.fabric = s.fabric ++ [⟨.ringRecord, s.ring.recordLine, .wr b.toLine⟩]
      ∧ s.issueRecord.ring.prod = s.ring.prod ∧ s.issueRecord.ring.retryTimer = none ∧ SameExcept [.ring, .fabric] s s.issueRecord := by
  have frame := issueRecord_frame s
  unfold State.issueRecord at frame ⊢
  rw [held] at frame ⊢
  exact ⟨rfl, rfl, rfl, rfl, frame⟩

theorem issueIndex_issues : s.issueIndex.ring.writer = .writingIndex ∧ s.issueIndex.fabric = s.fabric ++ [s.indexWrite s.ring.prod]
    ∧ s.issueIndex.ring.prod = s.ring.prod ∧ s.issueIndex.ring.retryTimer = none ∧ SameExcept [.ring, .fabric] s s.issueIndex :=
  ⟨rfl, rfl, rfl, rfl, issueIndex_frame s⟩

theorem recordReport_good : (s.recordReport .good).holdList = s.holdList.tail ∧ (s.recordReport .good).ring.prod = s.ring.prod + 1
    ∧ (s.recordReport .good).ring.writer = .writingIndex ∧ (s.recordReport .good).fabric = s.fabric ++ [s.indexWrite (s.ring.prod + 1)] :=
  ⟨rfl, rfl, rfl, rfl⟩

/-- A GOOD record write raises no cause. -/
theorem recordReport_goodFrame : SameExcept [.ring, .fabric, .holdList] s (s.recordReport .good) := by
  have next : SameExcept [.ring] s.dropHeld { s.dropHeld with ring := { s.dropHeld.ring with prod := s.dropHeld.ring.prod + 1 } } := fun x h => by
    cases x <;> first | rfl | exact absurd (by simp) h
  exact ((dropHeld_frame s).mono (by simp)).trans ((next.mono (by simp)).trans ((issueIndex_frame _).mono (by simp)))

theorem stallRing_stalls (k : RingKept s v) (which : RingWrite) : s.RingStalls which (v.stallRing which) := by
  refine ⟨rfl, rfl, ?_, raise_pending _ _ _, k.prod, k.holdList⟩
  show some (v.timer 1000) = _
  rw [State.timer, k.time]

end reports

/-! ### The finish of a ring write -/

section finish
variable {s v : State} {i : OttIx}

/-- What a finish keeps of the report. -/
theorem finish_reported (live : (v.ott.entries[i]).state = .live) {job : FabricJob} (origin : (v.ott.entries[i]).origin = .fabric job)
    (st : Status) : ∃ d, (v.finish i st).ring = (v.report job st d).ring ∧ (v.finish i st).holdList = (v.report job st d).holdList
      ∧ (v.finish i st).fabric = (v.report job st d).fabric
      ∧ (v.finish i st).causes.entries[causeIx .ringStalled] = (v.report job st d).causes.entries[causeIx .ringStalled] := by
  refine ⟨if isRead (v.ott.entries[i]).body && st == .good then (v.ott.entries[i]).readData else none, ?_⟩
  rw [finish_told live origin]
  have kept := fun t : State => freeEntry_frame t i
  have causes : ∀ t : State, (t.freeEntry i).causes = t.causes := fun t => kept t .causes (by simp)
  refine ⟨(kept _ .ring (by simp)).trans (told_frame .ring (by simp)), (kept _ .holdList (by simp)).trans (told_frame .holdList (by simp)),
    (kept _ .fabric (by simp)).trans (told_frame .fabric (by simp)), ?_⟩
  rw [causes, told_cause (by decide) (by decide)]

theorem RingStalls.of_same {t u : State} {which : RingWrite} (h : s.RingStalls which t) (ring : u.ring = t.ring) (held : u.holdList = t.holdList)
    (cause : u.causes.entries[causeIx .ringStalled] = t.causes.entries[causeIx .ringStalled]) : s.RingStalls which u := by
  obtain ⟨writer, stalled, timer, pending, prod, hold⟩ := h
  refine ⟨?_, ?_, ?_, by rw [cause]; exact pending, ?_, held.trans hold⟩ <;> rw [ring] <;> assumption

variable (k : RingKept s v) (live : (v.ott.entries[i]).state = .live)
include k live

/-- A record write's finish (R130, R132). -/
theorem finish_record (origin : (v.ott.entries[i]).origin = .fabric .ringRecord) (st : Status) :
    (st = .good → (v.finish i st).holdList = s.holdList.tail ∧ (v.finish i st).ring.prod = s.ring.prod + 1
        ∧ (v.finish i st).ring.writer = .writingIndex ∧ (v.finish i st).fabric.getLast? = some (s.indexWrite (s.ring.prod + 1)))
      ∧ (st ≠ .good → s.RingStalls .record (v.finish i st)) := by
  obtain ⟨d, ring, held, fabric, cause⟩ := finish_reported live origin st
  refine ⟨fun good => ?_, fun bad => ?_⟩
  · obtain ⟨hold, prod, writer, issued⟩ := recordReport_good (s := v)
    rw [ring, held, fabric, good]
    refine ⟨hold.trans (congrArg List.tail k.holdList), prod.trans (congrArg (· + 1) k.prod), writer, ?_⟩
    rw [show (v.report .ringRecord .good d).fabric = _ from issued, List.getLast?_concat, State.indexWrite, State.indexWrite, k.producerLoc, k.prod]
  · refine RingStalls.of_same ?_ ring held cause
    rw [show v.report .ringRecord st d = v.stallRing .record from if_neg bad]
    exact stallRing_stalls k .record

/-- An index write's finish (R131, R132). -/
theorem finish_index (origin : (v.ott.entries[i]).origin = .fabric .ringIndex) (st : Status) :
    (st = .good → (v.finish i st).ring.writer = .idle ∧ (v.finish i st).ring.prod = s.ring.prod ∧ (v.finish i st).holdList = s.holdList)
      ∧ (st ≠ .good → s.RingStalls .index (v.finish i st)) := by
  obtain ⟨d, ring, held, -, cause⟩ := finish_reported live origin st
  refine ⟨fun good => ?_, fun bad => ?_⟩
  · rw [ring, held, good]
    exact ⟨rfl, k.prod, k.holdList⟩
  · refine RingStalls.of_same ?_ ring held cause
    rw [show v.report .ringIndex st d = v.stallRing .index from if_neg bad]
    exact stallRing_stalls k .index

end finish

/-! ### The settlement of a fabric write -/

/-- Fabric entry `i`, a LIVE write, finishes from `v`, with `s` as it was before the settlement. -/
structure WriteFinish (s : State) (i : OttIx) (good : Prop) (v : State) (st : Status) : Prop where
  state : (v.ott.entries[i]).state = .live
  origin : (v.ott.entries[i]).origin = (s.ott.entries[i]).origin
  gen : (v.ott.entries[i]).gen = (s.ott.entries[i]).gen
  kept : RingKept s v
  status : st = .good ↔ good

section settles
variable {s a : State} {i : OttIx} {x : Side} {way : SettleWay} (from_ : SettleFrom s i a) (write : (s.ott.entries[i]).body ≠ .rd)
  (live : (s.ott.entries[i]).state = .live) (calm : ((s.ott.entries[i]).leg (otherSide x)).progress ≠ .waiting)
include from_ write live calm

omit live in
/-- The settlement of one leg of a write, up to its end. -/
theorem settle_writeStage : ∃ v, a.settle i x way = v.writeEnds i ∧ v.ott.entries[i] = (a.settled i x way).ott.entries[i] ∧ RingKept s v
    ∧ (way.progress ≠ .doneFailed → v = a.settled i x way) := by
  have b := from_.settledAround (x := x) way
  have own := from_.leg (x := x) way
  have other := from_.otherLeg (x := x) way
  rw [settle_write (s := a) x (by rw [from_.around.body]; exact write)]
  by_cases failed : way.progress = .doneFailed
  · rw [writeLegSettled_failed failed]
    refine ⟨_, rfl, ?_, (RingKept.of_around b).stays (singleLegLoss_ringStays _ _ x) (singleLegLoss_frame _ _ x .time (by decide)),
      fun k => absurd failed k⟩
    exact (singleLegLoss_cut _ _ x).same ((forall_side_iff x).mpr ⟨by rw [own]; dsimp only; rw [failed]; decide, by rw [other]; exact calm⟩)
  · rw [writeLegSettled_kept x failed]
    exact ⟨_, rfl, rfl, .of_around b, fun _ => rfl⟩

/-- It ends when the other leg is not SENT (R76). -/
theorem settle_writeFinishes (last : ((s.ott.entries[i]).leg (otherSide x)).progress ≠ .sent) :
    ∃ v st, a.settle i x way = v.finish i st
      ∧ WriteFinish s i (way.progress = .doneGood ∨ ((s.ott.entries[i]).leg (otherSide x)).progress = .doneGood) v st := by
  have b := from_.settledAround (x := x) way
  have own := from_.leg (x := x) way
  have other := from_.otherLeg (x := x) way
  obtain ⟨v, row, entry, kept, -⟩ := settle_writeStage (x := x) (way := way) from_ write calm
  rw [row]
  rw [← entry] at own other
  have none_ : ¬ (v.ott.entries[i]).anySent = true := by
    rw [anySent_iff x, own, other]
    exact fun k => k.elim (settled_progress way).1 last
  refine ⟨v, _, writeEnds_finishes none_, by rw [entry]; exact b.state_.trans live, by rw [entry]; exact b.origin, by rw [entry]; exact b.gen,
    kept, ⟨fun status => ?_, fun good => ?_⟩⟩
  · by_contra bad
    refine writeStatus_bad x _ ?_ status
    rw [own, other]
    exact bad
  · refine writeStatus_good x _ ?_
    rw [own, other]
    exact good

/-- It waits while the other leg is SENT (R76). -/
theorem settle_writeWaits (sent : ((s.ott.entries[i]).leg (otherSide x)).progress = .sent) :
    ((a.settle i x way).ott.entries[i]).state = .live ∧ (((a.settle i x way).ott.entries[i]).leg x).progress = way.progress
      ∧ RingKept s (a.settle i x way) := by
  have b := from_.settledAround (x := x) way
  have own := from_.leg (x := x) way
  have other := from_.otherLeg (x := x) way
  obtain ⟨v, row, entry, kept, -⟩ := settle_writeStage (x := x) (way := way) from_ write calm
  rw [row]
  rw [← entry] at own other
  rw [writeEnds_waits ((anySent_iff x _).mpr (.inr (by rw [other]; exact sent)))]
  exact ⟨by rw [entry]; exact b.state_.trans live, by rw [own], kept⟩

end settles

section settledBy
variable {s : State} {c : Instr} {i : OttIx} {x : Side} {way : SettleWay} (h : s.running) (hs : s.SettledBy c i x way)
  (write : (s.ott.entries[i]).body ≠ .rd) (live : (s.ott.entries[i]).state = .live)
  (calm : ((s.ott.entries[i]).leg (otherSide x)).progress ≠ .waiting)
include write live

/-- A visit of the sweep that settles both legs ends the write, with no leg DONE_GOOD. -/
theorem visitEntry_writeFinishes {p : PortIx} (hit : ∀ y, s.sweepable p ((s.ott.entries[i]).leg y) = true) :
    ∃ v st, s.visitEntry p i = v.finish i st ∧ WriteFinish s i False v st := by
  have b := settled_around s i .primary .abandoned
  have own := settled_leg s i .primary .abandoned
  rw [visitEntry_both write hit]
  generalize s.settled i .primary .abandoned = u at b own
  have gone : ((u.ott.entries[i]).leg (otherSide .mirror)).progress = .abandoned := congrArg OttLeg.progress own
  obtain ⟨v, st, row, finish⟩ := settle_writeFinishes (x := .mirror) (way := .abandoned) (settleFrom_self u i)
    (by rw [b.body]; exact write) (b.state_.trans live) (by rw [gone]; decide) (by rw [gone]; decide)
  refine ⟨v, st, row, finish.state, finish.origin.trans b.origin, finish.gen.trans b.gen, (RingKept.of_around b).trans finish.kept, ?_⟩
  rw [finish.status, gone]
  exact ⟨fun k => k.elim LegProgress.noConfusion LegProgress.noConfusion, False.elim⟩

include h hs calm

/-- The settlement of a write's last SENT leg by a command, up to the advance of the sweep. -/
theorem settledBy_writeFinishes (last : s.LastSent i x way) : ∃ v st t, exec c s = .next t ∧ SameExcept [.sweep] (v.finish i st) t
    ∧ WriteFinish s i (way.progress = .doneGood ∨ ((s.ott.entries[i]).leg (otherSide x)).progress = .doneGood) v st := by
  by_cases double : way = .abandoned ∧ ∃ p : PortIx, s.sweep.port = some p ∧ s.sweepable p ((s.ott.entries[i]).leg (otherSide x)) = true
  · obtain ⟨rfl, p, port, other⟩ := double
    rcases hs with ⟨_, _, _, _, _, _, _, _, _, _, _, way⟩ | ⟨_, _, _, _, _, _, _, _, _, way⟩ | ⟨_, way, _⟩ | ⟨rfl, _, here, p', port', swept, _⟩
    · cases way
    · cases way
    · cases way
    · cases port.symm.trans port'
      obtain ⟨v, st, row, finish⟩ := visitEntry_writeFinishes write live
        ((forall_side_iff (P := fun y => s.sweepable p ((s.ott.entries[i]).leg y) = true) x).mpr ⟨swept, other⟩)
      have visited := exec_sweepVisit h port
      rw [here, row] at visited
      refine ⟨v, st, _, visited, advanceSweep_frame _ i, finish.state, finish.origin, finish.gen, finish.kept, finish.status.trans ?_⟩
      rw [sweepable_sent other]
      exact ⟨False.elim, fun k => k.elim LegProgress.noConfusion LegProgress.noConfusion⟩
  · obtain ⟨a, t, row, from_, advanced⟩ := settledBy_single h hs fun gone p port =>
      Bool.eq_false_iff.mpr fun other => double ⟨gone, p, port, other⟩
    obtain ⟨v, st, ends, finish⟩ := settle_writeFinishes (x := x) (way := way) from_ write live calm (last.resolve_right double)
    rw [ends] at advanced
    exact ⟨v, st, t, row, advanced, finish⟩

omit write live calm in
/-- The settlement of a leg whose entry has another SENT leg, which nothing settles. -/
theorem settledBy_alone (waits : ¬ s.LastSent i x way) : ((s.ott.entries[i]).leg (otherSide x)).progress = .sent
    ∧ ∃ a t, exec c s = .next t ∧ SettleFrom s i a ∧ SameExcept [.sweep] (a.settle i x way) t := by
  obtain ⟨sent, single⟩ := not_or.mp waits
  exact ⟨not_not.mp sent, settledBy_single h hs fun gone p port => Bool.eq_false_iff.mpr fun other => single ⟨gone, p, port, other⟩⟩

omit calm in
/-- A GOOD leg of a fabric write finishes it GOOD unless its other leg is SENT. -/
theorem settledBy_goodWrite (good : way.progress = .doneGood) (last : ((s.ott.entries[i]).leg (otherSide x)).progress ≠ .sent) :
    ∃ t, exec c s = .next t ∧ s.FabricReported i x .good none t := by
  obtain ⟨d, rfl⟩ := progress_good good
  obtain ⟨a, t, row, from_, advanced⟩ := settledBy_single h hs fun gone => nomatch gone
  have b := from_.settledAround (x := x) (.response .good d)
  have own := from_.leg (x := x) (.response .good d)
  have other := from_.otherLeg (x := x) (.response .good d)
  have congested := (congestedGood_settled a i x (.response .good d) good).trans (from_.congested x)
  rw [settle_writeGood_eq (x := x) from_ write good] at advanced
  generalize a.settled i x (.response .good d) = u at b own other congested advanced
  have none_ : ¬ (u.ott.entries[i]).anySent = true := by
    rw [anySent_iff x, own, other]
    exact fun k => k.elim LegProgress.noConfusion last
  rw [writeEnds_finishes none_, writeStatus_good x _ (.inl (by rw [own]; exact good))] at advanced
  have reported := b.fabricReported x live (st := .good) (d := none) (by rw [isRead_false.mpr write]; rfl) fun _ => congested
  exact ⟨t, row, FabricReported.of_frame reported advanced (by decide)⟩

end settledBy

/-! ### O42 -/

/-- Settles O42: the ring writer issues, its writes' entries report when their last SENT leg settles, and a stalled write is issued again. -/
theorem ringWriterIssues : Obligations.RingWriterIssues := by
  intro s j index
  refine ⟨fun b more held => ?record, ⟨rfl, rfl, rfl, recordReport_goodFrame⟩, rfl, fun h due stalled => ?index,
    fun c i x way h hs => ?settles⟩
  case record =>
    intro line
    obtain ⟨writer, fabric, prod, timer, frame⟩ := issueRecord_issues held
    refine ⟨fun h configured idle room => ?_, fun h due stalled => ?_, congrArg List.tail held⟩
    · refine ⟨s.issueRecord, ?_, writer, fabric, prod, frame⟩
      have ready : s.recordReady = true := by
        rw [State.recordReady, configured, idle, held, Ring.room, bne_iff_ne.mpr room]
        rfl
      show execRecordWriteIssue s = _
      rw [execRecordWriteIssue, event_running h, if_pos ready]
    · refine ⟨s.issueRecord, ?_, writer, fabric, timer, frame⟩
      show execRingRetryTimerExpiry s = _
      rw [execRingRetryTimerExpiry, event_running h, if_pos due, stalled]
  case index =>
    obtain ⟨writer, fabric, -, timer, frame⟩ := issueIndex_issues (s := s)
    refine ⟨s.issueIndex, ?_, writer, fabric, timer, frame⟩
    show execRingRetryTimerExpiry s = _
    rw [execRingRetryTimerExpiry, event_running h, if_pos due, stalled]
  case settles =>
    intro e other good stalls live write origin calm
    by_cases last : s.LastSent i x way
    · obtain ⟨v, st, t, row, advanced, finish⟩ := settledBy_writeFinishes h hs write live calm last
      have ring : t.ring = (v.finish i st).ring := advanced .ring (by simp)
      have hold : t.holdList = (v.finish i st).holdList := advanced .holdList (by simp)
      have fabric : t.fabric = (v.finish i st).fabric := advanced .fabric (by simp)
      have ott : t.ott = (v.finish i st).ott := advanced .ott (by simp)
      have causes : t.causes = (v.finish i st).causes := advanced .causes (by simp)
      refine ⟨t, row, fun good_ quiet => ?_, fun _ => ⟨?_, fun record => ?_, fun index_ => ?_⟩, fun waits => absurd last waits⟩
      · obtain ⟨t', row', reported⟩ := settledBy_goodWrite h hs write live good_ quiet
        cases row.symm.trans row'
        exact reported
      · rw [ott, finish_get v i (by rw [finish.state]; decide), finish.gen]
      · obtain ⟨done, stalled⟩ := finish_record finish.kept finish.state (finish.origin.trans record) st
        refine ⟨fun g => ?_, fun b => ?_⟩
        · rw [hold, ring, fabric]
          exact done (finish.status.mpr g)
        · exact RingStalls.of_same (stalled fun k => b (finish.status.mp k)) ring hold (by rw [causes])
      · obtain ⟨done, stalled⟩ := finish_index finish.kept finish.state (finish.origin.trans index_) st
        refine ⟨fun g => ?_, fun b => ?_⟩
        · rw [hold, ring]
          exact done (finish.status.mpr g)
        · exact RingStalls.of_same (stalled fun k => b (finish.status.mp k)) ring hold (by rw [causes])
    · obtain ⟨sent, a, t, row, from_, advanced⟩ := settledBy_alone h hs last
      obtain ⟨state, own, kept⟩ := settle_writeWaits (x := x) (way := way) from_ write live calm sent
      have ring : t.ring = (a.settle i x way).ring := advanced .ring (by simp)
      have hold : t.holdList = (a.settle i x way).holdList := advanced .holdList (by simp)
      have ott : t.ott = (a.settle i x way).ott := advanced .ott (by simp)
      refine ⟨t, row, fun _ quiet => absurd sent quiet, fun k => absurd k last, fun _ => ?_⟩
      rw [ott, ring, hold]
      exact ⟨state, own, kept.prod, kept.holdList⟩

end Sys2Proof.Machine

/-! PROOF. The filling of copy slots, and the lowest line held (sections 9.1 and 9.2). -/

namespace Sys2Proof.Machine

/-! ### Filling (R150) -/

/-- The FREE slots, lowest number first. -/
def State.vacant (s : State) : List SlotIx := (List.finRange 4).filter fun k => (s.copy.slots[k]).state == .free

/-- A slot that has just taken a line. -/
def CopySlot.took (line : Nat) : CopySlot := ⟨.reading, line, false, false, 0, false, none⟩

/-- The copy read of a slot's line. -/
def copyReadOf (k : SlotIx) (line : Nat) : FabricReq := ⟨.copySlot k, BitVec.ofNat 46 line, .rd⟩

/-- A line remains at the frontier for a FREE slot to take (R150). -/
def State.fills (s : State) : Prop :=
  s.copy.state = .copying ∧ s.copy.frontier < s.copy.endLine ∧ s.copy.frontier < s.copy.cursor + 4

/-- Slot `k` takes the line at the frontier. -/
def State.fill (s : State) (k : SlotIx) : State :=
  ((({ s with copy := { s.copy with frontier := s.copy.frontier + 1 } }).modSlot k fun _ => .took s.copy.frontier).issueFabric
    (copyReadOf k s.copy.frontier))

/-- Between `s` and `t` the `n` lowest-numbered FREE slots have taken the lines from the frontier on. -/
structure Filled (s : State) (n : Nat) (t : State) : Prop where
  engine : t.copy = { s.copy with frontier := s.copy.frontier + n, slots := t.copy.slots }
  taken : ∀ (m : Nat) (j : SlotIx), m < n → s.vacant[m]? = some j → t.copy.slots[j] = .took (s.copy.frontier + m)
  others : ∀ j : SlotIx, j ∉ s.vacant.take n → t.copy.slots[j] = s.copy.slots[j]
  fabric : t.fabric = s.fabric ++ (s.vacant.take n).mapIdx fun m j => copyReadOf j (s.copy.frontier + m)
  frame : SameExcept [.copy, .fabric] s t

section filling
variable (s : State)

theorem vacant_nodup : s.vacant.Nodup := (List.nodup_finRange 4).filter _

theorem vacant_length : s.vacant.length ≤ 4 := (List.length_filter_le _ _).trans (by rw [List.length_finRange])

theorem freeSlot_head : s.copy.freeSlot = s.vacant.head? := by rw [State.vacant, List.head?_filter, CopyEngine.freeSlot]

/-- No slot takes a line where none remains or none is FREE. -/
theorem fillOne_none (no : ¬ (s.fills ∧ s.vacant ≠ [])) : s.fillOne = s := by
  unfold State.fillOne
  dsimp only
  split
  · rename_i fills
    rw [freeSlot_head, List.head?_eq_none_iff.mpr (not_not.mp fun some_ => no ⟨fills, some_⟩)]
  · rfl

variable {s} {k : SlotIx} {rest : List SlotIx}

theorem fillOne_fill (fills : s.fills) (vacant : s.vacant = k :: rest) : s.fillOne = s.fill k := by
  unfold State.fillOne
  dsimp only
  rw [if_pos (show s.copy.state = .copying ∧ s.copy.frontier < s.copy.endLine ∧ s.copy.frontier < s.copy.cursor + Config.copySpan from fills),
    freeSlot_head, vacant]
  rfl

theorem fill_slot : (s.fill k).copy.slots[k] = .took s.copy.frontier := mapAt_get_self _ k _

theorem fill_otherSlot {j : SlotIx} (h : j ≠ k) : (s.fill k).copy.slots[j] = s.copy.slots[j] := mapAt_get_ne _ k j _ (Ne.symm h)

/-- The FREE slots left when the first of them takes a line. -/
theorem fill_vacant (vacant : s.vacant = k :: rest) : (s.fill k).vacant = rest := by
  have nodup : (k :: rest).Nodup := vacant ▸ vacant_nodup s
  have still : ∀ j : SlotIx, (((s.fill k).copy.slots[j]).state == .free) = true ↔ j ≠ k ∧ ((s.copy.slots[j]).state == .free) = true := by
    intro j
    by_cases here : j = k
    · subst here
      rw [fill_slot]
      exact ⟨fun h => (nomatch h), fun h => absurd rfl h.1⟩
    · rw [fill_otherSlot here]
      exact ⟨fun h => ⟨here, h⟩, fun h => h.2⟩
  calc (s.fill k).vacant
      = (List.finRange 4).filter fun j => decide (j ≠ k) && ((s.copy.slots[j]).state == .free) := by
        refine List.filter_congr fun j _ => ?_
        rw [Bool.eq_iff_iff, Bool.and_eq_true, decide_eq_true_eq]
        exact still j
    _ = s.vacant.filter fun j => decide (j ≠ k) := by rw [State.vacant, List.filter_filter]
    _ = rest := by
        rw [vacant, List.filter_cons_of_neg (by simp), List.filter_eq_self]
        exact fun j mem => decide_eq_true fun same => (List.nodup_cons.mp nodup).1 (same ▸ mem)

theorem fill_frame : SameExcept [.copy, .fabric] s (s.fill k) := fun x h => by cases x <;> first | rfl | exact absurd (by simp) h

theorem Filled.zero (s : State) : Filled s 0 s := ⟨rfl, fun m j bound => absurd bound (Nat.not_lt_zero m), fun _ _ => rfl, by simp, .rfl_⟩

/-- One slot takes a line, and then `n` more. -/
theorem Filled.succ {n : Nat} {t : State} (vacant : s.vacant = k :: rest) (h : Filled (s.fill k) n t) : Filled s (n + 1) t := by
  have left := fill_vacant vacant
  have nodup : k ∉ rest := (List.nodup_cons.mp (vacant ▸ vacant_nodup s)).1
  have shift (m : Nat) : s.copy.frontier + 1 + m = s.copy.frontier + (m + 1) := by omega
  have frontier : (s.fill k).copy.frontier = s.copy.frontier + 1 := rfl
  refine ⟨?_, fun m j bound here => ?_, fun j out => ?_, ?_, fill_frame.trans h.frame⟩
  · rw [h.engine, frontier, shift, Nat.add_comm n 1]
    rfl
  · rw [vacant] at here
    cases m with
    | zero =>
      cases Option.some.inj here
      rw [h.others k fun mem => nodup (left ▸ List.mem_of_mem_take mem), fill_slot]
      rfl
    | succ m => rw [h.taken m j (Nat.lt_of_succ_lt_succ bound) (by rw [left]; exact here), frontier, shift]
  · rw [vacant, List.take_succ_cons, List.mem_cons, not_or] at out
    rw [h.others j (by rw [left]; exact out.2), fill_otherSlot out.1]
  · rw [h.fabric, left, vacant, List.take_succ_cons, List.mapIdx_cons, frontier]
    simp only [shift]
    exact List.append_assoc _ [_] _

end filling

/-- The lines and slots that bound a filling (R150). -/
def State.fillBound (s : State) : Nat := min s.vacant.length (min (s.copy.endLine - s.copy.frontier) (s.copy.cursor + 4 - s.copy.frontier))

/-- `m` fillings take as many lines as there are, at most `m`. -/
theorem fillOne_iterate (m : Nat) (s : State) (copying : s.copy.state = .copying) : Filled s (min m s.fillBound) (State.fillOne^[m] s) := by
  induction m generalizing s with
  | zero => rw [Nat.zero_min]; exact .zero s
  | succ m ih =>
    rw [Function.iterate_succ_apply]
    by_cases go : s.fills ∧ s.vacant ≠ []
    · obtain ⟨fills, some_⟩ := go
      obtain ⟨k, rest, vacant⟩ := List.exists_cons_of_ne_nil some_
      rw [fillOne_fill fills vacant]
      have bound : min (m + 1) s.fillBound = min m (s.fill k).fillBound + 1 := by
        have left := fill_vacant vacant
        obtain ⟨-, inside, near⟩ := fills
        rw [State.fillBound, State.fillBound, left, vacant, List.length_cons]
        show _ = min m (min rest.length (min (s.copy.endLine - (s.copy.frontier + 1)) (s.copy.cursor + 4 - (s.copy.frontier + 1)))) + 1
        omega
      rw [bound]
      exact .succ vacant (ih (s.fill k) copying)
    · have none_ : s.fillBound = 0 := by
        rw [State.fillBound]
        by_contra some_
        refine go ⟨⟨copying, by omega, by omega⟩, fun empty => ?_⟩
        rw [empty] at some_
        simp at some_
      rw [fillOne_none s go]
      have same := ih s copying
      rw [none_, Nat.min_zero] at same ⊢
      exact same

/-- What the filling of slots leaves. -/
theorem fillSlots_filled (s : State) (copying : s.copy.state = .copying) : Filled s s.fillBound s.fillSlots := by
  have four := fillOne_iterate 4 s copying
  have bound : s.fillBound ≤ 4 := (Nat.min_le_left _ _).trans (vacant_length s)
  rwa [Nat.min_eq_right bound] at four

/-! ### The lowest line held (R152) -/

section lowest

/-- A fold by minimum is at most its start and at most every value it takes, and is one of them. -/
theorem foldl_lowest (l : List CopySlot) (f : Nat) :
    let low := l.foldl (fun m k => if k.state = .free then m else min m k.line) f
    low ≤ f ∧ (∀ k ∈ l, k.state ≠ .free → low ≤ k.line) ∧ (low = f ∨ ∃ k ∈ l, k.state ≠ .free ∧ k.line = low) := by
  induction l generalizing f with
  | nil => exact ⟨le_rfl, fun _ mem => (nomatch mem), .inl rfl⟩
  | cons k l ih =>
    obtain ⟨start, all, one⟩ := ih (if k.state = .free then f else min f k.line)
    rw [List.foldl_cons]
    by_cases free : k.state = .free
    · rw [if_pos free] at start all one ⊢
      refine ⟨start, fun j mem held => ?_, one.imp_right fun ⟨j, mem, held⟩ => ⟨j, List.mem_cons_of_mem _ mem, held⟩⟩
      rcases List.mem_cons.mp mem with rfl | mem
      · exact absurd free held
      · exact all j mem held
    · rw [if_neg free] at start all one ⊢
      refine ⟨start.trans (Nat.min_le_left _ _), fun j mem held => ?_, ?_⟩
      · rcases List.mem_cons.mp mem with rfl | mem
        · exact start.trans (Nat.min_le_right _ _)
        · exact all j mem held
      · rcases one with same | ⟨j, mem, held⟩
        · rcases min_choice f k.line with least | least
          · exact .inl (same.trans least)
          · exact .inr ⟨k, List.mem_cons_self, free, (same.trans least).symm⟩
        · exact .inr ⟨j, List.mem_cons_of_mem _ mem, held⟩

/-- The lowest line held by a slot, or the frontier. -/
theorem lowestHeld_spec (c : CopyEngine) : c.lowestHeld ≤ c.frontier
    ∧ (∀ j : SlotIx, (c.slots[j]).state ≠ .free → c.lowestHeld ≤ (c.slots[j]).line)
    ∧ (c.lowestHeld = c.frontier ∨ ∃ j : SlotIx, (c.slots[j]).state ≠ .free ∧ (c.slots[j]).line = c.lowestHeld) := by
  obtain ⟨start, all, one⟩ := foldl_lowest c.slots.toList c.frontier
  refine ⟨start, fun j held => all _ (Vector.mem_toList_iff.mpr (Vector.getElem_mem j.2)) held, one.imp_right fun ⟨k, mem, held⟩ => ?_⟩
  obtain ⟨n, bound, rfl⟩ := List.getElem_of_mem mem
  exact ⟨⟨n, by simpa using bound⟩, held⟩

end lowest

end Sys2Proof.Machine

/-! PROOF. The start of a rebuild, a GOOD copy write, and the rebuild's completion (sections 9.1 to 9.3). -/

namespace Sys2Proof.Machine

/-! ### Completion (R153) -/

section complete
variable (s : State) {w : WindowIx} (copying : s.copy.state = .copying) (window : s.copy.window = some w)
include copying window

theorem completeRebuild_waits (more : s.copy.cursor ≠ s.copy.endLine) : s.completeRebuild = s := by
  rw [State.completeRebuild, copying, window]
  exact if_neg more

/-- The rebuild completes when the cursor reaches the window's end. -/
theorem completeRebuild_done (reached : s.copy.cursor = s.copy.endLine) :
    s.completeRebuild.copy = { s.copy with state := .idle, window := none }
      ∧ ((s.completeRebuild.windows[w]).leg s.copy.rebuilding) = { (s.windows[w]).leg s.copy.rebuilding with state := .inService }
      ∧ s.completeRebuild.jobs = { s.jobs with rebuild := ⟨.done, s.copy.redoTotal⟩ }
      ∧ (s.completeRebuild.causes.entries[causeIx .rebuildDone]).pending = true
      ∧ (s.completeRebuild.causes.entries[causeIx .rebuildDone]).detail = BitVec.ofNat 16 w.1
      ∧ s.completeRebuild.rebuildTold ∧ s.completeRebuild.fabric = s.fabric := by
  have form : s.completeRebuild = ((({ s with copy := { s.copy with state := .idle, window := none } }).setLeg w s.copy.rebuilding .inService).raise
      .rebuildDone (numDetail w.1)).endJob .rebuild .done s.copy.redoTotal := by
    rw [State.completeRebuild, copying, window]
    exact if_pos reached
  rw [form]
  have cause (u : State) (n : Nat) : ((u.raise .rebuildDone (numDetail w.1)).endJob .rebuild .done n).causes.entries[causeIx .rebuildDone]
      = (u.raise .rebuildDone (numDetail w.1)).causes.entries[causeIx .rebuildDone] := raise_other (State.setJob _ .rebuild _) _ _ (by decide)
  have latest (u : State) : ((u.raise .rebuildDone (numDetail w.1)).causes.entries[causeIx .rebuildDone]).detail = BitVec.ofNat 16 w.1 := by
    rw [raise_get]
    split <;> rfl
  refine ⟨rfl, ?_, rfl, ?_, ?_, endJob_told _ _ _, rfl⟩
  · refine (congrArg (Window.leg · s.copy.rebuilding) (modWindow_get { s with copy := _ } w _)).trans ?_
    exact Window.modLeg_leg _ _ _
  · rw [cause]
    exact raise_pending _ _ _
  · rw [cause]
    exact latest _

end complete

/-! ### A GOOD copy write (R152, R150) -/

/-- A GOOD copy write's slot is FREE and the cursor has moved to the lowest line held. -/
def State.copied (s : State) (k : SlotIx) : State := { s.freeSlot k with copy := { (s.freeSlot k).copy with cursor := (s.freeSlot k).copy.lowestHeld } }

section copied
variable (s : State) (k : SlotIx)

theorem copyWriteDone_eq : s.copyWriteDone k = (s.copied k).fillSlots.completeRebuild := rfl

theorem copied_slot : (s.copied k).copy.slots[k] = .freed := mapAt_get_self _ k _

theorem copied_otherSlot {j : SlotIx} (h : j ≠ k) : (s.copied k).copy.slots[j] = s.copy.slots[j] := mapAt_get_ne _ k j _ (Ne.symm h)

/-- Slot `j` still holds a line once slot `k` is FREE. -/
theorem copied_held (j : SlotIx) : ((s.copied k).copy.slots[j]).state ≠ .free ↔ j ≠ k ∧ (s.copy.slots[j]).state ≠ .free := by
  by_cases here : j = k
  · subst here
    rw [copied_slot]
    exact ⟨fun h => absurd rfl h, fun h => absurd rfl h.1⟩
  · rw [copied_otherSlot s k here]
    exact ⟨fun h => ⟨here, h⟩, fun h => h.2⟩

theorem copied_vacant : (s.copied k).vacant = (List.finRange 4).filter fun j : SlotIx => decide (j = k ∨ (s.copy.slots[j]).state = .free) := by
  refine List.filter_congr fun j _ => ?_
  rw [Bool.eq_iff_iff, beq_iff_eq, decide_eq_true_eq]
  have held := not_congr (copied_held s k j)
  rw [not_not] at held
  rw [held]
  tauto

/-- The cursor moves to the lowest line held, or to the frontier. -/
theorem copied_cursor : (s.copied k).copy.cursor ≤ s.copy.frontier
    ∧ (∀ j, j ≠ k ∧ (s.copy.slots[j]).state ≠ .free → (s.copied k).copy.cursor ≤ (s.copy.slots[j]).line)
    ∧ ((s.copied k).copy.cursor = s.copy.frontier
      ∨ ∃ j, (j ≠ k ∧ (s.copy.slots[j]).state ≠ .free) ∧ (s.copy.slots[j]).line = (s.copied k).copy.cursor) := by
  obtain ⟨start, all, one⟩ := lowestHeld_spec (s.freeSlot k).copy
  have held := copied_held s k
  refine ⟨start, fun j hold => ?_, one.imp_right fun ⟨j, hold, line⟩ => ⟨j, (held j).mp hold, ?_⟩⟩
  · rw [← copied_otherSlot s k hold.1]
    exact all j ((held j).mpr hold)
  · rw [← copied_otherSlot s k ((held j).mp hold).1]
    exact line

theorem copied_frame : SameExcept [.copy] s (s.copied k) := fun x h => by cases x <;> first | rfl | exact absurd (by simp) h

/-- What a GOOD copy write leaves. -/
theorem copyWriteDone_leaves {w : WindowIx} (copying : s.copy.state = .copying) (window : s.copy.window = some w) :
    (s.copyWriteDone k).copy = { (s.copied k).copy with
        frontier := s.copy.frontier + (s.copied k).fillBound, slots := (s.copyWriteDone k).copy.slots
        state := (s.copyWriteDone k).copy.state, window := (s.copyWriteDone k).copy.window }
      ∧ (∀ (m : Nat) (j : SlotIx), m < (s.copied k).fillBound → (s.copied k).vacant[m]? = some j →
          (s.copyWriteDone k).copy.slots[j] = .took (s.copy.frontier + m))
      ∧ (∀ j : SlotIx, j ∉ (s.copied k).vacant.take (s.copied k).fillBound →
          (s.copyWriteDone k).copy.slots[j] = (s.copied k).copy.slots[j])
      ∧ (s.copyWriteDone k).fabric = s.fabric
          ++ ((s.copied k).vacant.take (s.copied k).fillBound).mapIdx (fun m j => copyReadOf j (s.copy.frontier + m))
      ∧ ((s.copied k).copy.cursor ≠ s.copy.endLine → (s.copyWriteDone k).copy.state = .copying ∧ (s.copyWriteDone k).copy.window = some w
        ∧ SameExcept [.copy, .fabric] s (s.copyWriteDone k))
      ∧ ((s.copied k).copy.cursor = s.copy.endLine → (s.copyWriteDone k).copy.state = .idle ∧ (s.copyWriteDone k).copy.window = none
        ∧ (((s.copyWriteDone k).windows[w]).leg s.copy.rebuilding) = { (s.windows[w]).leg s.copy.rebuilding with state := .inService }
        ∧ (s.copyWriteDone k).jobs = { s.jobs with rebuild := ⟨.done, s.copy.redoTotal⟩ }
        ∧ ((s.copyWriteDone k).causes.entries[causeIx .rebuildDone]).pending = true
        ∧ ((s.copyWriteDone k).causes.entries[causeIx .rebuildDone]).detail = BitVec.ofNat 16 w.1 ∧ (s.copyWriteDone k).rebuildTold
        ∧ SameExcept [.copy, .fabric, .windows, .jobs, .causes] s (s.copyWriteDone k)) := by
  obtain ⟨engine, taken, others, fabric, frame⟩ := fillSlots_filled (s.copied k) copying
  rw [copyWriteDone_eq]
  generalize (s.copied k).fillSlots = t at engine taken others fabric frame
  have copying' : t.copy.state = .copying := by rw [engine]; exact copying
  have window' : t.copy.window = some w := by rw [engine]; exact window
  have cursor : t.copy.cursor = (s.copied k).copy.cursor := by rw [engine]
  have endLine : t.copy.endLine = s.copy.endLine := by rw [engine]; rfl
  have whole : SameExcept [.copy, .fabric] s t := ((copied_frame s k).mono (by simp)).trans frame
  by_cases reached : t.copy.cursor = t.copy.endLine
  · obtain ⟨copy, leg, jobs, pending, detail, told, same⟩ := completeRebuild_done t copying' window' reached
    have completed := completeRebuild_frame t
    have rebuilding : t.copy.rebuilding = s.copy.rebuilding := by rw [engine]; rfl
    have redoTotal : t.copy.redoTotal = s.copy.redoTotal := by rw [engine]; rfl
    rw [rebuilding, show t.windows = s.windows from whole .windows (by simp)] at leg
    rw [redoTotal, show t.jobs = s.jobs from whole .jobs (by simp)] at jobs
    rw [copy]
    refine ⟨by rw [engine]; rfl, taken, others, same.trans fabric, fun more => ?_, fun _ => ?_⟩
    · exact absurd ((cursor.symm.trans reached).trans endLine) more
    · exact ⟨rfl, rfl, leg, jobs, pending, detail, told, (whole.mono (by decide)).trans (completed.mono (by decide))⟩
  · rw [completeRebuild_waits t copying' window' reached]
    refine ⟨by rw [engine]; rfl, taken, others, fabric, fun _ => ⟨copying', window', whole⟩, fun k => ?_⟩
    exact absurd ((cursor.trans k).trans endLine.symm) reached

end copied

/-! ### The start of a rebuild (R149, R150) -/

/-- The engine at the start, before its slots fill. -/
def State.rebuildBegun (s : State) (w : WindowIx) (side : Side) : State :=
  ({ s with copy :=
      { state := .copying, window := some w, rebuilding := side
        firstLine := (s.windows[w]).firstLine, endLine := (s.windows[w]).endLine, cursor := (s.windows[w]).firstLine
        frontier := (s.windows[w]).firstLine, redoTotal := 0, reason := .none, slots := Vector.replicate 4 .freed } }).setLeg w side .rebuilding

theorem rebuildSide_some {win : Window} {side : Side} (lost : (win.leg side).state = .lost)
    (served : (win.leg (otherSide side)).state = .inService) : State.rebuildSide win = some side := by
  unfold State.rebuildSide
  cases side with
  | primary => rw [show win.primary.state = .lost from lost, show win.mirror.state = .inService from served]
  | mirror => rw [show win.mirror.state = .lost from lost, show win.primary.state = .inService from served]

/-- The engine at the start fills its four slots with the window's first four lines. -/
theorem beginRebuild_leaves (s : State) (w : WindowIx) (side : Side) (long : 1 ≤ (s.windows[w]).length) :
    let first := (s.windows[w]).base * 32768
    let t := s.beginRebuild w side
    t.copy.state = .copying ∧ t.copy.window = some w ∧ t.copy.rebuilding = side ∧ t.copy.firstLine = first
      ∧ t.copy.endLine = ((s.windows[w]).base + (s.windows[w]).length) * 32768 ∧ t.copy.cursor = first ∧ t.copy.frontier = first + 4
      ∧ (∀ k : SlotIx, t.copy.slots[k] = .took (first + k.1))
      ∧ t.fabric = s.fabric ++ (List.finRange 4).map (fun k => copyReadOf k (first + k.1))
      ∧ ((t.windows[w]).leg side).state = .rebuilding ∧ (t.windows[w]).leg (otherSide side) = (s.windows[w]).leg (otherSide side)
      ∧ SameExcept [.copy, .windows, .fabric] s t := by
  intro first t
  have vacant : (s.rebuildBegun w side).vacant = List.finRange 4 := by
    refine List.filter_eq_self.mpr fun k _ => ?_
    show (((Vector.replicate 4 CopySlot.freed)[k]).state == SlotState.free) = true
    rw [Fin.getElem_fin, Vector.getElem_replicate]
    rfl
  have bound : (s.rebuildBegun w side).fillBound = 4 := by
    rw [State.fillBound, vacant, List.length_finRange]
    show min 4 (min (((s.windows[w]).base + (s.windows[w]).length) * 32768 - (s.windows[w]).base * 32768)
      ((s.windows[w]).base * 32768 + 4 - (s.windows[w]).base * 32768)) = 4
    omega
  obtain ⟨engine, taken, -, fabric, frame⟩ := fillSlots_filled (s.rebuildBegun w side) rfl
  have row : t = (s.rebuildBegun w side).fillSlots := rfl
  rw [← row, bound] at engine taken fabric
  rw [← row] at frame
  rw [vacant] at taken fabric
  have windows : t.windows = (s.rebuildBegun w side).windows := frame .windows (by simp)
  have win : (s.rebuildBegun w side).windows[w] = (s.windows[w]).modLeg side fun l => { l with state := .rebuilding } := modWindow_get { s with copy := _ } w _
  clear_value t
  refine ⟨by rw [engine]; rfl, by rw [engine]; rfl, by rw [engine]; rfl, by rw [engine]; rfl, by rw [engine]; rfl, by rw [engine]; rfl,
    by rw [engine]; rfl, fun k => ?_, ?_, ?_, ?_, ?_⟩
  · refine taken k.1 k k.2 ?_
    rw [List.getElem?_eq_getElem (by rw [List.length_finRange]; exact k.2), List.getElem_finRange]
    rfl
  · exact fabric
  · rw [windows, win, Window.modLeg_leg]
  · rw [windows, win, Window.modLeg_other]
  · have begun : SameExcept [.copy, .windows] s (s.rebuildBegun w side) := fun x h => by cases x <;> first | rfl | exact absurd (by simp) h
    exact (begun.mono (by simp)).trans (frame.mono (by simp))

/-- START_REBUILD starts the job and the engine when nothing stands against it. -/
theorem startRebuild_okay {s : State} {w : WindowIx} {side : Side} (free : s.jobs.rebuild.state ≠ .active) (enabled : (s.windows[w]).enabled = true)
    (lost : ((s.windows[w]).leg side).state = .lost) (served : ((s.windows[w]).leg (otherSide side)).state = .inService)
    (carries : carriesLegs s.links[((s.windows[w]).leg side).port].mode = true) (up : s.links[((s.windows[w]).leg side).port].state = .active)
    (swept : s.awaitsSweep ((s.windows[w]).leg side).port = false) :
    s.startRebuild w.1 = ((s.startJob .rebuild).beginRebuild w side).okay := by
  unfold State.startRebuild
  rw [toIx_val]
  dsimp only
  rw [if_neg free, rebuildSide_some lost served]
  dsimp only
  rw [enabled, carries, up, swept]
  rfl

end Sys2Proof.Machine

/-! PROOF. A rebuild fails and drains, its copy reads and redos, and the writes it sees (sections 9.3 and 9.4). -/

namespace Sys2Proof.Machine

/-- The drain goes on between `s` and `t`, or ends with reason `reason` (R159). -/
structure State.Drained (s : State) (reason : FailReason) (t : State) : Prop where
  over_ : (∀ j : SlotIx, (t.copy.slots[j]).state = .free) → t.copy.state = .idle ∧ t.copy.window = none
    ∧ t.jobs = { s.jobs with rebuild := ⟨.failed, reasonCode reason⟩ } ∧ t.rebuildTold
  waits : (∃ j : SlotIx, (t.copy.slots[j]).state ≠ .free) → t.copy.state = .draining ∧ t.copy.window = s.copy.window
    ∧ t.jobs = s.jobs ∧ t.causes = s.causes

/-- The rebuild of window `w` has failed between `s` and `t`, the slots that `freed` names being FREE (R157). -/
structure State.Failed (s : State) (w : WindowIx) (reason : FailReason) (freed : SlotIx → Prop) (t : State) : Prop where
  leg : ((t.windows[w]).leg s.copy.rebuilding) = { (s.windows[w]).leg s.copy.rebuilding with state := .lost }
  engine : t.copy = { s.copy with state := t.copy.state, window := t.copy.window, reason := reason, slots := t.copy.slots }
  slots : ∀ j : SlotIx, (freed j → t.copy.slots[j] = .freed) ∧ (¬ freed j → t.copy.slots[j] = s.copy.slots[j])
  fabric : t.fabric = s.fabric.filter fun q => match q.job with | .copySlot _ => false | .ringRecord => true | .ringIndex => true
  drained : s.Drained reason t

section drains
variable {s t : State}

/-- Nothing of a drain or of a failure is in the other parts. -/
theorem State.Drained.of_frame {reason : FailReason} {v : State} {parts : List Part} (h : s.Drained reason t) (frame : SameExcept parts t v)
    (kept : ∀ f ∈ [Part.copy, .jobs, .causes], f ∉ parts) : s.Drained reason v := by
  have copy : v.copy = t.copy := frame .copy (kept _ (by simp))
  have jobs : v.jobs = t.jobs := frame .jobs (kept _ (by simp))
  have causes : v.causes = t.causes := frame .causes (kept _ (by simp))
  refine ⟨?_, ?_⟩
  · rw [copy, jobs, State.rebuildTold, causes]
    exact h.over_
  · rw [copy, jobs, causes]
    exact h.waits

theorem State.Failed.of_frame {w : WindowIx} {reason : FailReason} {freed : SlotIx → Prop} {v : State} {parts : List Part}
    (h : s.Failed w reason freed t) (frame : SameExcept parts t v) (kept : ∀ f ∈ [Part.copy, .jobs, .causes, .windows, .fabric], f ∉ parts) :
    s.Failed w reason freed v := by
  have copy : v.copy = t.copy := frame .copy (kept _ (by simp))
  have windows : v.windows = t.windows := frame .windows (kept _ (by simp))
  refine ⟨by rw [windows]; exact h.leg, by rw [copy]; exact h.engine, by rw [copy]; exact h.slots,
    (frame .fabric (kept _ (by simp))).trans h.fabric, h.drained.of_frame frame fun f mem => kept f ?_⟩
  simp only [List.mem_cons, List.not_mem_nil, or_false] at mem ⊢
  tauto

/-- The drain's end, or its wait (R159). -/
theorem drainEnd_leaves (s : State) (draining : s.copy.state = .draining) : s.Drained s.copy.reason s.drainEnd
    ∧ s.drainEnd.copy = { s.copy with state := s.drainEnd.copy.state, window := s.drainEnd.copy.window } := by
  by_cases free : ∀ j : SlotIx, (s.copy.slots[j]).state = .free
  · obtain ⟨-, copy, jobs⟩ := drainEnd_over s draining free
    obtain ⟨idle, window, -, -, told⟩ := (drainEnd_over s draining free).1
    refine ⟨⟨fun _ => ⟨idle, window, jobs, told⟩, fun busy => ?_⟩, by rw [copy]⟩
    rw [copy] at busy
    obtain ⟨j, busy⟩ := busy
    exact absurd (free j) busy
  · rw [drainEnd_waits s (not_forall.mp free)]
    exact ⟨⟨fun all => absurd all free, fun _ => ⟨draining, rfl, rfl, rfl⟩⟩, rfl⟩

/-- A report while DRAINING frees its slot (R159). -/
theorem freeDrain_leaves (s : State) (k : SlotIx) (draining : s.copy.state = .draining) :
    (s.freeSlot k).drainEnd.copy = { s.copy with
        state := (s.freeSlot k).drainEnd.copy.state, window := (s.freeSlot k).drainEnd.copy.window
        slots := mapAt s.copy.slots k fun _ => .freed }
      ∧ s.Drained s.copy.reason (s.freeSlot k).drainEnd ∧ SameExcept [.copy, .jobs, .causes] s (s.freeSlot k).drainEnd := by
  obtain ⟨drained, copy⟩ := drainEnd_leaves (s.freeSlot k) draining
  exact ⟨copy, ⟨drained.over_, drained.waits⟩, ((freeSlot_frame s k).mono (by simp)).trans ((drainEnd_frame _).mono (by decide))⟩

end drains

section fails
variable (s : State) {w : WindowIx} (copying : s.copy.state = .copying) (window : s.copy.window = some w)
include copying window

/-- A failed rebuild keeps the slots whose request is out (R157). -/
theorem failRebuild_failed (reason : FailReason) : s.Failed w reason (fun j => (s.copy.slots[j]).sent = false) (s.failRebuild reason) := by
  rw [failRebuild_eq s copying window reason]
  obtain ⟨drained, engine⟩ := drainEnd_leaves (s.failing w reason) rfl
  have kept := drainEnd_frame (s.failing w reason)
  have windows : (s.failing w reason).drainEnd.windows = (s.failing w reason).windows := drainEnd_windows _
  have fabric : (s.failing w reason).drainEnd.fabric = (s.failing w reason).fabric := kept .fabric (by simp)
  have leg : (s.failing w reason).windows[w] = (s.windows[w]).modLeg s.copy.rebuilding fun l => { l with state := .lost } :=
    modWindow_get { s with copy := _ } w _
  have slot (j : SlotIx) : (s.failing w reason).copy.slots[j] = if (s.copy.slots[j]).sent then s.copy.slots[j] else .freed :=
    Vector.getElem_map _ _
  refine ⟨?_, by rw [engine]; rfl, fun j => ?_, ?_, ?_⟩
  · rw [windows, leg, Window.modLeg_leg]
  · rw [engine]
    dsimp only
    rw [slot]
    exact ⟨fun out => by rw [out]; rfl, fun sent => if_pos (Bool.not_eq_false _ |>.mp sent)⟩
  · rw [fabric]
    refine List.filter_congr fun q _ => ?_
    cases q.job <;> rfl
  · refine ⟨drained.over_, fun busy => ?_⟩
    obtain ⟨state, same, jobs, causes⟩ := drained.waits busy
    exact ⟨state, same, jobs, causes⟩

/-- So does one that fails at a slot's report, which frees the slot as well. -/
theorem freeFail_failed (k : SlotIx) (reason : FailReason) :
    s.Failed w reason (fun j => j = k ∨ (s.copy.slots[j]).sent = false) ((s.freeSlot k).failRebuild reason) := by
  obtain ⟨leg, engine, slots, fabric, drained⟩ := failRebuild_failed (s.freeSlot k) copying window reason
  refine ⟨leg, engine, fun j => ?_, fabric, drained.over_, drained.waits⟩
  by_cases here : j = k
  · subst here
    have free : (s.freeSlot j).copy.slots[j] = .freed := mapAt_get_self _ j _
    exact ⟨fun _ => (slots j).1 (by rw [free]; rfl), fun out => absurd (.inl rfl) out⟩
  · have same : (s.freeSlot k).copy.slots[j] = s.copy.slots[j] := mapAt_get_ne _ k j _ (Ne.symm here)
    obtain ⟨unsent, sent⟩ := slots j
    rw [same] at unsent sent
    exact ⟨fun out => unsent (out.resolve_left here), fun out => sent fun k' => out (.inr k')⟩

end fails

/-! ### Redos, copy reads and the writes seen (R151, R154, R155) -/

/-- Slot `k` is redone between `s` and `t`. -/
def State.Redone (s : State) (k : SlotIx) (t : State) : Prop := t.copy = { s.copy with
  redoTotal := satInc (2 ^ 32 - 1) s.copy.redoTotal
  slots := mapAt s.copy.slots k fun x => { x with
    state := .reading, sent := false, redo := false, data := none, redoCount := min 4 (x.redoCount + 1)
    pinned := x.pinned || decide (4 ≤ x.redoCount + 1) } }

section redos
variable (s : State) (k : SlotIx)

theorem redo_leaves : s.Redone k (s.redo k) ∧ (s.redo k).fabric = s.fabric ++ [copyReadOf k (s.copy.slots[k]).line]
    ∧ SameExcept [.copy, .fabric] s (s.redo k) := by
  have count (n : Nat) : min 4 (n + 1) = satInc 4 n := by
    unfold satInc
    split <;> omega
  refine ⟨?_, rfl, redo_frame s k⟩
  rw [State.Redone]
  simp only [count]
  rfl

theorem copyReadDone_leaves (d : LineData) : (s.copyReadDone k d).copy = { s.copy with
      slots := mapAt s.copy.slots k fun x => { x with state := .writing, sent := false, data := some d } }
    ∧ (s.copyReadDone k d).fabric = s.fabric ++ [⟨.copySlot k, BitVec.ofNat 46 (s.copy.slots[k]).line, .wr d⟩]
    ∧ SameExcept [.copy, .fabric] s (s.copyReadDone k d) :=
  ⟨rfl, rfl, fun x h => by cases x <;> first | rfl | exact absurd (by simp) h⟩

variable (w : WindowIx) (line : Nat)

theorem engineSeesWrite_none (quiet : s.copy.state ≠ .copying ∨ s.copy.window ≠ some w ∨ s.copy.slotHolding line = none) :
    s.engineSeesWrite w line = s := by
  unfold State.engineSeesWrite
  split
  · rename_i here
    rw [(quiet.resolve_left (not_not.mpr here.1)).resolve_left (not_not.mpr here.2)]
  · rfl

variable {w line} (copying : s.copy.state = .copying) (window : s.copy.window = some w) {k} (held : s.copy.slotHolding line = some k)
include copying window held

theorem engineSeesWrite_reading (reading : (s.copy.slots[k]).state = .reading) : s.engineSeesWrite w line =
    if (s.copy.slots[k]).sent then s.modSlot k fun slot => { slot with redo := true } else s := by
  unfold State.engineSeesWrite
  rw [if_pos ⟨copying, window⟩, held]
  dsimp only
  rw [reading]
  cases (s.copy.slots[k]).sent <;> rfl

theorem engineSeesWrite_writing (writing : (s.copy.slots[k]).state = .writing) : s.engineSeesWrite w line =
    if (s.copy.slots[k]).sent then s else (s.withdraw k).redo k := by
  unfold State.engineSeesWrite
  rw [if_pos ⟨copying, window⟩, held]
  dsimp only
  rw [writing]
  cases (s.copy.slots[k]).sent <;> rfl

end redos

/-! ### ABORT_REBUILD (R158) -/

section abort
variable {s : State}

theorem abortRebuild_copying (copying : s.copy.state = .copying) : s.abortRebuild = (s.failRebuild .aborted).okay := by
  unfold State.abortRebuild
  rw [copying]

theorem abortRebuild_draining (draining : s.copy.state = .draining) : s.abortRebuild = s.okay := by
  unfold State.abortRebuild
  rw [draining]

theorem abortRebuild_idle (idle : s.copy.state = .idle) : s.abortRebuild = s.refuse .state := by
  unfold State.abortRebuild
  rw [idle]

end abort

end Sys2Proof.Machine

/-! PROOF. The reports of copy slots' requests, and the settlement of O55 (sections 4.7 and 9.2 to 9.4). -/

namespace Sys2Proof.Machine

/-! ### An engine that drains (R157, R159) -/

/-- Since `s` the engine drains for `reason`, or the drain is over. -/
structure State.Sunk (s : State) (reason : FailReason) (t : State) : Prop where
  reason_ : t.copy.reason = reason
  state : (t.copy.state = .draining ∧ t.copy.window = s.copy.window ∧ t.jobs.rebuild = s.jobs.rebuild)
    ∨ (t.copy.state = .idle ∧ t.copy.window = none ∧ (∀ j : SlotIx, (t.copy.slots[j]).state = .free)
      ∧ t.jobs.rebuild = ⟨.failed, reasonCode reason⟩ ∧ t.rebuildTold)

/-- Slot `k` has reported to an engine that drains. -/
structure State.SlotDrained (s : State) (k : SlotIx) (reason : FailReason) (t : State) : Prop where
  reason_ : t.copy.reason = reason
  slot : (t.copy.slots[k]).state = .free
  over_ : (∀ j : SlotIx, (t.copy.slots[j]).state = .free) → t.copy.state = .idle ∧ t.copy.window = none
    ∧ t.jobs.rebuild = ⟨.failed, reasonCode reason⟩ ∧ t.rebuildTold
  waits : (¬ ∀ j : SlotIx, (t.copy.slots[j]).state = .free) → t.copy.state = .draining ∧ t.copy.window = s.copy.window
    ∧ t.jobs.rebuild = s.jobs.rebuild

section sunk
variable {s t u : State} {reason : FailReason}

theorem State.Sunk.falls (h : s.Sunk reason t) (k : EngineFalls t u) : s.Sunk reason u := by
  obtain ⟨why, ⟨state, window, job⟩ | ⟨idle, none_, free, job, told⟩⟩ := h
  · obtain ⟨why', ⟨state', window', job'⟩ | ended⟩ := k.draining state
    · exact ⟨why'.trans why, .inl ⟨state', window'.trans window, job'.trans job⟩⟩
    · exact ⟨why'.trans why, .inr ⟨ended.idle, ended.window, ended.slots, by rw [ended.job, why], ended.told⟩⟩
  · obtain ⟨copy, job'⟩ := k.idle idle
    exact ⟨by rw [copy]; exact why, .inr ⟨by rw [copy]; exact idle, by rw [copy]; exact none_, by rw [copy]; exact free, job'.trans job, k.told told⟩⟩

theorem State.Sunk.of_same (h : s.Sunk reason t) (copy : u.copy = t.copy) (jobs : u.jobs = t.jobs)
    (cause : u.causes.entries[causeIx .jobDone] = t.causes.entries[causeIx .jobDone]) : s.Sunk reason u := by
  obtain ⟨why, state⟩ := h
  refine ⟨by rw [copy]; exact why, ?_⟩
  rw [copy, jobs, State.rebuildTold, cause]
  exact state

/-- Only the engine and the REBUILD job of the start matter. -/
theorem State.Sunk.from_same (h : t.Sunk reason u) (copy : t.copy = s.copy) (jobs : t.jobs = s.jobs) : s.Sunk reason u := by
  refine ⟨h.reason_, ?_⟩
  rw [← copy, ← jobs]
  exact h.state

/-- The report of a slot to an engine that drains. -/
theorem State.Sunk.reported (h : s.Sunk reason t) (k : SlotIx) (st : Status) (d : Option LineData) :
    s.SlotDrained k reason (t.copyReport k st d) := by
  obtain ⟨why, ⟨state, window, job⟩ | ⟨idle, none_, free, job, told⟩⟩ := h
  · rw [copyReport_draining state]
    obtain ⟨copy, drained, -⟩ := freeDrain_leaves t k state
    refine ⟨by rw [copy]; exact why, ?_, fun all => ?_, fun busy => ?_⟩
    · rw [copy]
      exact congrArg CopySlot.state (mapAt_get_self _ k _)
    · obtain ⟨idle, none_, jobs, told⟩ := drained.over_ all
      exact ⟨idle, none_, by rw [jobs, why], told⟩
    · obtain ⟨state', window', jobs, -⟩ := drained.waits (not_forall.mp busy)
      exact ⟨state', window'.trans window, by rw [jobs, job]⟩
  · rw [copyReport_idle idle]
    exact ⟨why, free k, fun _ => ⟨idle, none_, job, told⟩, fun busy => absurd free busy⟩

theorem State.SlotDrained.of_same {k : SlotIx} (h : s.SlotDrained k reason t) (copy : u.copy = t.copy) (jobs : u.jobs = t.jobs)
    (causes : u.causes = t.causes) : s.SlotDrained k reason u := by
  obtain ⟨why, slot, ended, waits⟩ := h
  refine ⟨by rw [copy]; exact why, by rw [copy]; exact slot, ?_, ?_⟩
  · rw [copy, jobs, State.rebuildTold, causes]
    exact ended
  · rw [copy, jobs]
    exact waits

end sunk

/-! ### The loss of a copy write's leg (R157) -/

section loss
variable (u : State) (w : WindowIx) (x : Side)

theorem lossTold_jobs (hit : Side → Bool) : (u.lossTold w hit).jobs = u.jobs
    ∧ (u.lossTold w hit).causes.entries[causeIx .jobDone] = u.causes.entries[causeIx .jobDone] := by
  unfold State.lossTold
  split
  · exact ⟨rfl, raise_other (u.marked w hit) _ _ (show causeIx .jobDone ≠ causeIx .windowUnavailable by decide)⟩
  · exact ⟨rfl, raise_other (u.marked w hit) _ _ (show causeIx .jobDone ≠ causeIx .legLost by decide)⟩

/-- An engine that is not COPYING sees nothing of a loss. -/
theorem loseLegs_down (hit : Side → Bool) (down : u.copy.state ≠ .copying) : (u.loseLegs w hit).copy = u.copy ∧ (u.loseLegs w hit).jobs = u.jobs
    ∧ (u.loseLegs w hit).causes.entries[causeIx .jobDone] = u.causes.entries[causeIx .jobDone] := by
  by_cases some_ : bothSides.any (u.losing w hit) = true
  · rw [loseLegs_some u w hit some_, State.survivorLost, underRebuild_down u down w, Bool.false_and, Bool.false_and]
    exact ⟨lossTold_copy u w hit, lossTold_jobs u w hit⟩
  · rw [loseLegs_none u w hit (Bool.eq_false_iff.mpr some_)]
    exact ⟨rfl, rfl, rfl⟩

variable {u w x}

/-- A DRAINING engine drains on through a loss. -/
theorem singleLegLoss_draining {s : State} {reason : FailReason} (h : s.Sunk reason u) (draining : u.copy.state = .draining) :
    s.Sunk reason (u.singleLegLoss w x) := by
  obtain ⟨copy, jobs, cause⟩ := loseLegs_down u w (onlySide x) (by rw [draining]; decide)
  rw [singleLegLoss_eq]
  exact (h.of_same copy jobs cause).falls (cancelLostWaiting_falls _)

/-- The loss of the rebuilding leg fails its rebuild. -/
theorem singleLegLoss_rebuilding (copying : u.copy.state = .copying) (window : u.copy.window = some w) (rebuilding : u.copy.rebuilding = x)
    (leg : ((u.windows[w]).leg x).state = .rebuilding) : u.Sunk .rebuildLegLost (u.singleLegLoss w x) := by
  have under : u.underRebuild w = true := (underRebuild_iff u w).mpr ⟨copying, window⟩
  have own : u.losing w (onlySide x) x = true := by
    rw [State.losing, onlySide, beq_self_eq_true, leg]
    rfl
  have spared : u.losing w (onlySide x) (otherSide x) = false := by
    rw [State.losing, onlySide, beq_eq_false_iff_ne.mpr (otherSide_ne x), Bool.false_and]
  have fails : u.loseLegs w (onlySide x) = (u.lossTold w (onlySide x)).failRebuild .rebuildLegLost := by
    rw [loseLegs_some u w (onlySide x) (List.any_eq_true.mpr ⟨x, mem_bothSides x, own⟩), State.survivorLost, rebuilding, spared, under, own,
      Bool.and_false]
    rfl
  have copy := lossTold_copy u w (onlySide x)
  obtain ⟨jobs, -⟩ := lossTold_jobs u w (onlySide x)
  have failed := failRebuild_failed (u.lossTold w (onlySide x)) (by rw [copy]; exact copying) (by rw [copy]; exact window) .rebuildLegLost
  rw [singleLegLoss_eq, fails]
  refine State.Sunk.falls ⟨by rw [failed.engine], ?_⟩ (cancelLostWaiting_falls _)
  by_cases free : ∀ j : SlotIx, (((u.lossTold w (onlySide x)).failRebuild .rebuildLegLost).copy.slots[j]).state = .free
  · obtain ⟨idle, none_, job, told⟩ := failed.drained.over_ free
    exact .inr ⟨idle, none_, free, by rw [job], told⟩
  · obtain ⟨state, same, job, -⟩ := failed.drained.waits (not_forall.mp free)
    exact .inl ⟨state, by rw [same, copy], by rw [job, jobs]⟩

end loss

/-! ### The reports of copy slots -/

/-- What a copy slot does of a report other than GOOD does not depend on its status. -/
theorem copyReport_bad (s : State) (k : SlotIx) {st st' : Status} (bad : st ≠ .good) (bad' : st' ≠ .good) (d d' : Option LineData) :
    s.copyReport k st d = s.copyReport k st' d' := by
  cases state : s.copy.state with
  | idle => rw [copyReport_idle state, copyReport_idle state]
  | draining => rw [copyReport_draining state, copyReport_draining state]
  | copying =>
    cases slot : (s.copy.slots[k]).state with
    | free => rw [copyReport_free state slot, copyReport_free state slot]
    | reading => rw [copyReport_readBad state slot (.inl bad), copyReport_readBad state slot (.inl bad')]
    | writing => rw [copyReport_writeBad state slot bad, copyReport_writeBad state slot bad']

section settles
variable {s a : State} {c : Instr} {i : OttIx} {x : Side} {way : SettleWay} {k : SlotIx}

/-- So the report of a copy slot's entry may name any status other than GOOD. -/
theorem FabricReported.other_status {t : State} {st st' : Status} {d : Option LineData} (h : s.FabricReported i x st d t)
    (origin : (s.ott.entries[i]).origin = .fabric (.copySlot k)) (bad : st ≠ .good) (bad' : st' ≠ .good) : s.FabricReported i x st' none t := by
  intro job named
  cases origin.symm.trans named
  have told := h (.copySlot k) origin
  have same : s.report (.copySlot k) st d = s.report (.copySlot k) st' none := copyReport_bad s k bad bad' d none
  have flag : (st == Status.good) = (st' == .good) := by rw [beq_eq_false_iff_ne.mpr bad, beq_eq_false_iff_ne.mpr bad']
  simp only [same, flag] at told
  exact told

/-- A command that settles a leg of a read settles that leg alone. -/
theorem settledBy_read (h : s.running) (hs : s.SettledBy c i x way) (read : (s.ott.entries[i]).body = .rd) :
    ∃ a t, exec c s = .next t ∧ SettleFrom s i a ∧ SameExcept [.sweep] (a.settle i x way) t := by
  refine settledBy_single h hs fun gone p port => ?_
  rcases hs with ⟨_, _, _, _, _, _, _, _, _, _, _, way_⟩ | ⟨_, _, _, _, _, _, _, _, _, way_⟩ | ⟨_, way_, _⟩ | ⟨_, _, _, p', port', _, other⟩
  · rw [gone] at way_; cases way_
  · rw [gone] at way_; cases way_
  · rw [gone] at way_; cases way_
  · cases port.symm.trans port'
    exact other read

/-- A GOOD copy read reports its data. -/
theorem settle_copyRead_good (from_ : SettleFrom s i a) (read : (s.ott.entries[i]).body = .rd) (live : (s.ott.entries[i]).state = .live)
    (d : LineData) : s.FabricReported i x .good (some d) (a.settle i x (.response .good (some d))) := by
  have b := from_.settledAround (x := x) (.response .good (some d))
  have congested := (congestedGood_settled a i x (.response .good (some d)) rfl).trans (from_.congested x)
  rw [settle_read_good x (by rw [from_.around.body]; exact read)]
  generalize a.settled i x (.response .good (some d)) = u at b congested
  have here : (u.modEntry i fun e => { e with readData := some d }).ott.entries[i] = { u.ott.entries[i] with readData := some d } := modEntry_get u i _
  refine (b.trans (.readData u i (some d))).fabricReported x live ?_ fun _ => ?_
  · rw [isRead_iff.mpr read, here]
    rfl
  · rw [here]
    exact congested

/-- A copy read that is sent again reports nothing (R72). -/
theorem settle_copyRead_again (from_ : SettleFrom s i a) (read : (s.ott.entries[i]).body = .rd) (bad : way.progress ≠ .doneGood)
    (again : s.reissues i x) : ((a.settle i x way).ott.entries[i]).state = .live ∧ ((a.settle i x way).ott.entries[i]).reissued = true
      ∧ (((a.settle i x way).ott.entries[i]).leg (otherSide x)).progress = .waiting
      ∧ (a.settle i x way).copy = s.copy ∧ (a.settle i x way).fabric = s.fabric := by
  have b := from_.settledAround (x := x) way
  rw [settle_read_failed (s := a) (i := i) x (by rw [from_.around.body]; exact read) bad]
  generalize a.settled i x way = u at b
  rw [readLegFailed_again x ((b.mayReissue x).mpr again)]
  obtain ⟨state, reissued, -, other⟩ := decideReissue_entry b x
  have kept := decideReissue_frame u i x
  have copy : u.copy = s.copy := b.frame .copy (by simp)
  have fabric : u.fabric = s.fabric := b.frame .fabric (by simp)
  refine ⟨state.trans again.1, reissued, ?_, (kept .copy (by simp)).trans copy, (kept .fabric (by simp)).trans fabric⟩
  rw [other]
  rfl

/-- A copy read that ends without data reports so. -/
theorem settle_copyRead_ends (from_ : SettleFrom s i a) (read : (s.ott.entries[i]).body = .rd) (live : (s.ott.entries[i]).state = .live)
    (bad : way.progress ≠ .doneGood) (last : ¬ s.reissues i x) :
    ∃ st, st ≠ .good ∧ s.FabricReported i x st none (a.settle i x way) := by
  have b := from_.settledAround (x := x) way
  rw [settle_read_failed (s := a) (i := i) x (by rw [from_.around.body]; exact read) bad]
  generalize a.settled i x way = u at b
  rw [readLegFailed_ends x fun k => last ((b.mayReissue x).mp k)]
  have worse : (u.ott.entries[i]).readFailure x ≠ .good := readFailure_ne _ _
  refine ⟨_, worse, b.fabricReported x live ?_ fun good => absurd good worse⟩
  rw [beq_eq_false_iff_ne.mpr worse, Bool.and_false]
  rfl

/-- An abandoned copy write of one leg reports so. -/
theorem settle_copyWrite_abandoned (from_ : SettleFrom s i a) (write : (s.ott.entries[i]).body ≠ .rd) (live : (s.ott.entries[i]).state = .live)
    (alone : ((s.ott.entries[i]).leg (otherSide x)).progress = .none) :
    ∃ st, st ≠ .good ∧ s.FabricReported i x st none (a.settle i x .abandoned) := by
  have b := from_.settledAround (x := x) .abandoned
  have own := from_.leg (x := x) .abandoned
  have other := from_.otherLeg (x := x) .abandoned
  rw [settle_write (s := a) x (by rw [from_.around.body]; exact write), writeLegSettled_kept x LegProgress.noConfusion]
  generalize a.settled i x .abandoned = u at b own other
  have none_ : ¬ (u.ott.entries[i]).anySent = true := by
    rw [anySent_iff x, own, other, alone]
    exact fun k => k.elim LegProgress.noConfusion LegProgress.noConfusion
  have worse : (u.ott.entries[i]).writeStatus (fun p => u.links[p].mode == .trunk) ≠ .good := by
    refine writeStatus_bad x _ ?_
    rw [own, other, alone]
    exact fun k => k.elim LegProgress.noConfusion LegProgress.noConfusion
  rw [if_neg none_, State.finishWrite]
  refine ⟨_, worse, b.fabricReported x live ?_ fun good => absurd good worse⟩
  rw [beq_eq_false_iff_ne.mpr worse, Bool.and_false]
  rfl

end settles

end Sys2Proof.Machine

/-! PROOF. A copy write whose leg fails, and the settlement of O55 (Chapter 9). -/

namespace Sys2Proof.Machine

section failed
variable {s a : State} {i : OttIx} {x : Side} {way : SettleWay} {k : SlotIx} (from_ : SettleFrom s i a) (write : (s.ott.entries[i]).body ≠ .rd)
  (failed : way.progress = .doneFailed) (live : (s.ott.entries[i]).state = .live) (origin : (s.ott.entries[i]).origin = .fabric (.copySlot k))
  (alone : ((s.ott.entries[i]).leg (otherSide x)).progress = .none)
include from_ write failed live origin alone

/-- After its leg's loss the copy write ends and its slot reports (R75, R81). -/
theorem settle_copyWrite_eq : ∃ st d, st ≠ .good
    ∧ SameExcept [.windows, .ott, .stages] (((a.settled i x way).singleLegLoss (s.ott.entries[i]).window x).copyReport k st d) (a.settle i x way)
    ∧ EngineFalls ((a.settled i x way).singleLegLoss (s.ott.entries[i]).window x) (a.settle i x way)
    ∧ (a.settle i x way).ott.entries[i] = .freed (s.ott.entries[i]).gen := by
  have b := from_.settledAround (x := x) way
  have own := from_.leg (x := x) way
  have other := from_.otherLeg (x := x) way
  rw [settle_writeFailed_eq (x := x) from_ write failed]
  generalize a.settled i x way = u at b own other
  have calm : ((s.ott.entries[i]).leg (otherSide x)).progress ≠ .waiting := by rw [alone]; exact LegProgress.noConfusion
  have own_ : ((u.ott.entries[i]).leg x).progress = .doneFailed := by rw [own]; exact failed
  have entry := loss_entry (w := (s.ott.entries[i]).window) own_ other calm
  generalize u.singleLegLoss (s.ott.entries[i]).window x = v at entry
  have own' : ((v.ott.entries[i]).leg x).progress = .doneFailed := by rw [entry]; exact own_
  have other' : ((v.ott.entries[i]).leg (otherSide x)).progress = .none := by rw [entry, other]; exact alone
  have live' : (v.ott.entries[i]).state = .live := by rw [entry]; exact b.state_.trans live
  have origin' : (v.ott.entries[i]).origin = .fabric (.copySlot k) := by rw [entry]; exact b.origin.trans origin
  have last : ¬ (v.ott.entries[i]).anySent = true := by
    rw [anySent_iff x, own', other']
    exact fun k => k.elim LegProgress.noConfusion LegProgress.noConfusion
  have worse : (v.ott.entries[i]).writeStatus (fun p => v.links[p].mode == .trunk) ≠ .good := by
    refine writeStatus_bad x _ ?_
    rw [own', other']
    exact fun k => k.elim LegProgress.noConfusion LegProgress.noConfusion
  rw [writeEnds_finishes last]
  refine ⟨_, if isRead (v.ott.entries[i]).body && (v.ott.entries[i]).writeStatus (fun p => v.links[p].mode == .trunk) == .good
    then (v.ott.entries[i]).readData else none, worse, ?_, finish_falls v i worse, ?_⟩
  · rw [finish_fabric live' origin', if_neg worse]
    exact freeEntry_frame _ i
  · rw [finish_get v i (by rw [live']; decide), entry, b.gen]

/-- What a copy write whose leg failed leaves (R157, R159). -/
theorem settle_copyWrite_failed : (a.settle i x way).ott.entries[i] = .freed (s.ott.entries[i]).gen
    ∧ (s.copy.state = .draining → s.SlotDrained k s.copy.reason (a.settle i x way))
    ∧ (s.copy.state = .copying → s.copy.window = some (s.ott.entries[i]).window → s.copy.rebuilding = x →
      ((s.windows[(s.ott.entries[i]).window]).leg x).state = .rebuilding →
      (((a.settle i x way).windows[(s.ott.entries[i]).window]).leg x).state = .lost ∧ s.SlotDrained k .rebuildLegLost (a.settle i x way)) := by
  obtain ⟨st, d, -, told, falls, freed⟩ := settle_copyWrite_eq (x := x) from_ write failed live origin alone
  have b := from_.settledAround (x := x) way
  generalize a.settled i x way = u at b told falls
  generalize a.settle i x way = t at told falls freed
  have copy : u.copy = s.copy := b.frame .copy (by simp)
  have jobs : u.jobs = s.jobs := b.frame .jobs (by simp)
  have reported {reason : FailReason} (h : s.Sunk reason (u.singleLegLoss (s.ott.entries[i]).window x)) : s.SlotDrained k reason t :=
    (h.reported k st d).of_same (told .copy (by simp)) (told .jobs (by simp)) (told .causes (by simp))
  refine ⟨freed, fun draining => ?_, fun copying window rebuilding leg => ?_⟩
  · have draining' : u.copy.state = .draining := by rw [copy]; exact draining
    exact reported (singleLegLoss_draining ⟨by rw [copy], .inl ⟨draining', by rw [copy], by rw [jobs]⟩⟩ draining')
  · have leg' : ((u.windows[(s.ott.entries[i]).window]).leg x).state = .rebuilding := by rw [b.windows]; exact leg
    have lost := singleLegLoss_one u (s.ott.entries[i]).window x (by rw [leg']; rfl)
    have sunk := singleLegLoss_rebuilding (by rw [copy]; exact copying) (by rw [copy]; exact window) (by rw [copy]; exact rebuilding) leg'
    obtain ⟨-, legs⟩ := falls.off _ lost.off
    refine ⟨by rw [legs]; exact lost.lost, reported (sunk.from_same copy jobs)⟩

end failed

/-- Whatever settles a leg is taken. -/
theorem settledBy_next {s : State} {c : Instr} {i : OttIx} {x : Side} {way : SettleWay} (h : s.running) (hs : s.SettledBy c i x way) :
    ∃ t, exec c s = .next t := by
  rcases hs with ⟨p, req, tag, st, d, rfl, formed, up, hit, -⟩ | ⟨p, req, tag, st, rfl, up, hit, -⟩ | ⟨rfl, -, sent, late⟩ | ⟨rfl, -, -, p, port, -⟩
  · exact ⟨_, exec_rdata h up formed hit⟩
  · exact ⟨_, exec_wack h up hit⟩
  · exact ⟨_, exec_timeout h sent late⟩
  · exact ⟨_, exec_sweepVisit h port⟩

/-! ### O55 -/

/-- Settles O55: a rebuild starts, copies, sees writes, completes, fails, drains and is aborted, and its entries report to its slots. -/
theorem rebuildStartsAndAborts : Obligations.RebuildStartsAndAborts := by
  intro s w win c copyRead jobDone redone drained failed
  have ends {reason : FailReason} {t : State} (h : s.Drained reason t) : drained reason t := ⟨h.over_, h.waits⟩
  have fails {reason : FailReason} {freed : SlotIx → Prop} {t : State} (h : s.Failed w reason freed t) : failed reason freed t :=
    ⟨h.leg, h.engine, h.slots, h.fabric.trans (List.filter_congr fun q _ => by cases q.job <;> rfl), ends h.drained⟩
  refine ⟨fun side may free enabled lost served carries up swept long => ?start, fun may copying window => ?abort, fun may draining => ?draining,
    fun may idle => ?idle, fun k d copying reading => ?read, fun k st d copying window bad => ?bad, fun k st d draining => ?drain,
    fun k d copying window writing => ?written, fun line => ?sees, fun i n x way k h hs => ?settles⟩
  case start =>
    intro first
    obtain ⟨state, window, rebuilding, firstLine, endLine, cursor, frontier, slots, fabric, leg, other, frame⟩ :=
      beginRebuild_leaves (s.startJob .rebuild) w side long
    have rule : s.startRebuild w.1 = _ := startRebuild_okay free enabled lost served carries up swept
    have job : SameExcept [.jobs] s (s.startJob .rebuild) := fun x h => by cases x <;> first | rfl | exact absurd (by simp) h
    have whole : SameExcept [.jobs, .copy, .windows, .fabric] s ((s.startJob .rebuild).beginRebuild w side) :=
      (job.mono (by simp)).trans (frame.mono (by simp))
    have jobs : ((s.startJob .rebuild).beginRebuild w side).jobs = (s.startJob .rebuild).jobs := frame .jobs (by simp)
    obtain ⟨t, row, answer, kept, -⟩ := command_okay (cmd := fun s => s.startRebuild w.1) may rule whole (by simp)
    have copy : t.copy = _ := kept .copy (by simp)
    have windows : t.windows = _ := kept .windows (by simp)
    have jobs' : t.jobs = (s.startJob .rebuild).jobs := (kept .jobs (by simp)).trans jobs
    refine ⟨t, row, answer, ?_⟩
    rw [copy, windows, jobs']
    exact ⟨rfl, leg, other, state, window, rebuilding, firstLine, endLine, cursor, frontier, slots,
      (kept .fabric (by simp)).trans fabric⟩
  case abort =>
    obtain ⟨t, row, answer, kept, frame⟩ := command_okay (cmd := fun s => s.abortRebuild) may (abortRebuild_copying copying)
      (failRebuild_frame s .aborted) (by decide)
    exact ⟨t, row, answer, fails ((failRebuild_failed s copying window .aborted).of_frame kept (by simp)), frame⟩
  case draining =>
    obtain ⟨t, row, answer, kept, -⟩ := command_okay (cmd := fun s => s.abortRebuild) may (abortRebuild_draining draining)
      (SameExcept.rfl_ (parts := [])) (by simp)
    exact ⟨t, row, answer, kept⟩
  case idle => exact command_refused (cmd := fun s => s.abortRebuild) may (abortRebuild_idle idle)
  case read =>
    intro t
    have row : t = _ := copyReport_readGood copying reading d
    refine ⟨fun clear => ?_, fun set_ => ?_⟩
    · rw [if_neg (by rw [clear]; decide)] at row
      rw [row]
      exact copyReadDone_leaves s k d
    · rw [if_pos set_] at row
      rw [row]
      exact redo_leaves s k
  case bad =>
    intro t freed
    have frame : SameExcept [.copy, .windows, .fabric, .jobs, .causes] s t := copyReport_frame s k st d
    refine ⟨fun reading => ⟨fails ?_, frame⟩, fun writing => ⟨fails ?_, frame⟩⟩
    · rw [show t = _ from copyReport_readBad copying reading (.inl bad)]
      exact freeFail_failed s copying window k _
    · rw [show t = _ from copyReport_writeBad copying writing bad d]
      exact freeFail_failed s copying window k _
  case drain =>
    intro t
    obtain ⟨copy, drained_, frame⟩ := freeDrain_leaves s k draining
    have row : t = _ := copyReport_draining draining st d
    rw [row]
    exact ⟨copy, ends drained_, frame⟩
  case written =>
    intro t held vacant n
    obtain ⟨engine, taken, others, fabric, more, ended⟩ := copyWriteDone_leaves s k copying window
    have free := copied_vacant s k
    have slot (j : SlotIx) : (s.copied k).copy.slots[j] = if j = k then .freed else c.slots[j] := by
      by_cases here : j = k
      · rw [if_pos here, here, copied_slot]
      · rw [if_neg here, copied_otherSlot s k here]
    have cursor := copied_cursor s k
    have row : t = s.copyWriteDone k := copyReport_writeGood copying writing d
    have moved : t.copy.cursor = (s.copied k).copy.cursor := by rw [row, engine]
    have bound : n = (s.copied k).fillBound := by
      show min vacant.length (min (c.endLine - c.frontier) (t.copy.cursor + 4 - c.frontier)) = _
      rw [moved, State.fillBound, free]
      rfl
    rw [free, ← bound] at taken others fabric
    rw [← bound] at engine
    rw [← row] at engine taken others fabric more ended
    clear_value n t
    refine ⟨by rw [moved]; exact cursor, by rw [engine], taken, fun j out => (others j out).trans (slot j), fabric, fun at_ => more ?_,
      fun at_ => ended ?_, by rw [engine]; rfl, by rw [engine]; rfl, by rw [engine]; rfl⟩
    · rw [← moved]
      exact at_
    · rw [← moved]
      exact at_
  case sees =>
    intro t
    refine ⟨engineSeesWrite_none s w line, fun k copying window held => ?_⟩
    have reads := engineSeesWrite_reading s copying window held
    have writes := engineSeesWrite_writing s copying window held
    refine ⟨fun reading unsent => ?_, fun writing sent => ?_, fun reading sent => ?_, fun writing unsent => ?_⟩
    · exact (reads reading).trans (if_neg (by rw [unsent]; decide))
    · exact (writes writing).trans (if_pos sent)
    · rw [show t = _ from (reads reading).trans (if_pos sent)]
      exact ⟨rfl, modSlot_frame s k _⟩
    · rw [show t = _ from (writes writing).trans (if_neg (by rw [unsent]; decide))]
      obtain ⟨again, fabric, frame⟩ := redo_leaves (s.withdraw k) k
      exact ⟨again, fabric, ((withdraw_frame s k).mono (by simp)).trans frame⟩
  case settles =>
    intro e spare again emptied drains live origin
    by_cases read : e.body = .rd
    · obtain ⟨a, t, row, from_, advanced⟩ := settledBy_read h hs read
      refine ⟨t, row, fun _ => ⟨fun d good => ?_, fun bad again_ => ?_, fun bad last => ?_⟩, fun write => absurd read write⟩
      · subst good
        exact FabricReported.of_frame (settle_copyRead_good from_ read live d) advanced (by decide)
      · obtain ⟨state, reissued, waits, copy, fabric⟩ := settle_copyRead_again from_ read bad ⟨live, again_⟩
        have ott : t.ott = (a.settle n x way).ott := advanced .ott (by simp)
        rw [ott]
        exact ⟨state, reissued, waits, (advanced .copy (by simp)).trans copy, (advanced .fabric (by simp)).trans fabric⟩
      · obtain ⟨st, worse, reported⟩ := settle_copyRead_ends from_ read live bad fun k => last k.2
        exact FabricReported.of_frame (FabricReported.other_status reported origin worse (by decide)) advanced (by decide)
    · by_cases alone : (e.leg (otherSide x)).progress = .none
      · have single := settledBy_single h hs fun _ p _ => sweepable_not (by rw [alone]; exact LegProgress.noConfusion)
        obtain ⟨a, t, row, from_, advanced⟩ := single
        refine ⟨t, row, fun k => absurd k read, fun _ _ => ⟨fun good => ?_, fun gone => ?_, fun failed_ => ?_⟩⟩
        · obtain ⟨t', row', reported⟩ := settledBy_goodWrite h hs read live good (by rw [alone]; exact LegProgress.noConfusion)
          cases row.symm.trans row'
          exact reported
        · subst gone
          obtain ⟨st, worse, reported⟩ := settle_copyWrite_abandoned from_ read live alone
          exact FabricReported.of_frame (FabricReported.other_status reported origin worse (by decide)) advanced (by decide)
        · obtain ⟨entry, draining, rebuilds⟩ := settle_copyWrite_failed from_ read failed_ live origin alone
          have ott : t.ott = (a.settle n x way).ott := advanced .ott (by simp)
          have windows : t.windows = (a.settle n x way).windows := advanced .windows (by simp)
          have same {reason : FailReason} (sunk : s.SlotDrained k reason (a.settle n x way)) := sunk.of_same (u := t) (advanced .copy (by simp))
            (advanced .jobs (by simp)) (advanced .causes (by simp))
          refine ⟨by rw [ott]; exact entry, fun down => ?_, fun copying window rebuilding leg => ?_⟩
          · obtain ⟨reason, slot, ended, waits⟩ := same (draining down)
            exact ⟨reason, slot, ended, waits⟩
          · obtain ⟨lost, sunk⟩ := rebuilds copying window rebuilding leg
            obtain ⟨reason, slot, ended, waits⟩ := same sunk
            exact ⟨by rw [windows]; exact lost, reason, slot, ended, waits⟩
      · obtain ⟨t, row⟩ := settledBy_next h hs
        exact ⟨t, row, fun k => absurd k read, fun _ k => absurd k alone⟩

end Sys2Proof.Machine

/-! PROOF. The consumer watch (section 7.5), and the settlement of O43. -/

namespace Sys2Proof.Machine

/-! ### Values taken (R134) -/

/-- The test of a value against C and P. -/
def Ring.accepts (r : Ring) (v : RingIx) : Prop := (r.prod - v).toNat ≤ r.slots ∧ (v - r.cons).toNat ≤ (r.prod - r.cons).toNat

section takes
variable (s : State)

theorem takeConsumerValue_accepted {v : RingIx} (ok : s.ring.accepts v) : s.takeConsumerValue v = { s with ring := { s.ring with cons := v } } :=
  if_pos ok

theorem takeConsumerValue_rejected {v : RingIx} (bad : ¬ s.ring.accepts v) : s.takeConsumerValue v = s.raise .ringIndexBad 0 := if_neg bad

theorem takeValues_watch (l : List RingIx) (t : State) : (l.foldl (fun s v => s.takeConsumerValue v) t).ring.watch = t.ring.watch := by
  induction l generalizing t with
  | nil => rfl
  | cons v l ih =>
    refine (ih (t.takeConsumerValue v)).trans ?_
    rw [takeConsumerValue_ring t v]

end takes

/-! ### A settlement at the watch (R133) -/

/-- A watch entry of leg `x` of entry `i`. -/
def State.watches (s : State) (i : OttIx) (x : Side) (e : WatchEntry) : Bool :=
  e.entry == i && e.gen == (s.ott.entries[i]).gen && e.side == x

section serves
variable (s : State) (i : OttIx) (x : Side)

/-- The part with the watch entries of a leg removed. -/
def State.unwatched : State := { s with ring := { s.ring with watch := s.ring.watch.filter fun e => !s.watches i x e } }

theorem settleWatch_bad : s.settleWatch i x false = s.unwatched i x := rfl

theorem settleWatch_good : s.settleWatch i x true =
    ((s.ring.watch.filter (s.watches i x)).map (·.value)).foldl (fun s v => s.takeConsumerValue v) (s.unwatched i x) := rfl

/-- The watch entries of a settled leg leave the list. -/
theorem settleWatch_rest (good : Bool) : (s.settleWatch i x good).ring.watch = s.ring.watch.filter fun e => !s.watches i x e := by
  cases good with
  | false => rfl
  | true =>
    rw [settleWatch_good]
    exact takeValues_watch _ _

/-- Without a watch entry of the leg no value is taken. -/
theorem settleWatch_none (good : Bool) (none_ : s.ring.watch.filter (s.watches i x) = []) :
    (s.settleWatch i x good).ring.cons = s.ring.cons := by
  cases good with
  | false => rfl
  | true =>
    rw [settleWatch_good, none_]
    rfl

theorem settleWatch_one {e : WatchEntry} (one : s.ring.watch.filter (s.watches i x) = [e]) :
    s.settleWatch i x true = (s.unwatched i x).takeConsumerValue e.value := by
  rw [settleWatch_good, one]
  rfl

variable (way : SettleWay)

/-- A settlement's ring, and RING_INDEX_BAD, are those the watch leaves. -/
theorem settled_watch : (s.settled i x way).ring = ((s.legCounted i x way).settleWatch i x (way.progress == .doneGood)).ring
    ∧ (s.settled i x way).causes.entries[causeIx .ringIndexBad] =
      ((s.legCounted i x way).settleWatch i x (way.progress == .doneGood)).causes.entries[causeIx .ringIndexBad] := by
  have kept := modOttLeg_frame (s.settleCounts i x way) i x fun l => { l with progress := way.progress, failStatus := way.failStatus }
  have causes : (s.settled i x way).causes = (s.settleCounts i x way).causes := kept .causes (by simp)
  have ring : (s.settled i x way).ring = (s.settleCounts i x way).ring := kept .ring (by simp)
  rw [causes, ring, settleCounts_eq]
  generalize (s.legCounted i x way).settleWatch i x (way.progress == .doneGood) = c
  by_cases late : way = .timeout
  · rw [if_pos late]
    exact ⟨(addHealth_onlyLink c _ 128).1 .ring (by simp), addHealth_cause c _ 128 (by decide)⟩
  · rw [if_neg late]
    exact ⟨rfl, rfl⟩

/-- The watch is served with the entries of the leg before its settlement. -/
theorem legCounted_watches : (s.legCounted i x way).watches i x = s.watches i x := by
  funext e
  have ott := legCounted_ott s i x way
  have gen : ((s.legCounted i x way).ott.entries[i]).gen = (s.ott.entries[i]).gen := by
    rw [ott]
    refine (congrArg OttEntry.gen (mapAt_get_self _ i _)).trans ?_
    rw [OttEntry.modLeg_eq]
    cases x <;> rfl
  rw [State.watches, State.watches, gen]

/-- What a settlement does to the watch list. -/
theorem settled_rest : (s.settled i x way).ring.watch = s.ring.watch.filter fun e => !s.watches i x e := by
  rw [(settled_watch s i x way).1, settleWatch_rest, legCounted_watches, show (s.legCounted i x way).ring = s.ring from
    legCounted_frame s i x way .ring (by simp)]

/-- No value is taken of a leg that settles other than GOOD, or that is not watched. -/
theorem settled_consKept (none_ : way.progress ≠ .doneGood ∨ s.ring.watch.filter (s.watches i x) = []) :
    (s.settled i x way).ring.cons = s.ring.cons := by
  have ring : (s.legCounted i x way).ring = s.ring := legCounted_frame s i x way .ring (by simp)
  rw [(settled_watch s i x way).1]
  rcases none_ with bad | none_
  · rw [beq_eq_false_iff_ne.mpr bad, settleWatch_bad]
    show (s.legCounted i x way).ring.cons = _
    rw [ring]
  · rw [settleWatch_none _ i x _ (by rw [legCounted_watches, ring]; exact none_), ring]

/-- The value of a watched leg that settles GOOD is tested. -/
theorem settled_value (good : way.progress = .doneGood) {e : WatchEntry} (one : s.ring.watch.filter (s.watches i x) = [e]) :
    (s.ring.accepts e.value → (s.settled i x way).ring.cons = e.value)
      ∧ (¬ s.ring.accepts e.value → (s.settled i x way).ring.cons = s.ring.cons
        ∧ ((s.settled i x way).causes.entries[causeIx .ringIndexBad]).pending = true) := by
  obtain ⟨ring_, cause⟩ := settled_watch s i x way
  have ring : (s.legCounted i x way).ring = s.ring := legCounted_frame s i x way .ring (by simp)
  rw [ring_, cause, good, show (LegProgress.doneGood == .doneGood) = true from rfl,
    settleWatch_one _ i x (e := e) (by rw [legCounted_watches, ring]; exact one)]
  have prod : ((s.legCounted i x way).unwatched i x).ring.prod = s.ring.prod := show (s.legCounted i x way).ring.prod = _ by rw [ring]
  have cons : ((s.legCounted i x way).unwatched i x).ring.cons = s.ring.cons := show (s.legCounted i x way).ring.cons = _ by rw [ring]
  have slots : ((s.legCounted i x way).unwatched i x).ring.slots = s.ring.slots := show (s.legCounted i x way).ring.slots = _ by rw [ring]
  have test : ((s.legCounted i x way).unwatched i x).ring.accepts e.value ↔ s.ring.accepts e.value := by
    rw [Ring.accepts, Ring.accepts, prod, cons, slots]
  generalize (s.legCounted i x way).unwatched i x = c at cons test
  refine ⟨fun ok => ?_, fun bad => ?_⟩
  · rw [takeConsumerValue_accepted c (test.mpr ok)]
  · rw [takeConsumerValue_rejected c fun k => bad (test.mp k)]
    exact ⟨cons, raise_pending _ _ _⟩

end serves

/-! ### RING_INDEX_BAD is the watch's alone -/

section cause
variable (s : State)

/-- A completed rebuild, or one that is not, raises no RING_INDEX_BAD. -/
theorem completeRebuild_indexBad : s.completeRebuild.causes.entries[causeIx .ringIndexBad] = s.causes.entries[causeIx .ringIndexBad] := by
  unfold State.completeRebuild
  split
  · split
    · refine (raise_other (State.setJob _ .rebuild _) _ _ (show causeIx .ringIndexBad ≠ causeIx .jobDone by decide)).trans ?_
      exact raise_other (State.setLeg _ _ _ _) _ _ (show causeIx .ringIndexBad ≠ causeIx .rebuildDone by decide)
    · rfl
  · rfl

theorem copyReport_indexBad (k : SlotIx) (st : Status) (d : Option LineData) :
    (s.copyReport k st d).causes.entries[causeIx .ringIndexBad] = s.causes.entries[causeIx .ringIndexBad] := by
  have fails (r : FailReason) : ((s.freeSlot k).failRebuild r).causes.entries[causeIx .ringIndexBad] = s.causes.entries[causeIx .ringIndexBad] :=
    (failRebuild_lossKept (hit := fun _ _ => False) (raised := [.jobDone]) (s.freeSlot k) r (by simp)).cause _ (by decide)
  cases state : s.copy.state with
  | idle => rw [copyReport_idle state]
  | draining =>
    rw [copyReport_draining state, State.drainEnd]
    split
    · exact raise_other (State.setJob _ .rebuild _) _ _ (show causeIx .ringIndexBad ≠ causeIx .jobDone by decide)
    · rfl
  | copying =>
    cases slot : (s.copy.slots[k]).state with
    | free => rw [copyReport_free state slot]
    | reading =>
      by_cases bad : st ≠ .good ∨ d = none
      · rw [copyReport_readBad state slot bad]
        exact fails _
      · obtain ⟨good, some_⟩ := not_or.mp bad
        obtain ⟨d', rfl⟩ := Option.ne_none_iff_exists'.mp some_
        rw [not_not.mp good, copyReport_readGood state slot]
        split <;> rfl
    | writing =>
      by_cases good : st = .good
      · rw [good, copyReport_writeGood state slot, copyWriteDone_eq, completeRebuild_indexBad]
        have causes : (s.copied k).fillSlots.causes = s.causes := fillSlots_frame (s.copied k) .causes (by simp)
        rw [causes]
      · rw [copyReport_writeBad state slot good]
        exact fails _

theorem report_indexBad (job : FabricJob) (st : Status) (d : Option LineData) :
    (s.report job st d).causes.entries[causeIx .ringIndexBad] = s.causes.entries[causeIx .ringIndexBad] := by
  have stalls (which : RingWrite) : (s.stallRing which).causes.entries[causeIx .ringIndexBad] = s.causes.entries[causeIx .ringIndexBad] :=
    raise_other { s with ring := _ } .ringStalled 0 (show causeIx .ringIndexBad ≠ causeIx .ringStalled by decide)
  cases job with
  | ringRecord =>
    show (s.recordReport st).causes.entries[_] = _
    unfold State.recordReport
    split
    · rfl
    · exact stalls _
  | ringIndex =>
    show (s.indexReport st).causes.entries[_] = _
    unfold State.indexReport
    split
    · rfl
    · exact stalls _
  | copySlot k => exact copyReport_indexBad s k st d

/-- A finish raises no RING_INDEX_BAD. -/
theorem finish_indexBad (i : OttIx) (st : Status) : (s.finish i st).causes.entries[causeIx .ringIndexBad] = s.causes.entries[causeIx .ringIndexBad] := by
  have freed (t : State) : (t.freeEntry i).causes = t.causes := freeEntry_frame t i .causes (by simp)
  cases state : (s.ott.entries[i]).state with
  | free => rw [finish_free state]
  | orphan => rw [finish_orphan state, freed]
  | live =>
    cases origin : (s.ott.entries[i]).origin with
    | ingress p r tag =>
      rw [finish_ingress state origin, freed]
      split
      · exact meter_otherCause _ _ _ (by decide) (by decide)
      · rfl
    | fabric job =>
      rw [finish_told state origin, freed, told_cause (by decide) (by decide), report_indexBad]

end cause

/-! ### Watched writes (R133) -/

/-- The four bytes a mask selects at a location (R131). -/
theorem locationMask_covers (j : Nat) (fits : j + 4 ≤ 64) (mask : ByteMask) :
    mask &&& locationMask j = locationMask j ↔ ∀ n : Nat, n < 4 → mask.getLsbD (j + n) = true := by
  have bit (m : Nat) : (locationMask j).getLsbD m = decide (j ≤ m ∧ m < j + 4) := by
    rw [locationMask, BitVec.getLsbD_ofNat, show 15 = 2 ^ 4 - 1 from rfl, Nat.testBit_mul_two_pow, Nat.testBit_two_pow_sub_one,
      Bool.eq_iff_iff]
    simp only [Bool.and_eq_true, decide_eq_true_eq]
    omega
  constructor
  · intro same n small
    have here := congrArg (fun v : ByteMask => v.getLsbD (j + n)) same
    rw [BitVec.getLsbD_and, bit, decide_eq_true (show j ≤ j + n ∧ j + n < j + 4 by omega), Bool.and_true] at here
    exact here
  · intro all
    refine BitVec.eq_of_getLsbD_eq fun m _ => ?_
    rw [BitVec.getLsbD_and, bit]
    by_cases inside : j ≤ m ∧ m < j + 4
    · rw [decide_eq_true inside, Bool.and_true]
      have here := all (m - j) (by omega)
      rwa [Nat.add_sub_cancel' inside.1] at here
    · rw [decide_eq_false inside, Bool.and_false]

section records
variable (s : State)

/-- The places that the watch looks at: the legs IN_SERVICE of the window of tenant 0 that covers the consumer location. -/
theorem mem_watchedPlaces (p : PortIx) (l : LineAddr) : (p, l) ∈ s.watchedPlaces ↔ s.ring.configured = true
    ∧ ∃ (v : WindowIx) (y : Side), s.findWindow 0 (s.ring.consumerLoc.toNat / 64) = some v ∧ ((s.windows[v]).leg y).state = .inService
      ∧ ((s.windows[v]).leg y).port = p ∧ (s.windows[v]).targetLine y (s.ring.consumerLoc.toNat / 64) = l := by
  unfold State.watchedPlaces
  dsimp only
  by_cases on : s.ring.configured = true
  · rw [if_pos on]
    cases found : s.findWindow 0 (lineOf s.ring.consumerLoc.toNat) with
    | none =>
      refine ⟨fun k => (nomatch k), fun ⟨_, v, y, some_, _⟩ => ?_⟩
      cases found.symm.trans some_
    | some v =>
      simp only [List.mem_map, List.mem_filter, beq_iff_eq, Prod.mk.injEq]
      refine ⟨fun ⟨y, ⟨_, served⟩, port, line⟩ => ⟨on, v, y, found, served, port, line⟩, fun ⟨_, v', y, some_, served, port, line⟩ => ?_⟩
      cases found.symm.trans some_
      exact ⟨y, ⟨mem_bothSides y, served⟩, port, line⟩
  · rw [if_neg on]
    exact ⟨fun k => (nomatch k), fun k => absurd k.1 on⟩

variable (i : OttIx) (gen : BitVec 4) (w : WindowIx) (body : ReqBody) (line : LineAddr) (sides : List Side)

/-- The legs a dispatch records, and with which value. -/
theorem mem_watchEntries (e : WatchEntry) : e ∈ s.watchEntries i gen w body line sides ↔ e.entry = i ∧ e.gen = gen ∧ e.side ∈ sides
    ∧ watchedValue (s.ring.consumerLoc.toNat % 64) body = some e.value
    ∧ (((s.windows[w]).leg e.side).port, (s.windows[w]).targetLine e.side line.toNat) ∈ s.watchedPlaces := by
  unfold State.watchEntries
  rw [show lineOffset s.ring.consumerLoc.toNat = s.ring.consumerLoc.toNat % 64 from rfl]
  cases value : watchedValue (s.ring.consumerLoc.toNat % 64) body with
  | none => exact ⟨fun k => (nomatch k), fun k => (nomatch k.2.2.2.1)⟩
  | some v =>
    simp only [List.mem_map, List.mem_filter, List.contains_iff_mem]
    constructor
    · rintro ⟨x, ⟨mem, place⟩, rfl⟩
      exact ⟨rfl, rfl, mem, rfl, place⟩
    · rintro ⟨entry, gen_, mem, carried, place⟩
      refine ⟨e.side, ⟨mem, place⟩, ?_⟩
      rw [← entry, ← gen_, Option.some.inj carried]

theorem watchEntries_sides : ((s.watchEntries i gen w body line sides).map (·.side)).Sublist sides := by
  unfold State.watchEntries
  split
  · exact List.nil_sublist _
  · dsimp only
    rw [List.map_map]
    exact (List.map_id _).symm ▸ List.filter_sublist

end records

end Sys2Proof.Machine

/-! PROOF. The consumer watch at dispatches and settlements, and the settlement of O43 (section 7.5). -/

namespace Sys2Proof.Machine

/-! ### Settlements -/

section settles
variable (s : State) (i : OttIx) (x : Side) (way : SettleWay)

/-- What happens to the transaction after the settlement leaves the watch list and C. -/
theorem settle_ring : (s.settle i x way).ring.watch = (s.settled i x way).ring.watch
    ∧ (s.settle i x way).ring.cons = (s.settled i x way).ring.cons := by
  have ring : (s.settled i x way).ring = (s.settleCounts i x way).ring := modOttLeg_frame _ i x _ .ring (by simp)
  rw [ring]
  exact settle_watch s i x way

theorem settle_rest : (s.settle i x way).ring.watch = s.ring.watch.filter fun e => !s.watches i x e :=
  (settle_ring s i x way).1.trans (settled_rest s i x way)

theorem settle_consKept (none_ : way.progress ≠ .doneGood ∨ s.ring.watch.filter (s.watches i x) = []) :
    (s.settle i x way).ring.cons = s.ring.cons := (settle_ring s i x way).2.trans (settled_consKept s i x way none_)

variable {s i x way}

/-- A write's GOOD leg raises no RING_INDEX_BAD after the watch. -/
theorem settle_writeIndexBad (write : (s.ott.entries[i]).body ≠ .rd) (good : way.progress = .doneGood) :
    (s.settle i x way).causes.entries[causeIx .ringIndexBad] = (s.settled i x way).causes.entries[causeIx .ringIndexBad] := by
  rw [settle_writeGood_eq (x := x) (settleFrom_self s i) write good, State.writeEnds]
  split
  · rfl
  · exact finish_indexBad _ i _

/-- The value of a watched leg of a write that settles GOOD is tested. -/
theorem settle_value (write : (s.ott.entries[i]).body ≠ .rd) (good : way.progress = .doneGood) {e : WatchEntry}
    (one : s.ring.watch.filter (s.watches i x) = [e]) : (s.ring.accepts e.value → (s.settle i x way).ring.cons = e.value)
      ∧ (¬ s.ring.accepts e.value → (s.settle i x way).ring.cons = s.ring.cons
        ∧ ((s.settle i x way).causes.entries[causeIx .ringIndexBad]).pending = true) := by
  rw [(settle_ring s i x way).2, settle_writeIndexBad write good]
  exact settled_value s i x way good one

end settles

/-! ### Dispatches -/

section dispatches
variable {s t : State} {i : OttIx} {rest : List OttIx} {o : Origin} {k : TenantIx} {w : WindowIx} {body : ReqBody} {line : LineAddr}
  {sides : List Side}

/-- The ring after a dispatch, whatever the copy engine does of it. -/
theorem seen_ring (seen : SameExcept [.copy, .fabric] (s.routed i rest o k w body line sides) t) : t.ring = { s.ring with
    watch := s.ring.watch ++ s.watchEntries i ((s.ott.entries[i]).gen + 1) w body line sides } :=
  ((seen .ring (by simp)).trans (routed_part .ring (by simp))).trans (allocate_ring s i rest o k w body line sides)

/-- A port's dispatch of a routed head adds the watch entries of its legs. -/
theorem dispatch_ring {p : PortIx} {r : ReqId} {q : Request} (h : s.running) (takes : takesRequests s.links[p].mode = true)
    (next : s.nextHead p = some (r, q)) (route : s.lookup (s.requesterTenant p r) q.body q.line = .routed w sides)
    (free : s.ott.serverFree = i :: rest) : ∃ t, exec (.dispatch p) s = .next t ∧ t.ring = { s.ring with
      watch := s.ring.watch ++ s.watchEntries i ((s.ott.entries[i]).gen + 1) w q.body q.line sides } := by
  refine ⟨_, ?_, seen_ring (s := s.departHead p r) (routedSeen_frame (i := i) (rest := rest) (o := .ingress p r q.tag)
    (k := s.requesterTenant p r) (w := w) (body := q.body) (line := q.line) (sides := sides))⟩
  rw [exec_dispatch h takes next, State.takeHead, route]
  exact congrArg Host.Outcome.next (dispatchRoute_ingress (s := s.departHead p r) free)

/-- So does the fabric requester's. -/
theorem fabricDispatch_ring {q : FabricReq} (h : s.running) (next : (s.fabric.find? fun k => !(s.fabricHolds k).held) = some q)
    (route : s.fabricLookup q = .routed w sides) (free : s.ott.fabricFree = i :: rest) : ∃ t, exec .fabricDispatch s = .next t
      ∧ t.ring = { s.ring with watch := s.ring.watch ++ s.watchEntries i ((s.ott.entries[i]).gen + 1) w q.body q.line sides } := by
  obtain ⟨c, marked⟩ := markSent_left s q
  have row : exec .fabricDispatch s = .next (({ s with fabric := s.fabric.erase q, copy := c } : State).dispatchRoute (.fabric q.job) 0 w
      q.body q.line sides) := by
    show execFabricDispatch s = _
    rw [execFabricDispatch, event_running h, next]
    dsimp only
    rw [State.takeFabric, route]
    dsimp only
    rw [marked]
  have ring {u : State} (seen : SameExcept [.copy, .fabric] (({ s with fabric := s.fabric.erase q, copy := c } : State).routed i rest
      (.fabric q.job) 0 w q.body q.line sides) u) : u.ring = { s.ring with
        watch := s.ring.watch ++ s.watchEntries i ((s.ott.entries[i]).gen + 1) w q.body q.line sides } :=
    seen_ring (s := { s with fabric := s.fabric.erase q, copy := c }) seen
  by_cases slot : ∃ n, q.job = .copySlot n
  · obtain ⟨n, job⟩ := slot
    have along := dispatchRoute_copy (s := { s with fabric := s.fabric.erase q, copy := c }) (k := 0) (w := w) (body := q.body)
      (line := q.line) (sides := sides) (n := n) free
    rw [← job] at along
    exact ⟨_, row.trans (congrArg Host.Outcome.next along), ring .rfl_⟩
  · have along := dispatchRoute_ring (s := { s with fabric := s.fabric.erase q, copy := c }) (k := 0) (w := w) (body := q.body)
      (line := q.line) (sides := sides) (fun n job => slot ⟨n, job⟩) free
    exact ⟨_, row.trans (congrArg Host.Outcome.next along), ring routedSeen_frame⟩

end dispatches

/-- The value that a write carries at the location: a WR always, a WRM when its mask selects the four bytes. -/
theorem watchedValue_wrm {j : Nat} (fits : j + 4 ≤ 64) (d : LineData) (mask : ByteMask) (v : RingIx) :
    watchedValue j (.wrm d mask) = some v ↔ (∀ n : Nat, n < 4 → mask.getLsbD (j + n) = true) ∧ v = indexAt j d := by
  rw [← locationMask_covers j fits mask, watchedValue]
  by_cases covers : mask &&& locationMask j = locationMask j
  · rw [if_pos covers]
    exact ⟨fun k => ⟨covers, (Option.some.inj k).symm⟩, fun k => congrArg some k.2.symm⟩
  · rw [if_neg covers]
    exact ⟨fun k => (nomatch k), fun k => absurd k.1 covers⟩

/-- Settles O43: the watch records the consumer writes of a dispatch, and tests the value of a leg that settles GOOD. -/
theorem consumerValueTested : Obligations.ConsumerValueTested := by
  intro s r ok loc line place carries recorded hit rest
  have carried (aligned : loc % 4 = 0) (body : ReqBody) (v : RingIx) : watchedValue (loc % 64) body = some v ↔ carries body v := by
    cases body with
    | rd => exact ⟨fun k => (nomatch k), False.elim⟩
    | wr d => exact ⟨fun k => (Option.some.inj k).symm, fun k => congrArg some k.symm⟩
    | wrm d mask => exact watchedValue_wrm (by omega) d mask v
  have records (aligned : loc % 4 = 0) {i : OttIx} {w : WindowIx} {sides : List Side} {body : ReqBody} {l : LineAddr} {t : State}
      (ring : t.ring = { r with watch := r.watch ++ s.watchEntries i ((s.ott.entries[i]).gen + 1) w body l sides }) :
      recorded i w sides body l t := by
    refine ⟨_, ring, watchEntries_sides s i _ w body l sides, fun e => ?_⟩
    rw [mem_watchEntries, mem_watchedPlaces]
    exact and_congr_right fun _ => and_congr_right fun _ => and_congr_right fun _ => and_congr_left fun _ => carried aligned body e.value
  refine ⟨fun v => ⟨fun accepted => ?_, fun rejected => ?_⟩, ?dispatch, ?fabric, fun p req tag h up matched => ?good,
    fun p req tag status h up bad matched => ?bad, fun i x way bad => ?settle⟩
  · rw [takeConsumerValue_accepted s accepted]
    exact ⟨rfl, fun x h => by cases x <;> first | rfl | exact absurd (by simp) h⟩
  · rw [takeConsumerValue_rejected s rejected]
    exact ⟨raise_frame s _ _, raise_pending s _ _⟩
  case dispatch =>
    intro p rq q w sides i more h takes next route free aligned
    obtain ⟨t, row, ring⟩ := dispatch_ring h takes next route free
    exact ⟨t, row, records aligned ring⟩
  case fabric =>
    intro q w sides i more h next route free aligned
    obtain ⟨t, row, ring⟩ := fabricDispatch_ring h next route free
    exact ⟨t, row, records aligned ring⟩
  case good =>
    intro i x
    obtain ⟨-, -, -, kind⟩ := matches_iff matched
    have write : (s.ott.entries[i]).body ≠ .rd := respKind_wack.mp kind
    have row := exec_wack h up matched
    rw [takenStatus_good] at row
    refine ⟨_, row, settle_rest (s.acceptPayload p) i x _, fun none_ => settle_consKept (s.acceptPayload p) i x _ (.inr none_), fun v one => ?_⟩
    exact settle_value (s := s.acceptPayload p) write rfl one
  case bad =>
    obtain ⟨failed, -⟩ := response_bad none (takenStatus_bad (mode := s.links[p].mode) bad)
    exact ⟨_, exec_wack h up matched, settle_rest (s.acceptPayload p) _ _ _,
      settle_consKept (s.acceptPayload p) _ _ _ (.inl (by rw [failed]; decide))⟩
  case settle => exact ⟨settle_rest s i x way, settle_consKept s i x way (.inl bad)⟩

end Sys2Proof.Machine
